-- ==== Sys2Proof/Word.lean ====
section
/-! DEFINITION. The two word types of the part: the byte of a frame or stored record (R174) and the
32-bit word of an NCO (R23, R99). -/

namespace Sys2Proof

/-- One byte of a frame (R174) or of a stored record (R176). -/
abbrev Byte := BitVec 8

/-- A signed 32-bit NCO word or a 32-bit phase accumulator (section 3.6, R93, R99). -/
abbrev Word := BitVec 32

end Sys2Proof
end

