-- ==== Sys2Proof/Syntax.lean ====
section
/-! DEFINITION. The commands of the CT416: one constructor of `Instr` per row of
spec/opcode_table.json, with the operands that arrive from outside the part. -/

namespace Sys2Proof

/-- The two controller ports (chapter 11). -/
inductive Port where
  | a | b
  deriving DecidableEq, Repr

/-- "The other port" of A is B, and of B is A (section 3.1). -/
def Port.other : Port → Port
  | .a => .b
  | .b => .a

/-- The receive chains (section 3.1). -/
inductive Rx where
  | rx0 | rx1
  deriving DecidableEq, Repr

/-- The transmit chains (section 3.1). -/
inductive Tx where
  | tx0 | tx1 | tx2 | tx3
  deriving DecidableEq, Repr

/-- One of the six chains; each synthesizer and its controller are named after their chain
(section 3.1). -/
inductive Chain where
  | rx (r : Rx)
  | tx (t : Tx)
  deriving DecidableEq, Repr

/-- A slot number 0 to 15, which is also the number of the lane that carries it (section 3.1). -/
abbrev Slot := Fin 16

/-- The two records of the Plan Store (R152). -/
inductive RecordName where
  | site | dflt
  deriving DecidableEq, Repr

/-- The start-delay strap: 100 ms or 2 s (R161). -/
inductive Strap where
  | short | long
  deriving DecidableEq, Repr

/-- A supply measurement in steps of 0.5% of the nominal supply, 0.0% to 127.5% (R158). -/
abbrev HalfPercent := Fin 256

/-- What a transaction of a sound frame brings: the payload bytes, and how many bytes of fill the controller
clocked after the frame (R165, R174). -/
structure Sent where
  payload : List Byte
  fill : Nat
  deriving DecidableEq, Repr

/-- What a discarded transaction brings: the bytes clocked in, and how many resets came between the assertion of
its chip-select and its deassertion (R165). -/
structure Discarded where
  bytes : List Byte
  resets : Nat
  deriving DecidableEq, Repr

/-- What the closing of a gate brings: the number of its measurement among those started since the reset, so
that the closing of an abandoned one can be told apart (R88), and the count of monitor edges (R27). -/
structure GateClosing where
  number : Nat
  count : Nat
  deriving DecidableEq, Repr

/-- The commands. A request row (NOP to CLEAR_RESET_CAUSE) is the taking, at the deassertion of the port's
chip-select, of a frame of that kind whose framing is sound: its operands are the port, the tag byte, and the
payload with the fill clocked after the frame (R165, R174). An event row carries what the event brings from
outside: the line, chain or measurement concerned and the sampled or counted value. -/
inductive Instr where
  /-- NOP frame (R167). -/
  | nop (p : Port) (tag : Byte) (payload : Sent)
  /-- READ_STATUS frame (R173). -/
  | readStatus (p : Port) (tag : Byte) (payload : Sent)
  /-- READ_PLAN frame (R172). -/
  | readPlan (p : Port) (tag : Byte) (payload : Sent)
  /-- READ_NOTICES frame (R170). -/
  | readNotices (p : Port) (tag : Byte) (payload : Sent)
  /-- TAKE_EDIT frame (R36). -/
  | takeEdit (p : Port) (tag : Byte) (payload : Sent)
  /-- RELEASE_EDIT frame (R38). -/
  | releaseEdit (p : Port) (tag : Byte) (payload : Sent)
  /-- SET_CHAIN frame (R10). -/
  | setChain (p : Port) (tag : Byte) (payload : Sent)
  /-- SET_SLOT frame (R11). -/
  | setSlot (p : Port) (tag : Byte) (payload : Sent)
  /-- CLEAR_SLOT frame (R11). -/
  | clearSlot (p : Port) (tag : Byte) (payload : Sent)
  /-- SET_PROFILE frame (R12). -/
  | setProfile (p : Port) (tag : Byte) (payload : Sent)
  /-- COMMIT frame (R42). -/
  | commit (p : Port) (tag : Byte) (payload : Sent)
  /-- CANCEL_COMMIT frame (R43). -/
  | cancelCommit (p : Port) (tag : Byte) (payload : Sent)
  /-- REVERT frame (R44). -/
  | revert (p : Port) (tag : Byte) (payload : Sent)
  /-- RESTORE_CHAIN frame (R147). -/
  | restoreChain (p : Port) (tag : Byte) (payload : Sent)
  /-- MEASURE frame (R90). -/
  | measure (p : Port) (tag : Byte) (payload : Sent)
  /-- STORE_DEFAULT frame (R157). -/
  | storeDefault (p : Port) (tag : Byte) (payload : Sent)
  /-- CLEAR_RESET_CAUSE frame (R160). -/
  | clearResetCause (p : Port) (tag : Byte) (payload : Sent)
  /-- A taken frame that fails the framing check of R166: all bytes clocked in, fill included. -/
  | frameError (p : Port) (bytes : List Byte)
  /-- A valid frame whose kind is not one of the seventeen (R167). -/
  | unknownRequest (p : Port) (kind tag : Byte) (payload : Sent)
  /-- A frame discarded by R165 (before start-up selection, or cut by a reset). -/
  | frameDiscarded (p : Port) (bytes : Discarded)
  /-- Expiry of a port's silence timer (R168). -/
  | silenceExpiry (p : Port)
  /-- The boundary of a counted second mark (R67). -/
  | secondMark
  /-- A rising edge of the 1 PPS input (R68). -/
  | ppsEdge
  /-- The boundary of a substituted second mark (R68). -/
  | substitutedMark
  /-- Expiry of the probation timer (R53). -/
  | probationExpiry
  /-- End of a presence window: the reference edges counted in it, and the level of the
  disciplined-status input sampled at its end (R58, R59). -/
  | presenceWindowEnd (edges : Nat) (disciplined : Bool)
  /-- Expiry of the qualify timer (R60). -/
  | qualifyExpiry
  /-- Expiry of the holdover timer (R61). -/
  | holdoverExpiry
  /-- Programming complete on a synthesizer's control line (R76). -/
  | programmingComplete (c : Chain)
  /-- End of a power-down transfer on a synthesizer's control line (R75). -/
  | powerDownTransferEnd (c : Chain)
  /-- Expiry of a settle timer, with the lock-detect sample of that boundary (R77). -/
  | settleExpiry (c : Chain) (lockDetect : Bool)
  /-- Expiry of a retry timer (R79). -/
  | retryExpiry (c : Chain)
  /-- Expiry of an audit timer (R81). -/
  | auditExpiry (c : Chain)
  /-- A lock-detect sample taken deasserted at a step boundary (R82). -/
  | lockDrop (c : Chain)
  /-- Closing of the gate of a measurement (R27, R87). -/
  | gateClose (count : GateClosing)
  /-- The backup-time timeout of the measurement in flight (R29). -/
  | measurementTimeout
  /-- Expiry of a mixer's step timer (R103). -/
  | rampStepExpiry (t : Tx)
  /-- Expiry of a drive-settle timer (R127). -/
  | driveSettleExpiry (t : Tx)
  /-- Expiry of a PA-discharge timer (R130). -/
  | paDischargeExpiry (t : Tx)
  /-- The PA fault input of a chain as sampled at a step boundary (R134). -/
  | paFaultInput (t : Tx) (asserted : Bool)
  /-- The PA warning input of a chain as sampled at a step boundary (R134). -/
  | paWarningInput (t : Tx) (asserted : Bool)
  /-- Expiry of a chain's recovery hold (R142). -/
  | recoveryHoldExpiry (t : Tx)
  /-- A boundary of the 100 ms input windows, with the mean channel power of each slot over the window
  just ended, in dBFS rounded down to an integer (R110). -/
  | inputWindowBoundary (results : Vector Int 16)
  /-- Expiry of the DISCARD half of the probe's visit (R116). -/
  | discardHalfExpiry
  /-- Expiry of the JUDGE half of the probe's visit, with the mean power over that half, in dBFS
  rounded down to an integer (R116). -/
  | judgeHalfExpiry (result : Int)
  /-- Completion of the write in flight: success, or failure found at the read-back (R155). -/
  | storeWriteCompletion (success : Bool)
  /-- Expiry of a record's 1 s retry timer (R155). -/
  | storeRetryExpiry (r : RecordName)
  /-- A supply measurement (R158). -/
  | supplyMeasurement (m : HalfPercent)
  /-- The part's first supply, or a supply that has fallen below 50.0% (R159). -/
  | powerOn
  /-- An assertion of the reset pin (R159). -/
  | resetPinAssert
  /-- The event of reset release: the releasing measurement, the level of the reset pin (asserted or
  not) and the start-delay strap as read at the release (R158, R159, R161). -/
  | resetRelease (m : HalfPercent) (pinAsserted : Bool) (strap : Strap)
  /-- Expiry of the start delay, which is start-up selection (R161, R162). -/
  | startUpSelection
  deriving DecidableEq, Repr

end Sys2Proof
end

