-- ==== Sys2Proof/Decode.lean ====
section
/-! DEFINITION. The reading of a command from the bits of spec/opcode_table.json. No row of the table gives
bits: the part decodes no instruction words, and a request arrives as a frame of bytes (R174), which
Sys2Proof/Machine/Frames.lean and Sys2Proof/Machine/Operands.lean read. -/

namespace Sys2Proof

/-- The command a word of the table's bits spells: none, because no row has bits. -/
def decodeTableWord (_nbits _w : Nat) : Option Instr := none

end Sys2Proof
end

