-- ==== Sys2Proof/Config.lean ====
section
/-! DEFINITION. The free values of the model: constants with no body, so that no proof can see them. Each is
applied to the model's own draw counter `State.draws`, so that every draw is fresh. -/

namespace Sys2Proof.Config

/-- The number of lane samples taken in one advance of the time base while its steps are presence
windows. The sample clock derives from the reference (section 3.2), and in ABSENT nothing derived
from the reference can be trusted (section 4.2), so the manual gives no number; the argument is the
model's own draw counter. Assumption 5. -/
opaque samplesInAbsence : Nat → Nat

/-- Whether, at the end of a presence window judged absent, a change of the disciplined-status input sampled at
the same boundary is taken before the judgement: R62 gives the outcome of both orders and leaves the order
open. Assumption 7. -/
opaque disciplinedFirst : Nat → Bool

end Sys2Proof.Config
end

