-- ==== Sys2Proof/Machine/State.lean ====
section
/-! DEFINITION. The state of the CT416 as plain data: every register, timer, set, list and record the
manual names (INVENTORY.md, '## State', gives the rule of each), the queue of waiting commands, and the
machine right after reset release. -/

namespace Sys2Proof.Machine

/-! ## Containers: one value per port, chain, record or slot -/

/-- One value for each controller port. -/
structure PerPort (α : Type) where
  a : α
  b : α
  deriving DecidableEq, Repr

/-- One value for each receive chain. -/
structure PerRx (α : Type) where
  rx0 : α
  rx1 : α
  deriving DecidableEq, Repr

/-- One value for each transmit chain. -/
structure PerTx (α : Type) where
  tx0 : α
  tx1 : α
  tx2 : α
  tx3 : α
  deriving DecidableEq, Repr

/-- One value for each of the six chains. -/
structure PerChain (α : Type) where
  rx0 : α
  rx1 : α
  tx0 : α
  tx1 : α
  tx2 : α
  tx3 : α
  deriving DecidableEq, Repr

/-- One value for each record of the Plan Store. -/
structure PerRecord (α : Type) where
  site : α
  dflt : α
  deriving DecidableEq, Repr

/-- One value for each slot (and so for each lane). -/
abbrev PerSlot (α : Type) := Vector α 16

def PerPort.get {α : Type} (v : PerPort α) : Port → α
  | .a => v.a
  | .b => v.b

def PerPort.put {α : Type} (v : PerPort α) : Port → α → PerPort α
  | .a, x => { v with a := x }
  | .b, x => { v with b := x }

def PerRx.get {α : Type} (v : PerRx α) : Rx → α
  | .rx0 => v.rx0
  | .rx1 => v.rx1

def PerRx.put {α : Type} (v : PerRx α) : Rx → α → PerRx α
  | .rx0, x => { v with rx0 := x }
  | .rx1, x => { v with rx1 := x }

def PerTx.get {α : Type} (v : PerTx α) : Tx → α
  | .tx0 => v.tx0
  | .tx1 => v.tx1
  | .tx2 => v.tx2
  | .tx3 => v.tx3

def PerTx.put {α : Type} (v : PerTx α) : Tx → α → PerTx α
  | .tx0, x => { v with tx0 := x }
  | .tx1, x => { v with tx1 := x }
  | .tx2, x => { v with tx2 := x }
  | .tx3, x => { v with tx3 := x }

def PerChain.get {α : Type} (v : PerChain α) : Chain → α
  | .rx .rx0 => v.rx0
  | .rx .rx1 => v.rx1
  | .tx .tx0 => v.tx0
  | .tx .tx1 => v.tx1
  | .tx .tx2 => v.tx2
  | .tx .tx3 => v.tx3

def PerChain.put {α : Type} (v : PerChain α) : Chain → α → PerChain α
  | .rx .rx0, x => { v with rx0 := x }
  | .rx .rx1, x => { v with rx1 := x }
  | .tx .tx0, x => { v with tx0 := x }
  | .tx .tx1, x => { v with tx1 := x }
  | .tx .tx2, x => { v with tx2 := x }
  | .tx .tx3, x => { v with tx3 := x }

def PerRecord.get {α : Type} (v : PerRecord α) : RecordName → α
  | .site => v.site
  | .dflt => v.dflt

def PerRecord.put {α : Type} (v : PerRecord α) : RecordName → α → PerRecord α
  | .site, x => { v with site := x }
  | .dflt, x => { v with dflt := x }

def PerSlot.get {α : Type} (v : PerSlot α) (n : Slot) : α := v[n.val]

def PerSlot.put {α : Type} (v : PerSlot α) (n : Slot) (x : α) : PerSlot α := v.set n.val x

/-- A timer: the step count at which it expires while it runs, `none` while it is stopped (R66). -/
abbrev Timer := Option Nat

/-! ## The plan record (chapter 1) -/

/-- Where a plan came from (R9). -/
inductive Origin where
  | a | b | storeSite | storeDefault | empty
  deriving DecidableEq, Repr

/-- A severity (R7) or a protective level (R138): 0 note only, 1 reduce, 2 mute, 3 shut down. -/
abbrev Level := Fin 4

/-- The nine condition kinds, in rank order (R7, R139). -/
inductive Condition where
  | refAbsent | txLoLost | txLoUnverified | paFault | refExpired | supplyWarning | paWarning
  | refHoldover | linksSilent
  deriving DecidableEq, Repr

/-- A transmit chain entry of a plan (R3); drive-settle and PA-discharge count steps of 10 ms. -/
structure TxSettings where
  enabled : Bool
  lo : Option Nat
  rampUnit : Nat
  driveSettle : Nat
  paDischarge : Nat
  deriving DecidableEq, Repr

/-- The fallback of a slot (R6). -/
structure Fallback where
  chain : Rx
  frequency : Nat
  deriving DecidableEq, Repr

/-- A present slot entry (R4); frequencies in Hz, threshold in dBFS. -/
structure SlotEntry where
  inputChain : Rx
  inputFrequency : Nat
  outputChain : Tx
  outputFrequency : Nat
  bandwidthClass : Fin 8
  share : Nat
  threshold : Int
  fallback : Option Fallback
  deriving DecidableEq, Repr

/-- Profile part 0: one severity for each condition kind (R7). -/
structure Severities where
  refAbsent : Level
  txLoLost : Level
  txLoUnverified : Level
  paFault : Level
  refExpired : Level
  supplyWarning : Level
  paWarning : Level
  refHoldover : Level
  linksSilent : Level
  deriving DecidableEq, Repr

/-- Profile part 1: the timing and limit fields, in the units of R8. -/
structure Limits where
  recoveryHold : Nat
  tripLimit : Nat
  tripWindow : Nat
  holdoverAllowance : Nat
  qualifyTime : Nat
  lossConfirm : Nat
  restoreConfirm : Nat
  restoreVisits : Nat
  attempts : Nat
  settle : Nat
  gateExponent : Nat
  countTolerance : Nat
  auditInterval : Nat
  retryHold : Nat
  probation : Nat
  linkSilence : Nat
  deriving DecidableEq, Repr

/-- A plan record (R1). -/
structure Plan where
  rx : PerRx (Option Nat)
  tx : PerTx TxSettings
  slots : PerSlot (Option SlotEntry)
  severities : Severities
  limits : Limits
  issue : Nat
  origin : Origin
  deriving DecidableEq, Repr

/-- The default severities (R7). -/
def Severities.default : Severities :=
  { refAbsent := 3, txLoLost := 2, txLoUnverified := 3, paFault := 3, refExpired := 3,
    supplyWarning := 1, paWarning := 1, refHoldover := 0, linksSilent := 0 }

/-- The default timing and limit fields (R8). -/
def Limits.default : Limits :=
  { recoveryHold := 10, tripLimit := 3, tripWindow := 10, holdoverAllowance := 240,
    qualifyTime := 10, lossConfirm := 5, restoreConfirm := 30, restoreVisits := 3, attempts := 3,
    settle := 20, gateExponent := 3, countTolerance := 50, auditInterval := 300, retryHold := 120,
    probation := 120, linkSilence := 5 }

/-- The default transmit settings (R3). -/
def TxSettings.default : TxSettings :=
  { enabled := false, lo := none, rampUnit := 10, driveSettle := 20, paDischarge := 50 }

/-- The empty plan (R1). -/
def Plan.empty : Plan :=
  { rx := ⟨none, none⟩
    tx := ⟨.default, .default, .default, .default⟩
    slots := Vector.replicate 16 none
    severities := .default
    limits := .default
    issue := 0
    origin := .empty }

/-! ## Plan Engine (chapter 3) -/

/-- Standing of the active plan (R34). -/
inductive PlanStatus where
  | onProbation | settled
  deriving DecidableEq, Repr

/-- Who made a pending apply (R41). -/
inductive Requester where
  | a | b | probation
  deriving DecidableEq, Repr

/-- Kind of an apply (R41, R51). -/
inductive ApplyKind where
  | commit | revert
  deriving DecidableEq, Repr

/-- What a pending apply will do: COMMIT carries the plan that will become active, REVERT takes its
plan from the top of the history at the mark (R41). -/
inductive PendingChange where
  | commit (plan : Plan)
  | revert
  deriving DecidableEq, Repr

/-- The pending apply record (R41). -/
structure PendingApply where
  change : PendingChange
  issue : Nat
  requestedBy : Requester
  deriving DecidableEq, Repr

/-- The last-apply record (R51); `discarded` is the issue of an overwritten history plan. -/
structure LastApply where
  kind : ApplyKind
  requestedBy : Requester
  applied : Nat
  outgoing : Nat
  discarded : Option Nat
  markTime : Nat
  deriving DecidableEq, Repr

/-- State of the Plan Engine (R34). The grant is FREE when `none`; a history entry is tagged EMPTY
when `none` (R45). -/
structure PlanEngine where
  active : Plan
  status : PlanStatus
  probation : Timer
  grant : Option Port
  staged : Option Plan
  pendingApply : Option PendingApply
  history : Vector (Option Plan) 4
  top : Fin 4
  lastIssued : Nat
  lastApply : Option LastApply
  deriving DecidableEq, Repr

/-! ## Reference Monitor and time base (chapter 4) -/

/-- The five reference states (section 4.2). -/
inductive RefState where
  | absent | qualifying | locked | holdover | expired
  deriving DecidableEq, Repr

/-- State of the Reference Monitor (R58 to R64): `enteredAt` is the step count at the entry into the
present state, `leftLocked` the step count at the latest departure from LOCKED, 0 before the first (R67). -/
structure RefMonitor where
  state : RefState
  enteredAt : Nat
  leftLocked : Nat
  qualify : Timer
  holdover : Timer
  disciplined : Bool
  lastCount : Nat
  deriving DecidableEq, Repr

/-- State of the time base (R65 to R68). `steps` counts 10 ms steps from reset release, `backup` counts
10 ms units of backup time from reset release, `lastMark` is the step count at the previous second mark
(0 before the first), `lastWindow` the step count at the last input window boundary (R110), and
`startDelay` the timer of the start delay (R161). -/
structure TimeBase where
  steps : Nat
  backup : Nat
  lastMark : Nat
  seconds : Nat
  substituted : Nat
  lastWindow : Nat
  startDelay : Timer
  deriving DecidableEq, Repr

/-! ## Synthesizer controllers and Frequency Counter (chapter 5) -/

/-- A pair of divider words (N, F) (R20). -/
structure DividerWords where
  n : Nat
  f : Nat
  deriving DecidableEq, Repr

/-- States of a synthesizer controller (R72). -/
inductive SynState where
  | idle | programming | settling | queued | measuring | verified | failed
  deriving DecidableEq, Repr

/-- Verdict of a measurement (R29). -/
inductive Verdict where
  | within | low | high | unordered
  deriving DecidableEq, Repr

/-- What a synthesizer's control line is doing: nothing, a programming of a pair of words (R76), or a
power-down transfer (R75). -/
inductive Transfer where
  | none
  | programming (words : DividerWords)
  | powerDown
  deriving DecidableEq, Repr

/-- The synthesizer's output as the last transfer left it (R72, R75); before the first transfer it is
that of the synthesizer itself (R92, assumption 22). -/
inductive SynOutput where
  | own | enabled | disabled
  deriving DecidableEq, Repr

/-- A synthesizer context (R71), with its control line and output. -/
structure SynContext where
  wanted : Option Nat
  programmed : Option DividerWords
  state : SynState
  attempts : Nat
  lastVerdict : Option Verdict
  lastCount : Option Nat
  settle : Timer
  audit : Timer
  retry : Timer
  auditing : Bool
  lost : Bool
  restartPending : Bool
  transfer : Transfer
  output : SynOutput
  deriving DecidableEq, Repr

/-- An entry of the counter queue (R85). -/
structure QueueEntry where
  syn : Chain
  audit : Bool
  deriving DecidableEq, Repr

/-- The measurement in flight (R86, R89): its number among those started since the reset (R88; the model's
own), its start in milliseconds of the time base (a tenth of a step; the model's own, assumption 30), E, T and
the gate exponent fixed then (R27), and the backup time at which its timeout is taken (R29), in units of 10 ms
(assumption 23). -/
structure Measurement where
  number : Nat
  startedAt : Nat
  syn : Chain
  audit : Bool
  spoiled : Bool
  expected : Nat
  tolerance : Nat
  gateExponent : Nat
  timeout : Nat
  deriving DecidableEq, Repr

/-- The last-measurement record (R87). -/
structure LastMeasurement where
  syn : Chain
  audit : Bool
  verdict : Verdict
  count : Option Nat
  expected : Nat
  tolerance : Nat
  deriving DecidableEq, Repr

/-- State of the Frequency Counter (R85 to R89); the counter is IDLE when `current` is `none`. `started` counts
the measurements started since the reset, by which a closing or a timeout names its measurement (R88). -/
structure Counter where
  started : Nat
  queue : List QueueEntry
  current : Option Measurement
  last : Option LastMeasurement
  deriving DecidableEq, Repr

/-! ## Lanes and mixers (chapter 6) -/

/-- Lane states (R95). -/
inductive LaneState where
  | unassigned | held | livePrimary | liveFallback | inputLost
  deriving DecidableEq, Repr

/-- The input a lane draws from (R93). -/
inductive Source where
  | primary | fallback
  deriving DecidableEq, Repr

/-- A lane context (R93). The source field is held once, in the slot's input record; the two phase
accumulators are held in `State.phases`. -/
structure Lane where
  slot : Option SlotEntry
  state : LaneState
  primaryWord : Option Word
  fallbackWord : Option Word
  transmitWord : Option Word
  phaseReset : Bool
  current : Nat
  target : Nat
  start : Nat
  deriving DecidableEq, Repr

/-- The two NCO phase accumulators of a lane (R93, R99). -/
structure Phases where
  receive : Word
  transmit : Word
  deriving DecidableEq, Repr

/-- A mixer context (R93): `step` is the step count k, 16 when no ramp runs. -/
structure Mixer where
  rampUnit : Nat
  step : Nat
  timer : Timer
  deriving DecidableEq, Repr

/-! ## Input Supervisor (chapter 7) -/

/-- Input state of a slot (R108). -/
inductive InputState where
  | livePrimary | liveFallback | inputLost
  deriving DecidableEq, Repr

/-- Judgement of a window (R111). -/
inductive Judgement where
  | low | good
  deriving DecidableEq, Repr

/-- Result of a probe visit (R116). -/
inductive VisitResult where
  | good | low
  deriving DecidableEq, Repr

/-- Half of a probe visit (R116). -/
inductive VisitPhase where
  | discard | judge
  deriving DecidableEq, Repr

/-- An input record (R108). `windowVoid` is the model's record of R110: something has made the window
in progress void. -/
structure InputRecord where
  inputState : Option InputState
  source : Source
  judgement : Option Judgement
  lowCount : Nat
  goodCount : Nat
  lastResult : Option Int
  visitCounter : Nat
  lastVisit : Option VisitResult
  windowVoid : Bool
  deriving DecidableEq, Repr

/-- The probe record (R108). `clean` is the model's record of R116: the primary synthesizer has been VERIFIED
since the visit started, and the primary receive word was not none when the JUDGE half started. -/
structure Probe where
  visit : Option Slot
  phase : Option VisitPhase
  timer : Timer
  lastVisited : Option Slot
  clean : Bool
  deriving DecidableEq, Repr

/-! ## Output Chain Sequencers (chapter 8) -/

/-- The nine states of a sequencer (R122). -/
inductive SeqState where
  | off | tuning | driveSettle | rampUp | onAir | muted | rampDown | paDischarge | lockedOut
  deriving DecidableEq, Repr

/-- A sequencer context (R123), with the previous samples of the amplifier inputs (R134). `runDown` is the
model's record of R133: a lockout was removed while the chain was going down in RAMP_DOWN, and the going-off
sequence runs to its end (assumption 29). -/
structure Sequencer where
  state : SeqState
  runDown : Bool
  retunePending : Bool
  driveSettled : Bool
  settleTimer : Timer
  dischargeTimer : Timer
  driveSettle : Nat
  paDischarge : Nat
  handedOver : Option Nat
  faultSample : Bool
  warningSample : Bool
  deriving DecidableEq, Repr

/-! ## Protection Unit (chapter 9) -/

/-- The device-wide present set (R138). -/
structure DeviceConditions where
  refAbsent : Bool
  refExpired : Bool
  supplyWarning : Bool
  refHoldover : Bool
  linksSilent : Bool
  deriving DecidableEq, Repr

/-- A chain's present set (R138). -/
structure ChainConditions where
  txLoLost : Bool
  txLoUnverified : Bool
  paFault : Bool
  paWarning : Bool
  deriving DecidableEq, Repr

/-- The chain-local hardware conditions present at a trip (R138). -/
inductive TripFaults where
  | paFault | txLoLost | both
  deriving DecidableEq, Repr

/-- A trip entry (R138). -/
structure Trip where
  time : Nat
  faults : TripFaults
  deriving DecidableEq, Repr

/-- The protection state of one transmit chain (R138). `highest` is S as last decided (R140), and
`lockedOut` says whether the chain is in the lockout set. -/
structure ChainProtection where
  present : ChainConditions
  highest : Level
  level : Level
  hold : Timer
  cause : Option Condition
  holding : Bool
  trips : List Trip
  lockedOut : Bool
  deriving DecidableEq, Repr

/-- State of the Protection Unit (R138). -/
structure Protection where
  device : DeviceConditions
  chains : PerTx ChainProtection
  deriving DecidableEq, Repr

/-! ## Plan Store and Supply Monitor (chapter 10) -/

/-- Status of a stored record (R152). -/
inductive RecordStatus where
  | valid | invalid
  deriving DecidableEq, Repr

/-- A content for a record: a plan and a lockout set; the DEFAULT record keeps the plan alone (R152). -/
structure Content where
  plan : Plan
  lockout : PerTx Bool
  deriving DecidableEq, Repr

/-- State of one record (R152): `image` is the non-volatile bytes (R176). -/
structure StoredRecord where
  image : List Byte
  status : RecordStatus
  pendingContent : Option Content
  retryUsed : Bool
  retry : Timer
  failures : Nat
  deriving DecidableEq, Repr

/-- The write in flight (R154), with "retry used" of its content (R155). -/
structure InFlight where
  record : RecordName
  content : Content
  retryUsed : Bool
  deriving DecidableEq, Repr

/-- State of the Plan Store (R152 to R163); the writer is IDLE when `inFlight` is `none`. -/
structure PlanStore where
  records : PerRecord StoredRecord
  inFlight : Option InFlight
  startSource : Origin
  startStatuses : PerRecord RecordStatus
  deriving DecidableEq, Repr

/-- Supply states (R158). -/
inductive SupplyState where
  | normal | warning
  deriving DecidableEq, Repr

/-- Kind of a reset (R159). -/
inductive ResetCause where
  | powerOn | undervoltage | pin
  deriving DecidableEq, Repr

/-- State of the Supply Monitor (R158, R159): the latest measurement, the reset-cause record, and what
the present hold has seen (a supply below 50.0%, a supply below 80.0%, the reset pin). -/
structure Supply where
  state : SupplyState
  measurement : HalfPercent
  lastCause : ResetCause
  undervoltageSeen : Bool
  sawBelow50 : Bool
  sawBelow80 : Bool
  pinAsserted : Bool
  deriving DecidableEq, Repr

/-! ## Controller Ports (chapter 11) -/

/-- Port states (R164). -/
inductive LinkState where
  | active | silent
  deriving DecidableEq, Repr

/-- The fourteen notice kinds, in the order of the table of R170. -/
inductive Notice where
  | resetOccurred | planApplied | planReverted | commitCancelled | grantLost | peerSilent
  | peerReturned | chainChanged | synthFailed | inputChangeover | referenceChanged | storeDone
  | storeFailed | supplyChanged
  deriving DecidableEq, Repr

/-- A notice set as the notice mask of section 12.3: bit 0 is RESET_OCCURRED, bit 13 SUPPLY_CHANGED. -/
abbrev NoticeSet := BitVec 14

/-- Response statuses, in the order of the status table of R171. -/
inductive Status where
  | ok | frameError | unknownRequest | invalidField | noGrant | heldByOther | planInvalid
  | applyPending | nothingPending | historyEmpty | chainsActive | notAvailable
  deriving DecidableEq, Repr

/-- A response frame (R174) less its length and CRC bytes, which its contents determine. -/
structure Response where
  kind : Byte
  tag : Byte
  status : Status
  payload : List Byte
  deriving DecidableEq, Repr

/-- State of a port (R164). The attention line is asserted while the notice set is not empty, so it is
read from the set. `dataOut` is what the port's latest transaction clocked out of its response, and
`beforeReset` the last responses as they stood when each reset stopped the port, the latest reset first
(R165). -/
structure PortState where
  link : LinkState
  silence : Timer
  linkSilence : Nat
  notices : NoticeSet
  lastResponse : Response
  dataOut : Option (List Byte)
  beforeReset : List Response
  deriving DecidableEq, Repr

/-! ## The machine -/

/-- Whether the part is held in reset, in the start delay, or running (R159, R161). -/
inductive Phase where
  | held | startDelay | running
  deriving DecidableEq, Repr

/-- The state of the part. `pending` is the queue of commands that are waiting, first in, first out;
`draws` is the model's own counter of free values drawn (Config.samplesInAbsence, Config.disciplinedFirst). -/
structure State where
  phase : Phase
  time : TimeBase
  ref : RefMonitor
  pe : PlanEngine
  syn : PerChain SynContext
  fc : Counter
  lanes : PerSlot Lane
  phases : PerSlot Phases
  mixers : PerTx Mixer
  inputs : PerSlot InputRecord
  probe : Probe
  os : PerTx Sequencer
  pu : Protection
  store : PlanStore
  supply : Supply
  ports : PerPort PortState
  draws : Nat
  pending : List Instr
  deriving DecidableEq, Repr

/-- Why the machine stops with a fault. -/
inductive Fault where
  /-- Raised by a second mark (SECOND_MARK, PPS_EDGE, SUBSTITUTED_MARK) that finds a REVERT-kind apply
  pending while the history entry at TOP is EMPTY. R48 says this cannot be: the record was made with the
  history non-empty and no push or pop can occur while it is pending, so no run from reset reaches it,
  and the manual gives no effect for it (assumption 19). Safe. -/
  | revertWithEmptyHistory
  deriving DecidableEq, Repr

/-- Why a command is refused. -/
inductive Refusal where
  /-- Raised by `exec` alone, for a command that has no meaning in the model yet; no arm raises it now.
  Safe. -/
  | notModelled (mnemonic : String)
  deriving DecidableEq, Repr

/-! ## After reset -/

/-- A synthesizer context after reset (R92). -/
def SynContext.reset : SynContext :=
  { wanted := none, programmed := none, state := .idle, attempts := 0, lastVerdict := none,
    lastCount := none, settle := none, audit := none, retry := none, auditing := false, lost := false,
    restartPending := false, transfer := .none, output := .own }

/-- A lane after reset (R94). -/
def Lane.reset : Lane :=
  { slot := none, state := .unassigned, primaryWord := none, fallbackWord := none,
    transmitWord := none, phaseReset := false, current := 0, target := 0, start := 0 }

/-- A mixer after reset (R94). -/
def Mixer.reset : Mixer := { rampUnit := 10, step := 16, timer := none }

/-- An input record after reset (R109); a window of a slot whose lane is not measured is void (R110). -/
def InputRecord.reset : InputRecord :=
  { inputState := none, source := .primary, judgement := none, lowCount := 0, goodCount := 0,
    lastResult := none, visitCounter := 0, lastVisit := none, windowVoid := true }

/-- A sequencer after reset (R137, R139). -/
def Sequencer.reset : Sequencer :=
  { state := .off, runDown := false, retunePending := false, driveSettled := false, settleTimer := none,
    dischargeTimer := none, driveSettle := 20, paDischarge := 50, handedOver := none,
    faultSample := false, warningSample := false }

/-- The protection state of a chain at reset release: level 3 from REF_ABSENT (R151). -/
def ChainProtection.reset : ChainProtection :=
  { present := ⟨false, false, false, false⟩, highest := 3, level := 3, hold := none,
    cause := some .refAbsent, holding := false, trips := [], lockedOut := false }

/-- The empty NOP response (R164). -/
def Response.empty : Response := { kind := 0, tag := 0, status := .ok, payload := [] }

/-- A port at reset release (R164): its notice set holds RESET_OCCURRED alone. -/
def PortState.reset : PortState :=
  { link := .silent, silence := none, linkSilence := 5, notices := 1#14, lastResponse := .empty,
    dataOut := none, beforeReset := [] }

/-- A record that has never been written: erased to 0xFF (R176), so INVALID. Assumption 3. -/
def StoredRecord.blank (size : Nat) : StoredRecord :=
  { image := List.replicate size 0xFF, status := .invalid, pendingContent := none,
    retryUsed := false, retry := none, failures := 0 }

/-- The machine right after the release of a power-on reset: every block in the state its chapter gives
after reset release (R35, R70, R92, R94, R109, R137, R151, R152, R159, R164), in the start delay, with
no active plan yet (the default profile in effect, assumption 2). The blank stored records, the releasing
measurement of 100.0% and the 2 s strap are the model's choices (assumption 3). -/
def State.reset : State :=
  { phase := .startDelay
    time := { steps := 0, backup := 0, lastMark := 0, seconds := 0, substituted := 0,
              lastWindow := 0, startDelay := some 200 }
    ref := { state := .absent, enteredAt := 0, leftLocked := 0, qualify := none, holdover := none,
             disciplined := false, lastCount := 0 }
    pe := { active := .empty, status := .settled, probation := none, grant := none, staged := none,
            pendingApply := none, history := Vector.replicate 4 none, top := 0, lastIssued := 0,
            lastApply := none }
    syn := ⟨.reset, .reset, .reset, .reset, .reset, .reset⟩
    fc := { started := 0, queue := [], current := none, last := none }
    lanes := Vector.replicate 16 .reset
    phases := Vector.replicate 16 ⟨0, 0⟩
    mixers := ⟨.reset, .reset, .reset, .reset⟩
    inputs := Vector.replicate 16 .reset
    probe := { visit := none, phase := none, timer := none, lastVisited := none, clean := false }
    os := ⟨.reset, .reset, .reset, .reset⟩
    pu := { device := { refAbsent := true, refExpired := false, supplyWarning := false,
                        refHoldover := false, linksSilent := true }
            chains := ⟨.reset, .reset, .reset, .reset⟩ }
    store := { records := ⟨.blank 418, .blank 417⟩, inFlight := none, startSource := .empty,
               startStatuses := ⟨.invalid, .invalid⟩ }
    supply := { state := .normal, measurement := 200, lastCause := .powerOn,
                undervoltageSeen := false, sawBelow50 := false, sawBelow80 := false,
                pinAsserted := false }
    ports := ⟨.reset, .reset⟩
    draws := 0
    pending := [] }

end Sys2Proof.Machine
end

