-- ==== Sys2Proof/Machine/Arithmetic.lean ====
section
/-! DEFINITION. The frequency, count, share and ramp arithmetic of chapter 2, on exact integers: every
quantity is scaled so that no rounding happens except where a formula of the chapter says so. -/

namespace Sys2Proof.Machine

/-! ## Enumerations -/

/-- TX0 to TX3 in ascending order. -/
def allTx : List Tx := [.tx0, .tx1, .tx2, .tx3]

/-- The six chains in the order of their codes (section 12.3). -/
def allChains : List Chain :=
  [.rx .rx0, .rx .rx1, .tx .tx0, .tx .tx1, .tx .tx2, .tx .tx3]

/-- Slots 0 to 15 in ascending order. -/
def allSlots : List Slot := [0, 1, 2, 3, 4, 5, 6, 7, 8, 9, 10, 11, 12, 13, 14, 15]

/-- The condition kinds in rank order (R139). -/
def allConditions : List Condition :=
  [.refAbsent, .txLoLost, .txLoUnverified, .paFault, .refExpired, .supplyWarning, .paWarning,
   .refHoldover, .linksSilent]

/-! ## Rounding (section 3.6) -/

/-- `round (num / den)`: the nearest integer, the even one at an exact half. -/
def roundDiv (num : Int) (den : Nat) : Int :=
  let q := num / den
  let r := num % den
  if 2 * r < den then q
  else if (den : Int) < 2 * r then q + 1
  else if q % 2 = 0 then q else q + 1

/-- `ceil (num / den)`. -/
def ceilDiv (num den : Nat) : Nat := (num + den - 1) / den

/-! ## Divider words and offsets -/

/-- The divider words of a nominal LO (R20). -/
def dividerWords (lo : Nat) : DividerWords :=
  let n := lo / 10000000
  let frac := lo - 10000000 * n
  let f := (roundDiv (frac * 2 ^ 24 : Nat) 10000000).toNat
  if f = 2 ^ 24 then { n := n + 1, f := 0 } else { n := n, f := f }

/-- The achieved LO of a pair of words, in units of 2^-24 Hz (R21). -/
def achievedScaled (w : DividerWords) : Int :=
  (10000000 * 2 ^ 24 * w.n + 10000000 * w.f : Nat)

/-- The offset of a frequency from the achieved LO, in units of 2^-24 Hz (R22). -/
def offsetScaled (frequency : Nat) (w : DividerWords) : Int :=
  (frequency * 2 ^ 24 : Nat) - achievedScaled w

/-- The NCO word W = round(65.536 × (f − 10,000,000·N) − 39.0625 × F), as a signed integer: both
coefficients are multiples of 1/2000 (R23). -/
def ncoInteger (frequency : Nat) (w : DividerWords) : Int :=
  roundDiv (131072 * ((frequency : Int) - 10000000 * w.n) - 78125 * w.f) 2000

/-- The NCO word as the signed 32-bit word the lane holds (R23, R24). -/
def ncoWord (frequency : Nat) (w : DividerWords) : Word := BitVec.ofInt 32 (ncoInteger frequency w)

/-- The channel width in Hz of a bandwidth class (R5). -/
def bandwidth (c : Fin 8) : Nat :=
  match c with
  | 0 => 25000
  | 1 => 200000
  | 2 => 500000
  | 3 => 1600000
  | 4 => 5000000
  | 5 => 6000000
  | 6 => 7000000
  | 7 => 8000000

/-- The window test |o| + bw/2 ≤ 14,000,000, on the exact offset (R25). -/
def fitsWindow (frequency : Nat) (w : DividerWords) (bw : Nat) : Bool :=
  decide ((offsetScaled frequency w).natAbs + bw / 2 * 2 ^ 24 ≤ 14000000 * 2 ^ 24)

/-- The overlap test of two output ranges (R26). -/
def rangesOverlap (f1 bw1 f2 bw2 : Nat) : Bool :=
  decide ((f1 : Int) - (bw1 / 2 : Nat) < f2 + (bw2 / 2 : Nat)
    ∧ (f2 : Int) - (bw2 / 2 : Nat) < f1 + (bw1 / 2 : Nat))

/-! ## Frequency count -/

/-- The expected count E (R28), of a nominal LO in Hz. -/
def expectedCount (lo g : Nat) : Nat := lo / 1000 * 2 ^ g / 64

/-- The tolerance T (R28), with the count tolerance in ppm. -/
def countTolerance (expected tol : Nat) : Nat := ceilDiv (expected * tol) 1000000 + 2

/-- The verdict of a count at the closing of the gate (R29). -/
def judgeCount (count expected tolerance : Nat) : Verdict :=
  if count + tolerance < expected then .low
  else if expected + tolerance < count then .high
  else .within

/-- The count recorded for a measurement: at most 2,097,151 (R71). -/
def recordedCount (count : Nat) : Nat := min count 2097151

/-! ## Shares and ramps -/

/-- Whether slot `n` of a plan is present on chain `t`. -/
def Plan.onChain (p : Plan) (t : Tx) (n : Slot) : Bool :=
  (p.slots.get n).any fun e => e.outputChain = t

/-- S: the sum of the assigned shares of the present slots on a chain (R19, R30). -/
def Plan.shareSum (p : Plan) (t : Tx) : Nat :=
  ((allSlots.filter (p.onChain t)).map fun n => ((p.slots.get n).map SlotEntry.share).getD 0).sum

/-- The effective share of an assigned share s when the chain's shares sum to S (R30). -/
def scaleShare (s sum : Nat) : Nat := if sum ≤ 1024 then s else s * 1024 / sum

/-- The effective share of slot `n` of a plan, 0 when the slot is absent (R30). -/
def Plan.effectiveShare (p : Plan) (n : Slot) : Nat :=
  match p.slots.get n with
  | none => 0
  | some e => scaleShare e.share (p.shareSum e.outputChain)

/-- The level-scaled share (R31). -/
def levelScaled (e : Nat) (level : Level) : Nat :=
  match level with
  | 0 => e
  | 1 => e / 2
  | 2 => 0
  | 3 => 0

/-- The current share at step k of a ramp: start + floor((target − start) × k / 16) (R32). -/
def rampValue (start target k : Nat) : Nat :=
  ((start : Int) + ((target : Int) - start) * k / 16).toNat

/-! ## Tuning LO and profile lookups -/

/-- The tuning LO of a chain in a plan (R123). -/
def Plan.tuningLo (p : Plan) (t : Tx) : Option Nat :=
  if (p.tx.get t).enabled then (p.tx.get t).lo else none

/-- The LO nominal of a chain in a plan (R2, R3). -/
def Plan.lo (p : Plan) : Chain → Option Nat
  | .rx r => p.rx.get r
  | .tx t => (p.tx.get t).lo

/-- Whether a synthesizer is used by a plan, as the probation of R54 counts it. -/
def Plan.uses (p : Plan) : Chain → Bool
  | .rx r => (p.rx.get r).isSome
  | .tx t => (p.tx.get t).enabled

/-- The severity of a condition kind in a profile (R7). -/
def Severities.of (v : Severities) : Condition → Level
  | .refAbsent => v.refAbsent
  | .txLoLost => v.txLoLost
  | .txLoUnverified => v.txLoUnverified
  | .paFault => v.paFault
  | .refExpired => v.refExpired
  | .supplyWarning => v.supplyWarning
  | .paWarning => v.paWarning
  | .refHoldover => v.refHoldover
  | .linksSilent => v.linksSilent

/-- The minimum severity of a kind (R7). -/
def minimumSeverity : Condition → Level
  | .refAbsent => 2
  | .txLoLost => 2
  | .txLoUnverified => 2
  | .paFault => 2
  | .refExpired => 1
  | .supplyWarning => 0
  | .paWarning => 0
  | .refHoldover => 0
  | .linksSilent => 0

/-- The severities with each one below its minimum raised to that minimum (R18). -/
def Severities.clamp (v : Severities) : Severities :=
  { refAbsent := max v.refAbsent (minimumSeverity .refAbsent)
    txLoLost := max v.txLoLost (minimumSeverity .txLoLost)
    txLoUnverified := max v.txLoUnverified (minimumSeverity .txLoUnverified)
    paFault := max v.paFault (minimumSeverity .paFault)
    refExpired := max v.refExpired (minimumSeverity .refExpired)
    supplyWarning := max v.supplyWarning (minimumSeverity .supplyWarning)
    paWarning := max v.paWarning (minimumSeverity .paWarning)
    refHoldover := max v.refHoldover (minimumSeverity .refHoldover)
    linksSilent := max v.linksSilent (minimumSeverity .linksSilent) }

/-- The clamp list: the kinds whose severity is below its minimum, in rank order (R18). -/
def Severities.clampList (v : Severities) : List Condition :=
  allConditions.filter fun k => decide (v.of k < minimumSeverity k)

/-- The scaled-chain list: the transmit chains whose share sum exceeds 1024, ascending (R19). -/
def Plan.scaledChains (p : Plan) : List Tx := allTx.filter fun t => decide (1024 < p.shareSum t)

/-! ## Commit validation (section 1.7) -/

/-- PLAN_INVALID reasons, in the order of their codes from 1 (R14, section 12.3). -/
inductive InvalidReason where
  | txLoMissing | rxUnused | inputWindow | fallbackUnused | fallbackWindow | fallbackSame
  | outputWindow | chainFull | overlap | issueLimit
  deriving DecidableEq, Repr

/-- The first failing check of a validation: its reason and the item it names (R14). -/
structure PlanFailure where
  reason : InvalidReason
  chain : Option Tx
  slot : Option Slot
  second : Option Slot
  deriving DecidableEq, Repr

/-- A failure that names a transmit chain. -/
def PlanFailure.ofChain (r : InvalidReason) (t : Tx) : PlanFailure := ⟨r, some t, none, none⟩

/-- A failure that names a slot. -/
def PlanFailure.ofSlot (r : InvalidReason) (n : Slot) : PlanFailure := ⟨r, none, some n, none⟩

/-- Group 1: an enabled transmit chain without an LO (R15). -/
def Plan.checkTxLo (p : Plan) (t : Tx) : Option PlanFailure :=
  if (p.tx.get t).enabled && (p.tx.get t).lo.isNone then some (.ofChain .txLoMissing t) else none

/-- The primary input checks of one slot (R15, checks 1 and 2). -/
def Plan.checkInput (p : Plan) (e : SlotEntry) : Option InvalidReason :=
  match p.rx.get e.inputChain with
  | none => some .rxUnused
  | some lo =>
    if fitsWindow e.inputFrequency (dividerWords lo) (bandwidth e.bandwidthClass) then none
    else some .inputWindow

/-- The fallback checks of one slot, skipped when the fallback is absent (R15, check 3). -/
def Plan.checkFallback (p : Plan) (e : SlotEntry) : Option InvalidReason :=
  match e.fallback with
  | none => none
  | some fb =>
    match p.rx.get fb.chain with
    | none => some .fallbackUnused
    | some lo =>
      if !fitsWindow fb.frequency (dividerWords lo) (bandwidth e.bandwidthClass) then
        some .fallbackWindow
      else if fb.chain = e.inputChain ∧ fb.frequency = e.inputFrequency then some .fallbackSame
      else none

/-- The output window check of one slot, skipped when its chain has no LO (R15, check 4). -/
def Plan.checkOutput (p : Plan) (e : SlotEntry) : Option InvalidReason :=
  match (p.tx.get e.outputChain).lo with
  | none => none
  | some lo =>
    if fitsWindow e.outputFrequency (dividerWords lo) (bandwidth e.bandwidthClass) then none
    else some .outputWindow

/-- Group 2: the checks of one slot in their order; an absent slot is skipped (R15). -/
def Plan.checkSlot (p : Plan) (n : Slot) : Option PlanFailure :=
  match p.slots.get n with
  | none => none
  | some e =>
    (p.checkInput e <|> p.checkFallback e <|> p.checkOutput e).map fun r => .ofSlot r n

/-- Group 3: nine or more slots on a chain (R16). -/
def Plan.checkCount (p : Plan) (t : Tx) : Option PlanFailure :=
  if 9 ≤ (allSlots.filter (p.onChain t)).length then some (.ofChain .chainFull t) else none

/-- Whether slots i and j of a plan, both present, overlap on air (R16, R26). -/
def Plan.slotsOverlap (p : Plan) (i j : Slot) : Bool :=
  match p.slots.get i, p.slots.get j with
  | some a, some b =>
    rangesOverlap a.outputFrequency (bandwidth a.bandwidthClass)
      b.outputFrequency (bandwidth b.bandwidthClass)
  | _, _ => false

/-- Group 4: the first overlapping pair on a chain, by lower then higher slot number (R16). -/
def Plan.checkOverlap (p : Plan) (t : Tx) : Option PlanFailure :=
  let on := allSlots.filter (p.onChain t)
  on.findSome? fun i =>
    (on.filter fun j => decide (i < j)).findSome? fun j =>
      if p.slotsOverlap i j then some ⟨.overlap, some t, some i, some j⟩ else none

/-- Group 5: the issue counter at its limit (R17). -/
def checkIssue (lastIssued : Nat) : Option PlanFailure :=
  if lastIssued = 4294967295 then some ⟨.issueLimit, none, none, none⟩ else none

/-- Commit validation: the five groups in their order; the first failure ends it (R14). -/
def Plan.validate (p : Plan) (lastIssued : Nat) : Option PlanFailure :=
  allTx.findSome? p.checkTxLo <|> allSlots.findSome? p.checkSlot <|> allTx.findSome? p.checkCount
    <|> allTx.findSome? p.checkOverlap <|> checkIssue lastIssued

end Sys2Proof.Machine
end

