-- ==== Sys2Proof/Machine/Frames.lean ====
section
/-! DEFINITION. Bytes, codes and checks of frames and stored records (chapter 12): the two CRCs, the
codes of section 12.3, the framing check of R166, and the reading of payload fields. -/

namespace Sys2Proof.Machine

/-! ## Multi-byte integers, high byte first (R174) -/

/-- One byte. -/
def byte (n : Nat) : List Byte := [BitVec.ofNat 8 n]

/-- Two bytes, high byte first. -/
def bytes2 (n : Nat) : List Byte := [BitVec.ofNat 8 (n / 256), BitVec.ofNat 8 n]

/-- Four bytes, high byte first. -/
def bytes4 (n : Nat) : List Byte :=
  [BitVec.ofNat 8 (n / 16777216), BitVec.ofNat 8 (n / 65536), BitVec.ofNat 8 (n / 256),
   BitVec.ofNat 8 n]

/-- A signed byte in two's complement. -/
def signedByte (i : Int) : List Byte := [BitVec.ofInt 8 i]

/-- The unsigned integer that bytes spell, high byte first. -/
def natOfBytes (bs : List Byte) : Nat := bs.foldl (fun acc b => 256 * acc + b.toNat) 0

/-- The byte at an offset of a payload, 0 beyond its end. -/
def byteAt (bs : List Byte) (i : Nat) : Nat := (bs.getD i 0).toNat

/-- The two-byte field at an offset. -/
def field2 (bs : List Byte) (i : Nat) : Nat := natOfBytes ((bs.drop i).take 2)

/-- The four-byte field at an offset. -/
def field4 (bs : List Byte) (i : Nat) : Nat := natOfBytes ((bs.drop i).take 4)

/-- The signed byte at an offset. -/
def signedAt (bs : List Byte) (i : Nat) : Int := (bs.getD i 0).toInt

/-! ## CRC-16 of a frame (R174) -/

/-- One bit of the CRC-16 with polynomial 0x1021, not reflected. -/
def crc16Bit (c : BitVec 16) : BitVec 16 :=
  if c.msb then (c <<< 1) ^^^ 0x1021#16 else c <<< 1

/-- One byte, most significant bit first. -/
def crc16Byte (c : BitVec 16) (b : Byte) : BitVec 16 :=
  Nat.iterate crc16Bit 8 (c ^^^ (b.zeroExtend 16 <<< 8))

/-- The CRC-16 over bytes, from the initial value 0xFFFF. -/
def crc16 (bs : List Byte) : BitVec 16 := bs.foldl crc16Byte 0xFFFF#16

/-! ## CRC-32 of a stored record (R176) -/

/-- One bit of the reflected CRC-32 with polynomial 0x04C11DB7. -/
def crc32Bit (c : BitVec 32) : BitVec 32 :=
  if c.getLsbD 0 then (c >>> 1) ^^^ 0xEDB88320#32 else c >>> 1

/-- One byte, least significant bit first. -/
def crc32Byte (c : BitVec 32) (b : Byte) : BitVec 32 :=
  Nat.iterate crc32Bit 8 (c ^^^ b.zeroExtend 32)

/-- The CRC-32 over bytes, with initial value and final exclusive-or 0xFFFFFFFF. -/
def crc32 (bs : List Byte) : BitVec 32 := bs.foldl crc32Byte 0xFFFFFFFF#32 ^^^ 0xFFFFFFFF#32

/-! ## Codes (section 12.3) -/

/-- The seventeen requests (R171). -/
inductive RequestKind where
  | nop | readStatus | readPlan | readNotices | takeEdit | releaseEdit | setChain | setSlot
  | clearSlot | setProfile | commit | cancelCommit | revert | restoreChain | measure | storeDefault
  | clearResetCause
  deriving DecidableEq, Repr

/-- The request code. -/
def RequestKind.code : RequestKind → Byte
  | .nop => 0x00
  | .readStatus => 0x01
  | .readPlan => 0x02
  | .readNotices => 0x03
  | .takeEdit => 0x04
  | .releaseEdit => 0x05
  | .setChain => 0x06
  | .setSlot => 0x07
  | .clearSlot => 0x08
  | .setProfile => 0x09
  | .commit => 0x0A
  | .cancelCommit => 0x0B
  | .revert => 0x0C
  | .restoreChain => 0x0D
  | .measure => 0x0E
  | .storeDefault => 0x0F
  | .clearResetCause => 0x10

/-- The request of a code, none for a code of no request. -/
def RequestKind.ofCode (b : Byte) : Option RequestKind :=
  match b.toNat with
  | 0 => some .nop
  | 1 => some .readStatus
  | 2 => some .readPlan
  | 3 => some .readNotices
  | 4 => some .takeEdit
  | 5 => some .releaseEdit
  | 6 => some .setChain
  | 7 => some .setSlot
  | 8 => some .clearSlot
  | 9 => some .setProfile
  | 10 => some .commit
  | 11 => some .cancelCommit
  | 12 => some .revert
  | 13 => some .restoreChain
  | 14 => some .measure
  | 15 => some .storeDefault
  | 16 => some .clearResetCause
  | _ => none

/-- The payload length of a request. -/
def RequestKind.payloadLength : RequestKind → Nat
  | .readStatus => 3
  | .readPlan => 4
  | .setChain => 9
  | .setSlot => 21
  | .clearSlot => 1
  | .setProfile => 23
  | .restoreChain => 1
  | .measure => 1
  | .nop => 0
  | .readNotices => 0
  | .takeEdit => 0
  | .releaseEdit => 0
  | .commit => 0
  | .cancelCommit => 0
  | .revert => 0
  | .storeDefault => 0
  | .clearResetCause => 0

/-- The holder-only requests (R37). -/
def RequestKind.holderOnly : RequestKind → Bool
  | .releaseEdit => true
  | .setChain => true
  | .setSlot => true
  | .clearSlot => true
  | .setProfile => true
  | .commit => true
  | .cancelCommit => true
  | .revert => true
  | .restoreChain => true
  | .storeDefault => true
  | .nop => false
  | .readStatus => false
  | .readPlan => false
  | .readNotices => false
  | .takeEdit => false
  | .measure => false
  | .clearResetCause => false

/-- The status code: its place in the status table of R171. -/
def Status.code : Status → Byte
  | .ok => 0x00
  | .frameError => 0x01
  | .unknownRequest => 0x02
  | .invalidField => 0x03
  | .noGrant => 0x04
  | .heldByOther => 0x05
  | .planInvalid => 0x06
  | .applyPending => 0x07
  | .nothingPending => 0x08
  | .historyEmpty => 0x09
  | .chainsActive => 0x0A
  | .notAvailable => 0x0B

/-- The chain and synthesizer code. -/
def chainCode : Chain → Nat
  | .rx .rx0 => 0
  | .rx .rx1 => 1
  | .tx .tx0 => 2
  | .tx .tx1 => 3
  | .tx .tx2 => 4
  | .tx .tx3 => 5

/-- The chain of a code. -/
def chainOfCode : Nat → Option Chain
  | 0 => some (.rx .rx0)
  | 1 => some (.rx .rx1)
  | 2 => some (.tx .tx0)
  | 3 => some (.tx .tx1)
  | 4 => some (.tx .tx2)
  | 5 => some (.tx .tx3)
  | _ => none

/-- The receive chain of a chain code. -/
def rxOfCode : Nat → Option Rx
  | 0 => some .rx0
  | 1 => some .rx1
  | _ => none

/-- The transmit chain of a chain code. -/
def txOfCode : Nat → Option Tx
  | 2 => some .tx0
  | 3 => some .tx1
  | 4 => some .tx2
  | 5 => some .tx3
  | _ => none

/-- The place of a transmit chain among TX0 to TX3, as a bit number of a mask. -/
def txIndex : Tx → Nat
  | .tx0 => 0
  | .tx1 => 1
  | .tx2 => 2
  | .tx3 => 3

/-- The slot of a number. -/
def slotOf (n : Nat) : Option Slot := if h : n < 16 then some ⟨n, h⟩ else none

/-- The origin code. -/
def originCode : Origin → Nat
  | .a => 0
  | .b => 1
  | .storeSite => 2
  | .storeDefault => 3
  | .empty => 4

/-- The condition kind's code: its rank. -/
def conditionCode : Condition → Nat
  | .refAbsent => 1
  | .txLoLost => 2
  | .txLoUnverified => 3
  | .paFault => 4
  | .refExpired => 5
  | .supplyWarning => 6
  | .paWarning => 7
  | .refHoldover => 8
  | .linksSilent => 9

/-- The code of a PLAN_INVALID reason. -/
def reasonCode : InvalidReason → Nat
  | .txLoMissing => 1
  | .rxUnused => 2
  | .inputWindow => 3
  | .fallbackUnused => 4
  | .fallbackWindow => 5
  | .fallbackSame => 6
  | .outputWindow => 7
  | .chainFull => 8
  | .overlap => 9
  | .issueLimit => 10

/-- The bit of a notice kind in the notice mask. -/
def noticeBit : Notice → Nat
  | .resetOccurred => 0
  | .planApplied => 1
  | .planReverted => 2
  | .commitCancelled => 3
  | .grantLost => 4
  | .peerSilent => 5
  | .peerReturned => 6
  | .chainChanged => 7
  | .synthFailed => 8
  | .inputChangeover => 9
  | .referenceChanged => 10
  | .storeDone => 11
  | .storeFailed => 12
  | .supplyChanged => 13

/-! ## Frames (R166, R174) -/

/-- The bytes of a response frame: length, kind, tag, status, payload, CRC-16. -/
def Response.bytes (r : Response) : List Byte :=
  let head := byte r.payload.length ++ [r.kind, r.tag, r.status.code] ++ r.payload
  head ++ bytes2 (crc16 head).toNat

/-- The bytes of a request frame with a payload of at most 48 bytes: length, kind, tag, payload,
CRC-16. -/
def requestBytes (kind tag : Byte) (payload : List Byte) : List Byte :=
  let head := byte payload.length ++ [kind, tag] ++ payload
  head ++ bytes2 (crc16 head).toNat

/-- What the framing check of R166 makes of the bytes clocked in during a transaction. -/
inductive Framing where
  /-- The frame fails: the kind and tag bytes as received, 0 for a byte not carried. -/
  | bad (kind tag : Byte)
  /-- A valid frame. -/
  | good (kind tag : Byte) (payload : List Byte)
  deriving DecidableEq, Repr

/-- The framing check (R166); bytes after the end of the frame are fill and are not examined (R165). -/
def checkFrame (bs : List Byte) : Framing :=
  let kind := bs.getD 1 0
  let tag := bs.getD 2 0
  let len := byteAt bs 0
  if len ≤ 48 ∧ len + 5 ≤ bs.length
      ∧ (crc16 (bs.take (len + 3))).toNat = field2 bs (len + 3) then
    .good kind tag ((bs.drop 3).take len)
  else .bad kind tag

end Sys2Proof.Machine
end

