-- ==== Sys2Proof/Machine/Flags.lean ====
section
/-! DEFINITION. The flag sets of the part: notice sets (R170), present sets and what the Protection Unit
computes from them (R139 to R143, R145, R146), and the conditions a reference state makes present (R63). -/

namespace Sys2Proof.Machine

/-! ## Notices -/

/-- A kind added to a notice set; a kind already in the set is not added again (R170). -/
def NoticeSet.add (v : NoticeSet) (n : Notice) : NoticeSet := v ||| (1#14 <<< noticeBit n)

/-- Whether a kind is in a notice set. -/
def NoticeSet.has (v : NoticeSet) (n : Notice) : Bool := v.getLsbD (noticeBit n)

/-- The attention line: asserted while the notice set is not empty (R164). -/
def PortState.attention (p : PortState) : Bool := p.notices != 0

/-! ## Present sets -/

/-- Whether a condition kind is present for a chain: a device-wide kind counts for each of the four
chains, a chain kind for its own chain alone (R139). -/
def isPresent (d : DeviceConditions) (c : ChainConditions) : Condition → Bool
  | .refAbsent => d.refAbsent
  | .txLoLost => c.txLoLost
  | .txLoUnverified => c.txLoUnverified
  | .paFault => c.paFault
  | .refExpired => d.refExpired
  | .supplyWarning => d.supplyWarning
  | .paWarning => c.paWarning
  | .refHoldover => d.refHoldover
  | .linksSilent => d.linksSilent

/-- The kinds present for a chain, in rank order (R150). -/
def presentKinds (d : DeviceConditions) (c : ChainConditions) : List Condition :=
  allConditions.filter (isPresent d c)

/-- S: the highest severity among the kinds present for a chain, 0 when none is (R140). -/
def highestSeverity (v : Severities) (d : DeviceConditions) (c : ChainConditions) : Level :=
  (presentKinds d c).foldl (fun acc k => max acc (v.of k)) 0

/-- The present kind of highest severity, of lowest rank among equals (R143). -/
def topCondition (v : Severities) (d : DeviceConditions) (c : ChainConditions) : Option Condition :=
  (presentKinds d c).find? fun k => v.of k == highestSeverity v d c

/-- The conditions of the reference present in a state (R63). -/
def DeviceConditions.ofReference (d : DeviceConditions) (st : RefState) : DeviceConditions :=
  { d with
    refAbsent := st == .absent || st == .qualifying
    refHoldover := st == .holdover
    refExpired := st == .expired }

/-! ## Trips, lockout and the level (R141 to R146) -/

/-- The chain-local hardware conditions present, none when neither is (R145). -/
def tripFaults (c : ChainConditions) : Option TripFaults :=
  match c.paFault, c.txLoLost with
  | true, true => some .both
  | true, false => some .paFault
  | false, true => some .txLoLost
  | false, false => none

/-- The lockout test on a trip list (R146). -/
def locksOut (l : Limits) (trips : List Trip) : Bool :=
  match trips.head?, trips.getLast? with
  | some oldest, some newest =>
    decide (trips.length = l.tripLimit ∧ newest.time - oldest.time ≤ 60 * l.tripWindow)
  | _, _ => false

/-- What an entry of the level into 3 does to the trip list and the lockout set (R145, R146). -/
def ChainProtection.trip (c : ChainProtection) (l : Limits) (seconds : Nat) : ChainProtection :=
  match tripFaults c.present with
  | none => c
  | some faults =>
    if l.tripLimit = 0 ∨ c.lockedOut then c
    else
      let trips := c.trips.drop (c.trips.length + 1 - l.tripLimit) ++ [⟨seconds, faults⟩]
      { c with trips := trips, lockedOut := locksOut l trips }

/-- The decision of S, level, recovery hold, cause and trips of one chain, made at an event that changes
its present sets or the severities (R140 to R143, R145, R146). `now` is the step count. -/
def ChainProtection.decide (c : ChainProtection) (v : Severities) (l : Limits)
    (d : DeviceConditions) (now seconds : Nat) : ChainProtection :=
  let s := highestSeverity v d c.present
  if c.level < s then
    let c' := { c with highest := s, level := s, hold := none,
                       cause := topCondition v d c.present, holding := false }
    if s = 3 then c'.trip l seconds else c'
  else if s = c.level then
    { c with highest := s, hold := none, cause := topCondition v d c.present, holding := false }
  else if c.highest < s ∨ (s < c.highest ∧ c.hold = none) then
    { c with highest := s, hold := some (now + 100 * l.recoveryHold), holding := true }
  else { c with highest := s, holding := true }

/-- The expiry of the recovery hold: the level becomes S in one step (R142, R143). -/
def ChainProtection.expire (c : ChainProtection) (v : Severities) (d : DeviceConditions) :
    ChainProtection :=
  { c with level := c.highest, hold := none, cause := topCondition v d c.present, holding := false }

/-- The trip list cut to its newest entries, as many as the trip limit (R148). -/
def ChainProtection.cut (c : ChainProtection) (l : Limits) : ChainProtection :=
  { c with trips := c.trips.drop (c.trips.length - l.tripLimit) }

end Sys2Proof.Machine
end

