-- ==== Sys2Proof/Machine/Ops.lean ====
section
/-! DEFINITION. The shared operations over registers, notices, timers and the time base: how every
command reads and writes the state. -/

namespace Sys2Proof.Machine

/-! ## Reading and writing one instance of a block -/

def State.lane (s : State) (n : Slot) : Lane := s.lanes.get n
def State.setLane (s : State) (n : Slot) (x : Lane) : State := { s with lanes := s.lanes.put n x }

def State.phaseOf (s : State) (n : Slot) : Phases := s.phases.get n
def State.setPhase (s : State) (n : Slot) (x : Phases) : State :=
  { s with phases := s.phases.put n x }

def State.input (s : State) (n : Slot) : InputRecord := s.inputs.get n
def State.setInput (s : State) (n : Slot) (x : InputRecord) : State :=
  { s with inputs := s.inputs.put n x }

def State.synth (s : State) (c : Chain) : SynContext := s.syn.get c
def State.setSynth (s : State) (c : Chain) (x : SynContext) : State :=
  { s with syn := s.syn.put c x }

def State.seq (s : State) (t : Tx) : Sequencer := s.os.get t
def State.setSeq (s : State) (t : Tx) (x : Sequencer) : State := { s with os := s.os.put t x }

def State.mixer (s : State) (t : Tx) : Mixer := s.mixers.get t
def State.setMixer (s : State) (t : Tx) (x : Mixer) : State :=
  { s with mixers := s.mixers.put t x }

def State.protection (s : State) (t : Tx) : ChainProtection := s.pu.chains.get t
def State.setProtection (s : State) (t : Tx) (x : ChainProtection) : State :=
  { s with pu := { s.pu with chains := s.pu.chains.put t x } }

def State.record (s : State) (r : RecordName) : StoredRecord := s.store.records.get r
def State.setRecord (s : State) (r : RecordName) (x : StoredRecord) : State :=
  { s with store := { s.store with records := s.store.records.put r x } }

def State.port (s : State) (p : Port) : PortState := s.ports.get p
def State.setPort (s : State) (p : Port) (x : PortState) : State :=
  { s with ports := s.ports.put p x }

/-- The timing and limit fields of the profile in effect: those of the active plan, the defaults until
start-up selection (R64, R84, R140). -/
def State.limits (s : State) : Limits := s.pe.active.limits

/-- The severities in effect (R140). -/
def State.severities (s : State) : Severities := s.pe.active.severities

/-! ## Notices (R170) -/

/-- A notice raised on one port. -/
def State.notify (s : State) (p : Port) (n : Notice) : State :=
  s.setPort p { s.port p with notices := (s.port p).notices.add n }

/-- A notice raised on both ports. -/
def State.notifyBoth (s : State) (n : Notice) : State := (s.notify .a n).notify .b n

/-! ## Timers (R66)

A command is taken at the step boundary of the present step count (assumption 4), so a timer of d ms
expires ceil(d / 10) steps later. The closing of a gate alone falls between boundaries (`execGateClose`,
assumption 30); a timer it starts is counted from the closing itself. -/

/-- The expiry of a timer started now for a number of steps of 10 ms. -/
def State.afterSteps (s : State) (n : Nat) : Timer := some (s.time.steps + n)

/-- The expiry of a timer started now for a number of milliseconds. -/
def State.afterMs (s : State) (ms : Nat) : Timer := s.afterSteps (ceilDiv ms 10)

/-- The expiry of a timer started `now` milliseconds into the time base for a number of milliseconds. -/
def expiryFrom (now ms : Nat) : Timer := some (ceilDiv (now + ms) 10)

/-- The expiry of a timer started now for a number of seconds. -/
def State.afterSeconds (s : State) (n : Nat) : Timer := s.afterSteps (100 * n)

/-- Whole seconds until a timer's expiry, rounded up; 0 when it does not run. -/
def State.secondsLeft (s : State) (t : Timer) : Nat :=
  match t with
  | none => 0
  | some d => ceilDiv (d - s.time.steps) 100

/-- Steps of 10 ms until a timer's expiry; 0 when it does not run. -/
def State.stepsLeft (s : State) (t : Timer) : Nat :=
  match t with
  | none => 0
  | some d => d - s.time.steps

/-! ## The passing of time (R65, R99) -/

/-- The receive word a lane's NCO uses, by its source (R98). -/
def Lane.receiveWord (l : Lane) : Source → Option Word
  | .primary => l.primaryWord
  | .fallback => l.fallbackWord

/-- An accumulator after a number of samples: the word is added once a sample, modulo 2^32 (R99). What an
accumulator does while its word is none the manual does not say; here it keeps its phase (DESIGN CHOICE,
assumption 36). -/
def addSamples (phase : Word) (samples : Nat) (w : Option Word) : Word :=
  phase + BitVec.ofNat 32 samples * w.getD 0

/-- The phase accumulators of one lane after a number of samples (R99). -/
def State.runLane (s : State) (samples : Nat) (n : Slot) : Phases :=
  { receive := addSamples (s.phaseOf n).receive samples
      ((s.lane n).receiveWord (s.input n).source)
    transmit := addSamples (s.phaseOf n).transmit samples (s.lane n).transmitWord }

/-- The phase accumulators of all lanes after a number of samples (R99). -/
def State.runPhases (s : State) (samples : Nat) : PerSlot Phases :=
  allSlots.foldl (fun v n => v.put n (s.runLane samples n)) s.phases

/-- `k` steps of the time base pass, each of 100,000 reference cycles: 655,360 lane samples a step, since
the sample rate is 65,536,000 Hz and a step is 10 ms (R65, section 3.2). -/
def State.passReference (s : State) (k : Nat) : State :=
  { s with
    time := { s.time with steps := s.time.steps + k }
    phases := s.runPhases (655360 * k) }

/-- `k` steps of the time base pass, each a presence window; how many samples the lanes take in them is a
free value, because the sample clock derives from the failed reference (R65, assumption 5). -/
def State.passBackup (s : State) (k : Nat) : State :=
  { s with
    time := { s.time with steps := s.time.steps + k }
    phases := s.runPhases (Config.samplesInAbsence s.draws)
    draws := s.draws + 1 }

/-- The time base moves up to a step count that has come: the boundary at which an expiry or a mark is
taken (R66). A step count already reached moves nothing. In ABSENT the steps are presence windows, so
backup time moves with them: an expiry or mark taken before the window that ends at the same boundary (R66 lets
either come first) passes over windows that are not judged or sampled, and a PRESENCE_WINDOW_END queued after
it then counts as one more step. A sender that wants every window judged sends the windows first; that the
model takes the other order so is its own choice (assumption 4). -/
def State.advanceTo (s : State) (d : Nat) : State :=
  let k := d - s.time.steps
  if k = 0 then s
  else if s.ref.state = .absent then
    { s.passBackup k with time := { (s.passBackup k).time with backup := s.time.backup + k } }
  else s.passReference k

/-- What an empty queue does: one step of 100,000 reference cycles passes (R65). In ABSENT the steps come
from the presence windows, which are commands, and in reset the time base stands still (R70); then the
block idles. Assumption 1. -/
def State.idle (s : State) : State :=
  if s.phase = .held ∨ s.ref.state = .absent then s else s.passReference 1

end Sys2Proof.Machine
end

