-- ==== Sys2Proof/Machine/Lanes.lean ====
section
/-! DEFINITION. The lanes and mixers of chapter 6: lane states, target shares, NCO words, fast mutes and
ramps, and the window bookkeeping of the Input Supervisor that follows a lane's state (R110). -/

namespace Sys2Proof.Machine

/-! ## Facts a lane reads -/

/-- The receive chain an entry draws from under a source; a lane with no fallback has source PRIMARY
(R93, R95). -/
def SlotEntry.sourceChain (e : SlotEntry) : Source → Rx
  | .primary => e.inputChain
  | .fallback => (e.fallback.map Fallback.chain).getD e.inputChain

/-- Whether a synthesizer is VERIFIED (R72). -/
def State.isVerified (s : State) (c : Chain) : Bool := (s.synth c).state == .verified

/-- The synthesizer is VERIFIED for an LO: its state is VERIFIED and its wanted LO is that LO (R72). -/
def State.verifiedFor (s : State) (c : Chain) (lo : Option Nat) : Bool :=
  s.isVerified c && lo.isSome && (s.synth c).wanted == lo

/-- The states in which a chain's lanes are on air (R95, R122). -/
def SeqState.carriesLanes : SeqState → Bool
  | .rampUp => true
  | .onAir => true
  | .muted => true
  | .rampDown => true
  | .off => false
  | .tuning => false
  | .driveSettle => false
  | .paDischarge => false
  | .lockedOut => false

/-- The lane states in which the Input Supervisor measures a lane (R95, R110). -/
def LaneState.measured : LaneState → Bool
  | .livePrimary => true
  | .liveFallback => true
  | .inputLost => true
  | .unassigned => false
  | .held => false

/-- The lane state of an input state (R95, rule 3). -/
def InputState.laneState : InputState → LaneState
  | .livePrimary => .livePrimary
  | .liveFallback => .liveFallback
  | .inputLost => .inputLost

/-- Whether lane `n` is on chain `t`: its slot entry is present with that output chain (R93). -/
def State.laneOn (s : State) (t : Tx) (n : Slot) : Bool :=
  (s.lane n).slot.any fun e => e.outputChain = t

/-- The lanes on a chain, ascending (R93, R107). -/
def State.lanesOn (s : State) (t : Tx) : List Slot := allSlots.filter (s.laneOn t)

/-- The sum of the current shares of the lanes on a chain (R102). -/
def State.currentSum (s : State) (t : Tx) : Nat := ((s.lanesOn t).map fun n => (s.lane n).current).sum

/-- The sum of their target shares (R107). -/
def State.targetSum (s : State) (t : Tx) : Nat := ((s.lanesOn t).map fun n => (s.lane n).target).sum

/-! ## Lane state and target share -/

/-- The lane state decided from the slot entry, the chain, the receive synthesizers and the input state
(R95). -/
def State.laneStateOf (s : State) (n : Slot) : LaneState :=
  match (s.lane n).slot with
  | none => .unassigned
  | some e =>
    if !(s.seq e.outputChain).state.carriesLanes
        || !(s.pe.active.tx.get e.outputChain).enabled
        || !s.isVerified (.rx (e.sourceChain (s.input n).source)) then .held
    else ((s.input n).inputState.map InputState.laneState).getD .held

/-- The target share of a lane in a lane state (R31, R96). -/
def State.targetOf (s : State) (n : Slot) (st : LaneState) : Nat :=
  match (s.lane n).slot with
  | none => 0
  | some e =>
    if (st == .livePrimary || st == .liveFallback)
        && ((s.seq e.outputChain).state == .rampUp || (s.seq e.outputChain).state == .onAir) then
      levelScaled (s.pe.active.effectiveShare n) (s.protection e.outputChain).level
    else 0

/-- A change of what R110 reads has reached slot `n`. Taken at the very boundary whose windows have
already been examined, it belongs to neither window, and the window that begins there is void only if the
lane is not measured; at any other time it makes the window in progress void (R110). -/
def State.markWindow (s : State) (n : Slot) : State :=
  s.setInput n
    { s.input n with
      windowVoid :=
        if s.time.lastWindow = s.time.steps then !(s.lane n).state.measured else true }

/-- Lane `n` decides its state by R95 and its target by R96. -/
def State.decideLane (s : State) (n : Slot) : State :=
  let st := s.laneStateOf n
  let s' := s.setLane n { s.lane n with state := st, target := s.targetOf n st }
  if st.measured = (s.lane n).state.measured then s' else s'.markWindow n

/-! ## Ramps -/

/-- A ramp starts on a chain: step count 0, every lane on the chain records its current share as its
start value, and the step timer starts for 10·r ms; a running ramp is replaced (R103). -/
def State.startRamp (s : State) (t : Tx) : State :=
  let s' := (s.lanesOn t).foldl
    (fun s n => s.setLane n { s.lane n with start := (s.lane n).current }) s
  s'.setMixer t { s.mixer t with step := 0, timer := s.afterSteps (s.mixer t).rampUnit }

/-- Whether a chain's mixer is running a ramp (R93). -/
def Mixer.running (m : Mixer) : Bool := m.timer.isSome

/-- The lanes among `ns` decide their states and targets, and a ramp starts on every chain on which the
target of one or more of them has changed (R96, R103). -/
def State.decideLanes (s : State) (ns : List Slot) : State :=
  let s' := ns.foldl State.decideLane s
  let changed (t : Tx) : Bool :=
    ns.any fun n => s'.laneOn t n && (s'.lane n).target != (s.lane n).target
  (allTx.filter changed).foldl State.startRamp s'

/-- A fast mute: one lane's current share, start value and target share become 0 at one event (R104). -/
def State.fastMute (s : State) (n : Slot) : State :=
  s.setLane n { s.lane n with current := 0, start := 0, target := 0 }

/-- Every lane on a chain is fast-muted (R131). -/
def State.fastMuteChain (s : State) (t : Tx) : State := (s.lanesOn t).foldl State.fastMute s

/-- One step of a chain's ramp: the step count increases, every lane on the chain moves to its ramp
value, and the timer restarts unless k has reached 16 (R32, R103). -/
def State.stepRamp (s : State) (t : Tx) : State :=
  let m := s.mixer t
  let k := m.step + 1
  let s' := (s.lanesOn t).foldl
    (fun s n =>
      s.setLane n { s.lane n with current := rampValue (s.lane n).start (s.lane n).target k }) s
  s'.setMixer t
    { m with step := k, timer := if 16 ≤ k then none else s.afterSteps m.rampUnit }

/-! ## NCO words and phases -/

/-- A chain's programmed words are current: equal to the pair of its LO nominal in the active plan
(R97). -/
def State.wordsCurrent (s : State) (c : Chain) : Bool :=
  (s.synth c).programmed.isSome && (s.synth c).programmed == (s.pe.active.lo c).map dividerWords

/-- A word taken again against chain `c`: none when the chain has no programmed words, computed when they
are current, and otherwise `old` (R97). -/
def State.wordFor (s : State) (c : Chain) (frequency : Nat) (old : Option Word) : Option Word :=
  match (s.synth c).programmed with
  | none => none
  | some w => if s.wordsCurrent c then some (ncoWord frequency w) else old

/-- The words of lane `n` that use chain `c`, taken again after the chain's programmed words have
changed (R76, R97). -/
def State.refreshLane (s : State) (c : Chain) (n : Slot) : State :=
  match (s.lane n).slot with
  | none => s
  | some e =>
    let l := s.lane n
    s.setLane n
      { l with
        primaryWord :=
          if Chain.rx e.inputChain = c then s.wordFor c e.inputFrequency l.primaryWord
          else l.primaryWord
        fallbackWord :=
          match e.fallback with
          | none => l.fallbackWord
          | some fb =>
            if Chain.rx fb.chain = c then s.wordFor c fb.frequency l.fallbackWord
            else l.fallbackWord
        transmitWord :=
          if Chain.tx e.outputChain = c then s.wordFor c e.outputFrequency l.transmitWord
          else l.transmitWord }

/-- Every lane takes the words that use chain `c` again (R97). -/
def State.refreshWords (s : State) (c : Chain) : State :=
  allSlots.foldl (fun s n => s.refreshLane c n) s

/-- Entry of a chain into RAMP_UP: lanes with phase reset pending have both accumulators cleared (R99,
R128). -/
def State.clearPhases (s : State) (t : Tx) : State :=
  ((s.lanesOn t).filter fun n => (s.lane n).phaseReset).foldl
    (fun s n => (s.setLane n { s.lane n with phaseReset := false }).setPhase n ⟨0, 0⟩) s

/-! ## The DAC stream (R102)

What a chain's DAC stream is made of is a function of the state, as the lines are: it is formed in every chain
state and reaches the air only while the chain's two lines are on. The samples themselves are left out
(assumption 25). -/

/-- One lane's term of its chain's stream: the receive stream it draws from, the words and phases of its two
NCOs, its bandwidth class, and the share of the chain's full-scale composite power it is scaled to carry, in
1024ths (R93, R102). -/
structure StreamTerm where
  lane : Slot
  source : Rx
  receiveWord : Word
  transmitWord : Word
  phases : Phases
  bandwidthClass : Fin 8
  share : Nat
  deriving DecidableEq, Repr

/-- What lane `n` contributes to its chain's stream: nothing with no slot entry, with a current share of 0,
with no receive word for its source or with no transmit word (R97, R102). -/
def State.contribution (s : State) (n : Slot) : Option StreamTerm :=
  match (s.lane n).slot, (s.lane n).receiveWord (s.input n).source, (s.lane n).transmitWord with
  | some e, some r, some w =>
    if (s.lane n).current = 0 then none
    else
      some
        { lane := n, source := e.sourceChain (s.input n).source, receiveWord := r, transmitWord := w,
          phases := s.phaseOf n, bandwidthClass := e.bandwidthClass, share := (s.lane n).current }
  | _, _, _ => none

/-- The sum a mixer forms: the contributions of the lanes on its chain (R102). -/
def State.stream (s : State) (t : Tx) : List StreamTerm := (s.lanesOn t).filterMap s.contribution

end Sys2Proof.Machine
end

