-- ==== Sys2Proof/Machine/Synth.lean ====
section
/-! DEFINITION. The Frequency Counter's queue and measurements (R85 to R89) and the synthesizer
controllers' own operations: programming, power-down and the taking of a wanted LO (R73 to R76). -/

namespace Sys2Proof.Machine

/-! ## The counter queue (R85, R86, R88) -/

/-- A synthesizer joins the tail of the queue; one already in it is not added again (R85). -/
def State.joinQueue (s : State) (c : Chain) (audit : Bool) : State :=
  if s.fc.queue.any fun q => q.syn = c then s
  else { s with fc := { s.fc with queue := s.fc.queue ++ [{ syn := c, audit := audit }] } }

/-- A synthesizer leaves the queue, and a measurement of it in flight is abandoned without a verdict (R85,
R88). -/
def State.leaveCounter (s : State) (c : Chain) : State :=
  { s with
    fc :=
      { s.fc with
        queue := s.fc.queue.filter fun q => q.syn != c
        current := s.fc.current.filter fun m => m.syn != c } }

/-- The measurement that starts for a queue entry: E and T from the wanted LO, with the gate exponent and
count tolerance of the active profile fixed for it, its timeout 2^g + 50 ms of backup time ahead, and the next
number (R27, R28, R29, R86, R88). -/
def State.measurementOf (s : State) (q : QueueEntry) : Measurement :=
  let g := s.limits.gateExponent
  let e := expectedCount ((s.synth q.syn).wanted.getD 0) g
  { number := s.fc.started + 1, startedAt := 10 * s.time.steps, syn := q.syn, audit := q.audit,
    spoiled := false, expected := e, tolerance := countTolerance e s.limits.countTolerance, gateExponent := g,
    timeout := s.time.backup + ceilDiv (2 ^ g + 50) 10 }

/-- The length of the gate in reference cycles (R27). -/
def Measurement.gateCycles (m : Measurement) : Nat := 10000 * 2 ^ m.gateExponent

/-- The closing of the gate, in milliseconds of the time base, as the start of the measurement is: 10,000
reference cycles are 1 ms, the tenth part of a step (R27, R65; assumption 30). -/
def Measurement.gateEnd (m : Measurement) : Nat := m.startedAt + m.gateCycles / 10000

/-- A measurement starts when the counter is idle, the queue is not empty and the reference state is not
ABSENT: the head entry leaves the queue, and a QUEUED synthesizer becomes MEASURING (R86). -/
def State.startMeasurement (s : State) : State :=
  if s.fc.current.isSome ∨ s.ref.state = .absent then s
  else
    match s.fc.queue with
    | [] => s
    | q :: rest =>
      let s' := { s with
        fc := { s.fc with
                started := s.fc.started + 1, queue := rest, current := some (s.measurementOf q) } }
      if q.audit then s'
      else s'.setSynth q.syn { s'.synth q.syn with state := .measuring }

/-- A measurement in flight is marked spoiled when the reference state becomes ABSENT (R89). -/
def State.spoilMeasurement (s : State) : State :=
  { s with fc := { s.fc with current := s.fc.current.map fun m => { m with spoiled := true } } }

/-! ## What a synthesizer reports to the Protection Unit -/

/-- The decision of one chain's S, level, hold, cause and trips, in the Protection Unit itself (R140 to
R146). -/
def State.decideProtection (s : State) (t : Tx) : State :=
  s.setProtection t
    ((s.protection t).decide s.severities s.limits s.pu.device s.time.steps s.time.seconds)

/-- The chain conditions of a transmit synthesizer: TX_LO_LOST while lost is yes, TX_LO_UNVERIFIED while
the state is FAILED (R83, R139). -/
def SynContext.conditions (x : SynContext) (c : ChainConditions) : ChainConditions :=
  { c with txLoLost := x.lost, txLoUnverified := x.state == .failed }

/-- A synthesizer that has left FAILED, or is no longer lost, withdraws its conditions. Where the
level is not below S with the severities in effect, a withdrawal can only lower S, and the level falls through
the recovery hold alone (R142), so nothing is handed on; an apply has the Protection Unit take the new
severities before any LO is handed over (`State.handPlan`). A receive synthesizer hands no condition (R83;
assumption 21). -/
def State.withdrawSynth (s : State) (c : Chain) : State :=
  match c with
  | .rx _ => s
  | .tx t =>
    let old := s.protection t
    let now := (s.synth c).conditions old.present
    if now = old.present then s
    else (s.setProtection t { old with present := now }).decideProtection t

/-! ## Programming and power-down (R75, R76) -/

/-- A programming starts on the control line for the present wanted LO: attempts used increases by 1, the
state is PROGRAMMING, and the output is disabled during the transfer (R72, R76). -/
def State.startProgramming (s : State) (c : Chain) : State :=
  let x := s.synth c
  s.setSynth c
    { x with
      state := .programming
      attempts := x.attempts + 1
      transfer := .programming (dividerWords (x.wanted.getD 0))
      output := .disabled }

/-- The entry into IDLE of R75: wanted LO none, attempts used 0, lost no, last verdict and count none, the
programmed words none with every word that uses the chain (R97; so at a programming complete too, where R97
could also be read to keep them, assumption 31), a power-down transfer sent, and the two conditions withdrawn.
-/
def State.goIdle (s : State) (c : Chain) : State :=
  let s' := s.setSynth c
    { s.synth c with
      wanted := none
      programmed := none
      state := .idle
      attempts := 0
      lastVerdict := none
      lastCount := none
      lost := false
      restartPending := false
      transfer := .powerDown }
  (s'.refreshWords c).withdrawSynth c

/-- What R74 gives up to "then as for SETTLING": timers stopped, the queue entry removed or the measurement
abandoned, no audit outstanding. -/
def State.dropCycle (s : State) (c : Chain) : State :=
  (s.leaveCounter c).setSynth c
    { s.synth c with settle := none, audit := none, retry := none, auditing := false }

/-! ## The wanted LO (R73 to R75) -/

/-- A new wanted LO that is not none (R74). While a power-down transfer runs, the programming waits for its
end (R75). -/
def State.takeLo (s : State) (c : Chain) (lo : Nat) : State :=
  let x := s.synth c
  match x.state with
  | .idle =>
    let s' := s.setSynth c { x with wanted := some lo, attempts := 0, state := .programming }
    if x.transfer = .powerDown then s' else s'.startProgramming c
  | .programming =>
    if x.transfer = .powerDown then s.setSynth c { x with wanted := some lo, attempts := 0 }
    else s.setSynth c { x with wanted := some lo, attempts := 0, restartPending := true }
  | .settling | .queued | .measuring | .verified | .failed =>
    let s' := s.dropCycle c
    let s' := s'.setSynth c { s'.synth c with wanted := some lo, attempts := 0 }
    ((s'.startProgramming c).withdrawSynth c).startMeasurement

/-- A wanted LO of none (R75). -/
def State.takeNone (s : State) (c : Chain) : State :=
  let x := s.synth c
  match x.state with
  | .idle => s.setSynth c { x with wanted := none }
  | .programming =>
    if x.transfer = .powerDown then
      s.setSynth c { x with wanted := none, attempts := 0, state := .idle }
    else s.setSynth c { x with wanted := none, restartPending := true }
  | .settling | .queued | .measuring | .verified | .failed =>
    ((s.dropCycle c).goIdle c).startMeasurement

/-- A hand-over or apply gives a controller a wanted LO; a value equal to the present one has no effect
(R73). -/
def State.takeWanted (s : State) (c : Chain) (lo : Option Nat) : State :=
  if lo = (s.synth c).wanted then s
  else
    match lo with
    | some l => s.takeLo c l
    | none => s.takeNone c

end Sys2Proof.Machine
end

