-- ==== Sys2Proof/Machine/Sequence.lean ====
section
/-! DEFINITION. The Output Chain Sequencer's decisions and what each change of its state does (R122 to
R133). -/

namespace Sys2Proof.Machine

/-- The live states, in which the drive is on (R122). -/
def SeqState.live : SeqState → Bool
  | .driveSettle => true
  | .rampUp => true
  | .onAir => true
  | .muted => true
  | .rampDown => true
  | .paDischarge => true
  | .off => false
  | .tuning => false
  | .lockedOut => false

/-- The drive-enable line of a state (R122). -/
def SeqState.driveOn (st : SeqState) : Bool := st.live

/-- The PA-enable line of a state (R122). -/
def SeqState.paOn : SeqState → Bool
  | .rampUp => true
  | .onAir => true
  | .muted => true
  | .rampDown => true
  | .off => false
  | .tuning => false
  | .driveSettle => false
  | .paDischarge => false
  | .lockedOut => false

/-- What reaches the air: the stream while the drive-enable and PA-enable lines are both on (R102, R122). -/
def State.onAirStream (s : State) (t : Tx) : List StreamTerm :=
  if (s.seq t).state.driveOn && (s.seq t).state.paOn then s.stream t else []

/-- The going-off causes, in the order of R136. -/
inductive OffCause where
  | notEnabled | level3 | lockedOut | retunePending
  deriving DecidableEq, Repr

/-- The failing conditions of R125. -/
def State.offCauses (s : State) (t : Tx) : List OffCause :=
  (if (s.pe.active.tx.get t).enabled then [] else [.notEnabled])
    ++ (if (s.protection t).level = 3 then [.level3] else [])
    ++ (if (s.protection t).lockedOut then [.lockedOut] else [])
    ++ (if (s.seq t).retunePending then [.retunePending] else [])

/-- Wanted on (R125). -/
def State.wantedOn (s : State) (t : Tx) : Bool := (s.offCauses t).isEmpty

/-- The synthesizer is VERIFIED for the tuning LO of the active plan (R72, R123). -/
def State.tuned (s : State) (t : Tx) : Bool := s.verifiedFor (.tx t) (s.pe.active.tuningLo t)

/-- The state a sequencer goes to next on the facts as they stand, none when it stays: R126 for OFF and
TUNING, R127 for DRIVE_SETTLE, R128 for RAMP_UP and ON_AIR, R129 and R130 for MUTED and RAMP_DOWN, R133
for LOCKED_OUT. PA_DISCHARGE is left by its expiry alone (R130). RAMP_DOWN at zero without a going-off cause
goes to MUTED at any level (assumption 15). A chain whose lockout was removed in RAMP_DOWN does not turn back:
R133 lets its sequence run where R129 alone would turn it (assumption 29). -/
def State.nextSeq (s : State) (t : Tx) : Option SeqState :=
  let level := (s.protection t).level
  let lockedOut := (s.protection t).lockedOut
  match (s.seq t).state with
  | .off =>
    if lockedOut then some .lockedOut
    else if s.wantedOn t then some (if s.tuned t then .driveSettle else .tuning)
    else none
  | .tuning =>
    if lockedOut then some .lockedOut
    else if !s.wantedOn t then some .off
    else if s.tuned t then some .driveSettle
    else none
  | .driveSettle =>
    if !s.wantedOn t then some (if lockedOut then .lockedOut else .off)
    else if (s.seq t).driveSettled && s.tuned t then
      some (if level = 2 then .muted else .rampUp)
    else none
  | .rampUp =>
    if !s.wantedOn t || level = 2 then some .rampDown
    else if (s.mixer t).running then none
    else some .onAir
  | .onAir => if !s.wantedOn t || level = 2 then some .rampDown else none
  | .muted =>
    if !s.wantedOn t || (s.seq t).runDown then some .paDischarge
    else if level < 2 && s.tuned t then some .rampUp
    else none
  | .rampDown =>
    let stays := s.wantedOn t && !(s.seq t).runDown
    if stays && level < 2 && s.tuned t then some .rampUp
    else if s.currentSum t = 0 then some (if stays then .muted else .paDischarge)
    else none
  | .paDischarge => none
  | .lockedOut => if lockedOut then none else some .off

/-- The hand-over: the tuning LO goes to the synthesizer controller, LO handed over becomes it, and retune
pending becomes no (R124). -/
def State.handOver (s : State) (t : Tx) : State :=
  let lo := s.pe.active.tuningLo t
  (s.setSeq t { s.seq t with handedOver := lo, retunePending := false }).takeWanted (.tx t) lo

/-- The sequencer's own context on entry into a state: the timer of the state entered starts, the others
are stopped, and drive settled is no (R126, R127, R130). A sequence that must run to its end does so from the
MUTED it falls to as well (R130, step 1; R131). -/
def State.enterSeq (s : State) (t : Tx) (st : SeqState) : Sequencer :=
  let q := s.seq t
  { q with
    state := st
    runDown := q.runDown && q.state == .rampDown && st == .muted
    driveSettled := false
    settleTimer := if st = .driveSettle then s.afterSteps q.driveSettle else none
    dischargeTimer := if st = .paDischarge then s.afterSteps q.paDischarge else none }

/-- A change of sequencer state: the lines take the values of the new state, CHAIN_CHANGED is raised
(R122), an off state entered from a live one hands the tuning LO over (R124), RAMP_UP clears the phases
that wait for it (R99), and the chain's lanes decide their states and targets (R95, R96). -/
def State.moveSeq (s : State) (t : Tx) (st : SeqState) : State :=
  let wasLive := (s.seq t).state.live
  let s' := (s.setSeq t (s.enterSeq t st)).notifyBoth .chainChanged
  let s' := if wasLive && !st.live then s'.handOver t else s'
  let s' := if st = .rampUp then s'.clearPhases t else s'
  s'.decideLanes (s'.lanesOn t)

/-- At most `fuel` changes of state, each on the facts the one before it has left. -/
def State.settleSeq : Nat → State → Tx → State
  | 0, s, _ => s
  | fuel + 1, s, t =>
    match s.nextSeq t with
    | none => s
    | some st => State.settleSeq fuel (s.moveSeq t st) t

/-- The sequencer decides its state again (R125). A transition may pass through several states at one
event (R122); no event passes through more than four. No transition is taken in reset or during the start
delay (R137). -/
def State.decideSeq (s : State) (t : Tx) : State :=
  if s.phase = .running then State.settleSeq 4 s t else s

/-- The chain's synthesizer leaves VERIFIED (R131): in RAMP_UP, ON_AIR and RAMP_DOWN every lane on the
chain is fast-muted and the state becomes MUTED, and a going-off cause that holds is then taken at once
(R129). -/
def State.seqSynthLost (s : State) (t : Tx) : State :=
  let st := (s.seq t).state
  if st = .rampUp ∨ st = .onAir ∨ st = .rampDown then
    ((s.fastMuteChain t).moveSeq t .muted).decideSeq t
  else s

/-- Every sequencer decides again, for an event that may have changed facts of each of them. -/
def State.decideAllSeq (s : State) : State := allTx.foldl State.decideSeq s

end Sys2Proof.Machine
end

