-- ==== Sys2Proof/Machine/Operands.lean ====
section
/-! DEFINITION. The operand forms of the requests: what the payload bytes of each edit and read request
name, which of its fields fails first (R10 to R13, R172, R173), and the plan items as bytes (R175). -/

namespace Sys2Proof.Machine

/-- The position, counted from 1, of the first check that fails; none when all pass (R13). -/
def firstFailed (checks : List Bool) : Option Nat :=
  (checks.findIdx? fun c => !c).map (· + 1)

/-- A value in an inclusive range. -/
def within (lo hi n : Nat) : Bool := decide (lo ≤ n ∧ n ≤ hi)

/-! ## SET_CHAIN (R10) -/

/-- The LO check of R10 on the encoded value, in which 0 means absent (R175). -/
def loPasses (n : Nat) : Bool := n == 0 || (within 50000000 1000000000 n && n % 1000 == 0)

/-- The LO a passing encoded value stands for. -/
def loOf (n : Nat) : Option Nat := if n = 0 then none else some n

/-- A chain item as SET_CHAIN carries it. -/
inductive ChainItem where
  | rx (r : Rx) (lo : Option Nat)
  | tx (t : Tx) (settings : TxSettings)
  deriving DecidableEq, Repr

/-- The field checks of SET_CHAIN, in the order chain name, enabled, LO nominal, ramp unit, drive-settle,
PA-discharge; for a receive chain only the chain name and the LO are checked (R10). The result is the
carried item, or the position of the first field that failed (for a receive LO 3, assumption 16). -/
def parseSetChain (b : List Byte) : Except Nat ChainItem :=
  let lo := field4 b 2
  match chainOfCode (byteAt b 0) with
  | none => .error 1
  | some (.rx r) => if loPasses lo then .ok (.rx r (loOf lo)) else .error 3
  | some (.tx t) =>
    match firstFailed [true, byteAt b 1 ≤ 1, loPasses lo, within 1 64 (byteAt b 6),
        within 1 255 (byteAt b 7), within 1 255 (byteAt b 8)] with
    | some i => .error i
    | none =>
      .ok (.tx t { enabled := byteAt b 1 == 1, lo := loOf lo, rampUnit := byteAt b 6,
                   driveSettle := byteAt b 7, paDischarge := byteAt b 8 })

/-- The plan with one chain item replaced whole (R10). -/
def Plan.withChain (p : Plan) : ChainItem → Plan
  | .rx r lo => { p with rx := p.rx.put r lo }
  | .tx t settings => { p with tx := p.tx.put t settings }

/-! ## SET_SLOT and CLEAR_SLOT (R11) -/

/-- The field checks of SET_SLOT in the order of R11, and the slot and entry carried. The fallback chain
and frequency are examined only when the fallback is indicated present. -/
def parseSetSlot (b : List Byte) : Except Nat (Slot × SlotEntry) :=
  let threshold := signedAt b 14
  let fallbackPresent := byteAt b 15
  match firstFailed [(slotOf (byteAt b 0)).isSome, (rxOfCode (byteAt b 1)).isSome, true,
      (txOfCode (byteAt b 6)).isSome, true, decide (byteAt b 11 ≤ 7), within 1 1024 (field2 b 12),
      decide (-100 ≤ threshold ∧ threshold ≤ -20), decide (fallbackPresent ≤ 1),
      fallbackPresent == 0 || (rxOfCode (byteAt b 16)).isSome, true] with
  | some i => .error i
  | none =>
    .ok ((slotOf (byteAt b 0)).getD 0,
      { inputChain := (rxOfCode (byteAt b 1)).getD .rx0
        inputFrequency := field4 b 2
        outputChain := (txOfCode (byteAt b 6)).getD .tx0
        outputFrequency := field4 b 7
        bandwidthClass := Fin.ofNat 8 (byteAt b 11)
        share := field2 b 12
        threshold := threshold
        fallback :=
          if fallbackPresent = 1 then
            some { chain := (rxOfCode (byteAt b 16)).getD .rx0, frequency := field4 b 17 }
          else none })

/-- The one check of CLEAR_SLOT (R11). -/
def parseClearSlot (b : List Byte) : Except Nat Slot :=
  match slotOf (byteAt b 0) with
  | none => .error 1
  | some n => .ok n

/-- The plan with one slot replaced whole (R11). -/
def Plan.withSlot (p : Plan) (n : Slot) (e : Option SlotEntry) : Plan :=
  { p with slots := p.slots.put n e }

/-! ## SET_PROFILE (R12) -/

/-- A profile part as SET_PROFILE carries it. -/
inductive ProfilePart where
  | severities (v : Severities)
  | limits (l : Limits)
  deriving DecidableEq, Repr

/-- The nine severities at an offset, in rank order (R175). -/
def severitiesAt (b : List Byte) (i : Nat) : Severities :=
  let sev (k : Nat) : Level := Fin.ofNat 4 (byteAt b (i + k))
  { refAbsent := sev 0, txLoLost := sev 1, txLoUnverified := sev 2, paFault := sev 3,
    refExpired := sev 4, supplyWarning := sev 5, paWarning := sev 6, refHoldover := sev 7,
    linksSilent := sev 8 }

/-- The sixteen timing and limit fields at an offset, with the sizes of R175. -/
def limitsAt (b : List Byte) (i : Nat) : Limits :=
  { recoveryHold := field2 b i, tripLimit := byteAt b (i + 2), tripWindow := byteAt b (i + 3),
    holdoverAllowance := field2 b (i + 4), qualifyTime := byteAt b (i + 6),
    lossConfirm := byteAt b (i + 7), restoreConfirm := field2 b (i + 8),
    restoreVisits := byteAt b (i + 10), attempts := byteAt b (i + 11), settle := byteAt b (i + 12),
    gateExponent := byteAt b (i + 13), countTolerance := byteAt b (i + 14),
    auditInterval := field2 b (i + 15), retryHold := field2 b (i + 17),
    probation := field2 b (i + 19), linkSilence := byteAt b (i + 21) }

/-- The range checks of profile part 1, in the order of the table of R8. -/
def Limits.checks (l : Limits) : List Bool :=
  [within 1 600 l.recoveryHold, within 0 7 l.tripLimit, within 1 60 l.tripWindow,
   within 0 1440 l.holdoverAllowance, within 1 60 l.qualifyTime, within 1 60 l.lossConfirm,
   within 1 600 l.restoreConfirm, within 1 15 l.restoreVisits, within 1 4 l.attempts,
   within 1 255 l.settle, within 0 7 l.gateExponent, within 1 200 l.countTolerance,
   l.auditInterval == 0 || within 10 3600 l.auditInterval, within 10 3600 l.retryHold,
   within 0 600 l.probation, within 1 60 l.linkSilence]

/-- The field checks of SET_PROFILE: the part number first, then the fields of the part (R12). -/
def parseSetProfile (b : List Byte) : Except Nat ProfilePart :=
  match byteAt b 0 with
  | 0 =>
    match firstFailed (true :: ((b.drop 1).take 9).map fun x => decide (x.toNat ≤ 3)) with
    | some i => .error i
    | none => .ok (.severities (severitiesAt b 1))
  | 1 =>
    match firstFailed (true :: (limitsAt b 1).checks) with
    | some i => .error i
    | none => .ok (.limits (limitsAt b 1))
  | _ => .error 1

/-- The plan with one profile part replaced whole (R12). -/
def Plan.withProfile (p : Plan) : ProfilePart → Plan
  | .severities v => { p with severities := v }
  | .limits l => { p with limits := l }

/-! ## Plan items as bytes (R175) -/

/-- The header item. -/
def headerBytes (p : Plan) : List Byte := bytes4 p.issue ++ byte (originCode p.origin)

/-- An LO nominal, 0 meaning absent. -/
def loBytes (lo : Option Nat) : List Byte := bytes4 (lo.getD 0)

/-- A transmit chain item. -/
def txBytes (c : TxSettings) : List Byte :=
  byte c.enabled.toNat ++ loBytes c.lo ++ byte c.rampUnit ++ byte c.driveSettle
    ++ byte c.paDischarge

/-- A slot item with its presence byte first; the bytes of an absent slot after it are 0. -/
def slotBytes : Option SlotEntry → List Byte
  | none => List.replicate 21 0
  | some e =>
    byte 1 ++ byte (chainCode (.rx e.inputChain)) ++ bytes4 e.inputFrequency
      ++ byte (chainCode (.tx e.outputChain)) ++ bytes4 e.outputFrequency
      ++ byte e.bandwidthClass.val ++ bytes2 e.share ++ signedByte e.threshold
      ++ match e.fallback with
        | none => List.replicate 6 0
        | some fb => byte 1 ++ byte (chainCode (.rx fb.chain)) ++ bytes4 fb.frequency

/-- Profile part 0. -/
def severityBytes (v : Severities) : List Byte :=
  allConditions.flatMap fun k => byte (v.of k).val

/-- Profile part 1. -/
def limitBytes (l : Limits) : List Byte :=
  bytes2 l.recoveryHold ++ byte l.tripLimit ++ byte l.tripWindow ++ bytes2 l.holdoverAllowance
    ++ byte l.qualifyTime ++ byte l.lossConfirm ++ bytes2 l.restoreConfirm ++ byte l.restoreVisits
    ++ byte l.attempts ++ byte l.settle ++ byte l.gateExponent ++ byte l.countTolerance
    ++ bytes2 l.auditInterval ++ bytes2 l.retryHold ++ bytes2 l.probation ++ byte l.linkSilence

/-! ## READ_PLAN (R172) -/

/-- The sources of READ_PLAN. -/
inductive PlanSource where
  | active | staged | pending
  | history (k : Fin 4)
  | site | dflt
  deriving DecidableEq, Repr

/-- The items of a plan (section 1.1.1). -/
inductive PlanItem where
  | header
  | chain (c : Chain)
  | slot (n : Slot)
  | profile (part1 : Bool)
  deriving DecidableEq, Repr

/-- The source named at position 1, with the history index of position 2 examined only for HISTORY. -/
def parseSource (b : List Byte) : Except Nat PlanSource :=
  match byteAt b 0 with
  | 0 => .ok .active
  | 1 => .ok .staged
  | 2 => .ok .pending
  | 3 => if h : byteAt b 1 < 4 then .ok (.history ⟨byteAt b 1, h⟩) else .error 2
  | 4 => .ok .site
  | 5 => .ok .dflt
  | _ => .error 1

/-- The item named at position 3, with its number at position 4, not examined for the header. -/
def parseItem (b : List Byte) : Except Nat PlanItem :=
  let number := byteAt b 3
  match byteAt b 2 with
  | 0 => .ok .header
  | 1 => match chainOfCode number with
    | none => .error 4
    | some c => .ok (.chain c)
  | 2 => match slotOf number with
    | none => .error 4
    | some n => .ok (.slot n)
  | 3 => match number with
    | 0 => .ok (.profile false)
    | 1 => .ok (.profile true)
    | _ => .error 4
  | _ => .error 3

/-- The field checks of READ_PLAN in their order (R172). -/
def parseReadPlan (b : List Byte) : Except Nat (PlanSource × PlanItem) :=
  match parseSource b with
  | .error i => .error i
  | .ok src =>
    match parseItem b with
    | .error i => .error i
    | .ok item => .ok (src, item)

/-- An item of a plan as bytes (R175); a receive chain carries its LO nominal alone (R172). -/
def Plan.itemBytes (p : Plan) : PlanItem → List Byte
  | .header => headerBytes p
  | .chain (.rx r) => loBytes (p.rx.get r)
  | .chain (.tx t) => txBytes (p.tx.get t)
  | .slot n => slotBytes (p.slots.get n)
  | .profile false => severityBytes p.severities
  | .profile true => limitBytes p.limits

/-! ## READ_STATUS (R173) -/

/-- The items of READ_STATUS. -/
inductive StatusItem where
  | device
  | chain (t : Tx)
  | synthesizer (c : Chain)
  | slot (n : Slot)
  | store
  deriving DecidableEq, Repr

/-- The item at position 1 and its number at position 2, examined for chain, synthesizer and slot; a
receive chain named as a chain item is outside the table (R173). -/
def parseStatusItem (b : List Byte) : Except Nat StatusItem :=
  let number := byteAt b 1
  match byteAt b 0 with
  | 0 => .ok .device
  | 1 => match txOfCode number with
    | none => .error 2
    | some t => .ok (.chain t)
  | 2 => match chainOfCode number with
    | none => .error 2
    | some c => .ok (.synthesizer c)
  | 3 => match slotOf number with
    | none => .error 2
    | some n => .ok (.slot n)
  | 4 => .ok .store
  | _ => .error 1

end Sys2Proof.Machine
end

