-- ==== Sys2Proof/Machine/Records.lean ====
section
/-! DEFINITION. Stored records as bytes: the layout of R176, the check that makes a record VALID, and the
reading of the plan and lockout set back from the bytes (R152, R176). -/

namespace Sys2Proof.Machine

/-- The bytes of a plan from its header to profile part 1 (R176, offsets 1 to 412). -/
def planBytes (p : Plan) : List Byte :=
  headerBytes p ++ loBytes p.rx.rx0 ++ loBytes p.rx.rx1
    ++ txBytes p.tx.tx0 ++ txBytes p.tx.tx1 ++ txBytes p.tx.tx2 ++ txBytes p.tx.tx3
    ++ allSlots.flatMap (fun n => slotBytes (p.slots.get n))
    ++ severityBytes p.severities ++ limitBytes p.limits

/-- A lockout mask: bit 0 TX0 to bit 3 TX3 (R176). -/
def lockoutMask (v : PerTx Bool) : Nat :=
  v.tx0.toNat + 2 * v.tx1.toNat + 4 * v.tx2.toNat + 8 * v.tx3.toNat

/-- The bytes the CRC-32 covers: the plan, and the lockout mask for SITE only (R176). -/
def recordBody (r : RecordName) (c : Content) : List Byte :=
  match r with
  | .site => planBytes c.plan ++ byte (lockoutMask c.lockout)
  | .dflt => planBytes c.plan

/-- A stored record: format byte 0x5A, body, CRC-32 (R176). -/
def recordImage (r : RecordName) (c : Content) : List Byte :=
  0x5A#8 :: (recordBody r c ++ bytes4 (crc32 (recordBody r c)).toNat)

/-- The number of body bytes of a record (R176). -/
def bodySize : RecordName → Nat
  | .site => 413
  | .dflt => 412

/-- The number of bytes of a record (R176). -/
def recordSize (r : RecordName) : Nat := bodySize r + 5

/-- A record as a write first leaves it: erased to 0xFF (R176). -/
def erasedImage (r : RecordName) : List Byte := List.replicate (recordSize r) 0xFF

/-- The status of a record as read at reset release: VALID when its format byte is 0x5A and its CRC
matches (R176). -/
def imageStatus (r : RecordName) (image : List Byte) : RecordStatus :=
  if image.head? = some 0x5A ∧ image.length = recordSize r
      ∧ (crc32 ((image.drop 1).take (bodySize r))).toNat = field4 image (bodySize r + 1) then .valid
  else .invalid

/-! ## Reading a plan back -/

/-- The origin of a code. -/
def originOfCode : Nat → Origin
  | 0 => .a
  | 1 => .b
  | 2 => .storeSite
  | 3 => .storeDefault
  | _ => .empty

/-- The transmit chain item at an offset. -/
def txAt (b : List Byte) (i : Nat) : TxSettings :=
  { enabled := byteAt b i == 1, lo := loOf (field4 b (i + 1)), rampUnit := byteAt b (i + 5),
    driveSettle := byteAt b (i + 6), paDischarge := byteAt b (i + 7) }

/-- The slot item at an offset, presence byte first. -/
def slotAt (b : List Byte) (i : Nat) : Option SlotEntry :=
  if byteAt b i = 1 then
    some
      { inputChain := (rxOfCode (byteAt b (i + 1))).getD .rx0
        inputFrequency := field4 b (i + 2)
        outputChain := (txOfCode (byteAt b (i + 6))).getD .tx0
        outputFrequency := field4 b (i + 7)
        bandwidthClass := Fin.ofNat 8 (byteAt b (i + 11))
        share := field2 b (i + 12)
        threshold := signedAt b (i + 14)
        fallback :=
          if byteAt b (i + 15) = 1 then
            some { chain := (rxOfCode (byteAt b (i + 16))).getD .rx0
                   frequency := field4 b (i + 17) }
          else none }
  else none

/-- The plan a record's bytes spell, with its stored header (R176). Every record that passes its check
was written by the writer, so every field reads back as it was written; bytes no writer wrote read by defaults
(assumption 18). -/
def storedPlan (b : List Byte) : Plan :=
  { issue := field4 b 1
    origin := originOfCode (byteAt b 5)
    rx := ⟨loOf (field4 b 6), loOf (field4 b 10)⟩
    tx := ⟨txAt b 14, txAt b 22, txAt b 30, txAt b 38⟩
    slots := allSlots.foldl (fun v n => v.put n (slotAt b (46 + 21 * n.val)))
      (Vector.replicate 16 none)
    severities := severitiesAt b 382
    limits := limitsAt b 391 }

/-- The lockout set of the SITE record (R176). -/
def storedLockout (b : List Byte) : PerTx Bool :=
  let mask := BitVec.ofNat 8 (byteAt b 413)
  ⟨mask.getLsbD 0, mask.getLsbD 1, mask.getLsbD 2, mask.getLsbD 3⟩

end Sys2Proof.Machine
end

