-- ==== Sys2Proof/Machine/Writer.lean ====
section
/-! DEFINITION. The Plan Store's writer: requests (R153) and the start of writes (R154). -/

namespace Sys2Proof.Machine

/-- The lockout set as it stands. -/
def State.lockoutSet (s : State) : PerTx Bool :=
  ⟨s.pu.chains.tx0.lockedOut, s.pu.chains.tx1.lockedOut, s.pu.chains.tx2.lockedOut,
   s.pu.chains.tx3.lockedOut⟩

/-- A record has a pending content and its retry timer is not running (R154). -/
def State.writeReady (s : State) (r : RecordName) : Bool :=
  (s.record r).pendingContent.isSome && (s.record r).retry.isNone

/-- The start of a write of a record: its pending content becomes the content in flight, and the record
is erased first and so INVALID (R154, R176; assumption 12). -/
def State.startWrite (s : State) (r : RecordName) : State :=
  match (s.record r).pendingContent with
  | none => s
  | some content =>
    let s' := s.setRecord r
      { s.record r with pendingContent := none, status := .invalid, image := erasedImage r }
    { s' with
      store := { s'.store with
                 inFlight := some { record := r, content := content,
                                    retryUsed := (s.record r).retryUsed } } }

/-- The start of the next write where one is ready: the writer IDLE, the supply NORMAL, SITE before
DEFAULT (R154). During the start delay and in reset no write takes place (R161). -/
def State.writerStart (s : State) : State :=
  if s.phase = .running ∧ s.store.inFlight = none ∧ s.supply.state = .normal then
    if s.writeReady .site then s.startWrite .site
    else if s.writeReady .dflt then s.startWrite .dflt
    else s
  else s

/-- A write requested for a record: the content becomes its pending content, replacing one already there,
and retry used becomes no; the retry timer and a write in flight are not disturbed (R153). -/
def State.requestWrite (s : State) (r : RecordName) (content : Content) : State :=
  (s.setRecord r { s.record r with pendingContent := some content, retryUsed := false }).writerStart

/-- A SITE write requested with the active plan and the lockout set as they stand (R153). -/
def State.requestSite (s : State) : State :=
  s.requestWrite .site { plan := s.pe.active, lockout := s.lockoutSet }

end Sys2Proof.Machine
end

