-- ==== Sys2Proof/Machine/Protect.lean ====
section
/-! DEFINITION. What a change of conditions sets off: the Protection Unit's decisions and their hand-over
(R139 to R146), probation failure (R54, R55), the removal of a lockout (R147), and the reference state's
changes (R60 to R63). -/

namespace Sys2Proof.Machine

/-! ## Probation failure (R54, R55) -/

/-- The issue of the history entry at TOP. -/
def PlanEngine.topIssue (e : PlanEngine) : Nat := ((e.history[e.top.val]).map Plan.issue).getD 0

/-- The pending record a probation failure makes (R55). -/
def PlanEngine.probationRevert (e : PlanEngine) : PendingApply :=
  { change := .revert, issue := e.topIssue, requestedBy := .probation }

/-- The Plan Engine after a probation failure: status SETTLED, the timer stopped, and a REVERT requested by
PROBATION pending in place of nothing or of a COMMIT; a pending REVERT is left as it is (R55). -/
def PlanEngine.failProbation (e : PlanEngine) : PlanEngine :=
  { e with
    status := .settled
    probation := none
    pendingApply :=
      match e.pendingApply with
      | none => some e.probationRevert
      | some p =>
        match p.change with
        | .commit _ => some e.probationRevert
        | .revert => some p }

/-- Whether a COMMIT-kind apply is pending. -/
def PlanEngine.commitPending (e : PlanEngine) : Bool :=
  match e.pendingApply with
  | some { change := .commit _, .. } => true
  | _ => false

/-- An event of R54 reaches the Plan Engine: while probation runs it is a probation failure, which cancels
a pending COMMIT with COMMIT_CANCELLED on both ports (R55); otherwise it is not examined. -/
def State.probationFailure (s : State) : State :=
  if s.pe.status = .onProbation then
    let s' := { s with pe := s.pe.failProbation }
    if s.pe.commitPending then s'.notifyBoth .commitCancelled else s'
  else s

/-! ## Levels handed on (R141, R144, R146) -/

/-- A change of a chain's level or of the lockout set raises CHAIN_CHANGED (R144). -/
def State.tellChange (s : State) (changed : Bool) : State :=
  if changed then s.notifyBoth .chainChanged else s

/-- An addition to the lockout set requests a SITE write and is examined by the Plan Engine (R146). -/
def State.tellLockout (s : State) (added : Bool) : State :=
  if added then s.requestSite.probationFailure else s

/-- A change of a chain's level or lockout reaches the chain's lanes and its sequencer (R144). -/
def State.tellChain (s : State) (t : Tx) (changed : Bool) : State :=
  if changed then (s.decideLanes (s.lanesOn t)).decideSeq t else s

/-- What a change of one chain's protection sets off, given the state before it (R144, R146). -/
def State.handProtection (before s : State) (t : Tx) : State :=
  let level := (before.protection t).level != (s.protection t).level
  let lockout := (before.protection t).lockedOut != (s.protection t).lockedOut
  ((s.tellChange (level || lockout)).tellLockout lockout).tellChain t (level || lockout)

/-- One chain's level is decided and handed on (R140 to R146). -/
def State.protect (s : State) (t : Tx) : State :=
  State.handProtection s (s.decideProtection t) t

/-- The device-wide present set changes; S of all four chains is decided (R139, R140). -/
def State.setDevice (s : State) (d : DeviceConditions) : State :=
  if d = s.pu.device then s
  else allTx.foldl State.protect { s with pu := { s.pu with device := d } }

/-- A chain's present set changes; S of that chain is decided (R139, R140). -/
def State.setPresent (s : State) (t : Tx) (c : ChainConditions) : State :=
  if c = (s.protection t).present then s
  else (s.setProtection t { s.protection t with present := c }).protect t

/-- A transmit synthesizer's conditions as they now stand reach the Protection Unit (R83). -/
def State.reportSynth (s : State) (c : Chain) : State :=
  match c with
  | .rx _ => s
  | .tx t => s.setPresent t ((s.synth c).conditions (s.protection t).present)

/-! ## A synthesizer entering or leaving VERIFIED (R83, R98, R131) -/

/-- A probe visit is no longer clean: its primary synthesizer has left VERIFIED, in either half (R116;
assumption 32). -/
def State.soilProbe (s : State) (r : Rx) : State :=
  match s.probe.visit with
  | none => s
  | some n =>
    if (s.lane n).slot.any fun e => e.inputChain = r then
      { s with probe := { s.probe with clean := false } }
    else s

/-- The lanes whose source names a receive chain (R98). -/
def State.lanesFrom (s : State) (r : Rx) : List Slot :=
  allSlots.filter fun n => (s.lane n).slot.any fun e => e.sourceChain (s.input n).source = r

/-- A synthesizer has left VERIFIED: a receive synthesizer's departure fast-mutes and holds every lane whose
source names its chain (R98), a transmit synthesizer's is acted on by its sequencer (R131). -/
def State.leftVerified (s : State) (c : Chain) : State :=
  match c with
  | .rx r =>
    let ns := s.lanesFrom r
    (((ns.foldl State.fastMute s).soilProbe r).decideLanes ns).decideAllSeq
  | .tx t => s.seqSynthLost t

/-- A synthesizer has entered VERIFIED: lanes that draw from a receive chain may leave HELD (R98), a
transmit chain's sequencer decides again (R126, R127, R129). -/
def State.enteredVerified (s : State) (c : Chain) : State :=
  match c with
  | .rx r => s.decideLanes (s.lanesFrom r)
  | .tx t => s.decideSeq t

/-- A receive synthesizer takes its wanted LO from the active plan (R73); where that makes it leave
VERIFIED, its lanes are told. -/
def State.takeRxLo (s : State) (r : Rx) : State :=
  let s' := s.takeWanted (.rx r) (s.pe.active.rx.get r)
  if s.isVerified (.rx r) && !s'.isVerified (.rx r) then s'.leftVerified (.rx r) else s'

/-! ## Failed attempts (R78) -/

/-- The entry into FAILED: the retry timer starts, SYNTH_FAILED is raised on both ports, a synthesizer used
by the active plan fails its probation (R54), and TX_LO_UNVERIFIED becomes present (R78, R83). -/
def State.enterFailed (s : State) (c : Chain) : State :=
  let s' := s.setSynth c
    { s.synth c with state := .failed, retry := s.afterSeconds s.limits.retryHold }
  let s' := s'.notifyBoth .synthFailed
  let s' := if s'.pe.active.uses c then s'.probationFailure else s'
  s'.reportSynth c

/-- A failed attempt: a new programming while attempts used is below the profile's synthesizer attempts,
and otherwise FAILED (R78). -/
def State.failedAttempt (s : State) (c : Chain) : State :=
  if (s.synth c).attempts < s.limits.attempts then s.startProgramming c else s.enterFailed c

/-! ## The reference state (R60 to R63, R89) -/

/-- The Reference Monitor's context on entry into a state: the qualify timer runs in QUALIFYING, the
holdover timer in HOLDOVER when the allowance is above 0 (R60, R61). -/
def State.enterReference (s : State) (st : RefState) : RefMonitor :=
  { s.ref with
    state := st
    enteredAt := s.time.steps
    leftLocked := if s.ref.state = .locked then s.time.steps else s.ref.leftLocked
    qualify := if st = .qualifying then s.afterSeconds s.limits.qualifyTime else none
    holdover :=
      if st = .holdover ∧ 0 < s.limits.holdoverAllowance then
        s.afterSteps (6000 * s.limits.holdoverAllowance)
      else none }

/-- A change of reference state: REFERENCE_CHANGED on both ports (R61), a measurement in flight spoiled on
entry into ABSENT (R89), the conditions of the old state withdrawn and those of the new made present at the
same event (R63), and a waiting measurement started on leaving ABSENT (R86). -/
def State.setReference (s : State) (st : RefState) : State :=
  let wasAbsent := s.ref.state == .absent
  let s' := { s with ref := s.enterReference st }
  let s' := s'.notifyBoth .referenceChanged
  let s' := if st = .absent then s'.spoilMeasurement else s'
  let s' := s'.setDevice (s'.pu.device.ofReference st)
  if wasAbsent then s'.startMeasurement else s'

end Sys2Proof.Machine
end

