-- ==== Sys2Proof/Machine/ChainEvents.lean ====
section
/-! DEFINITION. The meanings of the events of the transmit chains (R103, R127, R130, R134, R142):
RAMP_STEP_EXPIRY, DRIVE_SETTLE_EXPIRY, PA_DISCHARGE_EXPIRY, PA_FAULT_INPUT, PA_WARNING_INPUT and
RECOVERY_HOLD_EXPIRY. -/

namespace Sys2Proof.Machine

/-- RAMP_STEP_EXPIRY (R103): the ramp takes a step, and a ramp end or the chain at zero reaches the chain's
sequencer (R105). -/
def execRampStepExpiry (t : Tx) (s : State) : Host.Outcome State Fault Refusal :=
  match (s.mixer t).timer with
  | none => .next s
  | some d => .next (((s.advanceTo d).stepRamp t).decideSeq t)

/-- DRIVE_SETTLE_EXPIRY (R127): drive settled becomes yes, and the sequencer examines its synthesizer and its
level. -/
def execDriveSettleExpiry (t : Tx) (s : State) : Host.Outcome State Fault Refusal :=
  match (s.seq t).settleTimer with
  | none => .next s
  | some d =>
    let s := s.advanceTo d
    .next ((s.setSeq t { s.seq t with settleTimer := none, driveSettled := true }).decideSeq t)

/-- PA_DISCHARGE_EXPIRY (R130, step 3): the drive goes off, in LOCKED_OUT or OFF, and a chain wanted on
leaves OFF at once. -/
def execPaDischargeExpiry (t : Tx) (s : State) : Host.Outcome State Fault Refusal :=
  match (s.seq t).dischargeTimer with
  | none => .next s
  | some d =>
    let s := s.advanceTo d
    .next ((s.moveSeq t (if (s.protection t).lockedOut then .lockedOut else .off)).decideSeq t)

/-- PA_FAULT_INPUT (R134): a change of the sampled fault input makes PA_FAULT present or withdraws it. In
reset the inputs are not sampled. -/
def execPaFaultInput (t : Tx) (asserted : Bool) (s : State) : Host.Outcome State Fault Refusal :=
  if s.phase = .held ∨ asserted = (s.seq t).faultSample then .next s
  else
    let s := s.setSeq t { s.seq t with faultSample := asserted }
    .next (s.setPresent t { (s.protection t).present with paFault := asserted })

/-- PA_WARNING_INPUT (R134): the same for the warning input and PA_WARNING. -/
def execPaWarningInput (t : Tx) (asserted : Bool) (s : State) : Host.Outcome State Fault Refusal :=
  if s.phase = .held ∨ asserted = (s.seq t).warningSample then .next s
  else
    let s := s.setSeq t { s.seq t with warningSample := asserted }
    .next (s.setPresent t { (s.protection t).present with paWarning := asserted })

/-- RECOVERY_HOLD_EXPIRY (R142): the level becomes S in one step, with its cause (R143), and is handed on
(R144). -/
def execRecoveryHoldExpiry (t : Tx) (s : State) : Host.Outcome State Fault Refusal :=
  match (s.protection t).hold with
  | none => .next s
  | some d =>
    let s := s.advanceTo d
    .next (s.handProtection
      (s.setProtection t ((s.protection t).expire s.severities s.pu.device)) t)

end Sys2Proof.Machine
end

