-- ==== Sys2Proof/Machine/Inputs.lean ====
section
/-! DEFINITION. The Input Supervisor's operations: judgements, loss and restoration (R111 to R114), changes
of source (R98) and the probe's rotation (R115 to R118); and the meanings of INPUT_WINDOW_BOUNDARY,
DISCARD_HALF_EXPIRY and JUDGE_HALF_EXPIRY. -/

namespace Sys2Proof.Machine

/-! ## The probe (R115, R118) -/

/-- Whether a slot is eligible for the probe (R115). -/
def InputRecord.eligible (i : InputRecord) : Bool :=
  match i.inputState with
  | some .liveFallback => true
  | some .inputLost => i.source == .fallback
  | some .livePrimary => false
  | none => false

/-- The eligible slots in ascending order (R115, R121). -/
def State.eligibleSlots (s : State) : List Slot := allSlots.filter fun n => (s.input n).eligible

/-- The next slot of the rotation: the first eligible slot above last visited, counting on from 15 to 0; from
slot 0 when there is no last visited (R115). -/
def State.nextVisit (s : State) : Option Slot :=
  let above (n : Slot) : Bool :=
    match s.probe.lastVisited with
    | none => true
    | some v => decide (v < n)
  s.eligibleSlots.find? above <|> s.eligibleSlots.head?

/-- The synthesizer of a slot's primary input is VERIFIED (R116). -/
def State.primaryVerified (s : State) (n : Slot) : Bool :=
  (s.lane n).slot.any fun e => s.isVerified (.rx e.inputChain)

/-- A visit starts when the probe is idle and a slot is eligible (R115). -/
def State.startVisit (s : State) : State :=
  if s.probe.visit.isSome then s
  else
    match s.nextVisit with
    | none => s
    | some n =>
      { s with
        probe := { visit := some n, phase := some .discard, timer := s.afterMs 100,
                   lastVisited := some n, clean := s.primaryVerified n } }

/-- The probe becomes idle (R115, R116, R118). -/
def Probe.stop (p : Probe) : Probe := { p with visit := none, phase := none, timer := none }

/-- A visit of slot `n` is abandoned: it has no result, and the probe becomes idle (R118). -/
def State.abandonVisit (s : State) (n : Slot) : State :=
  if s.probe.visit = some n then { s with probe := s.probe.stop } else s

/-! ## Changes of input state and source (R112 to R114, R117) -/

/-- The low count, the good count and the judgement cleared (R112). -/
def InputRecord.clearCounts (i : InputRecord) : InputRecord :=
  { i with lowCount := 0, goodCount := 0, judgement := none }

/-- The lane of slot `n` draws from a receive chain whose synthesizer is not VERIFIED (R98). -/
def State.sourceUnverified (s : State) (n : Slot) : Bool :=
  (s.lane n).slot.any fun e => !s.isVerified (.rx (e.sourceChain (s.input n).source))

/-- A change of input state or source made by the Input Supervisor: INPUT_CHANGEOVER on both ports, a fast
mute where the source changes to a receive chain that is not VERIFIED (R98), the lane's decision (R114), its
sequencer told where the fast mute took its chain to zero (R105), and the probe's rotation (R115). -/
def State.changeInput (s : State) (n : Slot) (i : InputRecord) : State :=
  let moved := i.source != (s.input n).source
  let s' := (s.setInput n i).notifyBoth .inputChangeover
  let s' := if moved then s'.markWindow n else s'
  let s' := if moved && s'.sourceUnverified n then s'.fastMute n else s'
  let s' := s'.decideLanes [n]
  let s' := if moved then s'.decideAllSeq else s'
  s'.startVisit

/-! ## Windows (R110 to R113) -/

/-- A power result as recorded: at least −100 and at most 0 dBFS (R110; an operand above 0 is recorded as 0,
assumption 17). -/
def clampResult (r : Int) : Int := max (-100) (min r 0)

/-- The judgement of a counted window (R111). -/
def judgeWindow (r t : Int) (held : Option Judgement) : Option Judgement :=
  if r < t then some .low else if t + 3 ≤ r then some .good else held

/-- A counted window of slot `n` in LIVE_PRIMARY or LIVE_FALLBACK: the low count, and the loss it may
confirm (R112). -/
def State.countLow (s : State) (n : Slot) (i : InputRecord) (live : InputState) (fallback : Bool) :
    State :=
  match i.judgement with
  | none => s.setInput n i
  | some .good => s.setInput n { i with lowCount := 0 }
  | some .low =>
    let i := { i with lowCount := i.lowCount + 1 }
    if i.lowCount < 10 * s.limits.lossConfirm then s.setInput n i
    else if live = .livePrimary ∧ fallback then
      s.changeInput n { i.clearCounts with inputState := some .liveFallback, source := .fallback }
    else s.changeInput n { i.clearCounts with inputState := some .inputLost }

/-- A counted window of slot `n` in INPUT_LOST: the good count, and the restoration it may confirm on the
source the slot is on (R113). -/
def State.countGood (s : State) (n : Slot) (i : InputRecord) : State :=
  match i.judgement with
  | none => s.setInput n i
  | some .low => s.setInput n { i with goodCount := 0 }
  | some .good =>
    let i := { i with goodCount := i.goodCount + 1 }
    if i.goodCount < 10 * s.limits.restoreConfirm then s.setInput n i
    else
      s.changeInput n
        { i.clearCounts with
          inputState := some (match i.source with
            | .primary => .livePrimary
            | .fallback => .liveFallback) }

/-- The examination of one slot's window at a boundary: a void window leaves the judgement, the counts and
the last result; a counted one is recorded and judged against the slot's threshold in the active plan (R110,
R111). -/
def State.examineSlot (s : State) (n : Slot) (result : Int) : State :=
  let i := s.input n
  match i.inputState, s.pe.active.slots.get n with
  | some st, some e =>
    if i.windowVoid then s
    else
      let r := clampResult result
      let i := { i with lastResult := some r, judgement := judgeWindow r e.threshold i.judgement }
      match st with
      | .livePrimary => s.countLow n i .livePrimary e.fallback.isSome
      | .liveFallback => s.countLow n i .liveFallback e.fallback.isSome
      | .inputLost => s.countGood n i
  | _, _ => s

/-- The window that begins at a boundary is void from the start for a slot whose lane is not measured
(R110). -/
def State.beginWindow (s : State) (n : Slot) : State :=
  s.setInput n { s.input n with windowVoid := !(s.lane n).state.measured }

/-- The step count of the next window boundary: every tenth step from reset release (R110; a boundary command
taken late ends the window at hand, assumption 11). -/
def TimeBase.nextWindow (t : TimeBase) : Nat := (t.lastWindow / 10 + 1) * 10

/-- INPUT_WINDOW_BOUNDARY (R110): the window just ended is examined for every slot, then the next begins. -/
def execInputWindowBoundary (results : Vector Int 16) (s : State) :
    Host.Outcome State Fault Refusal :=
  if s.phase = .held then .next s
  else
    let s := s.advanceTo s.time.nextWindow
    let s := allSlots.foldl (fun s n => s.examineSlot n (PerSlot.get results n)) s
    let s := { s with time := { s.time with lastWindow := s.time.steps } }
    .next (allSlots.foldl State.beginWindow s)

/-! ## The visit's halves (R116, R117) -/

/-- The primary input of a slot can be judged: its synthesizer is VERIFIED and its primary receive word is not
none (R116). -/
def State.primarySound (s : State) (n : Slot) : Bool :=
  (s.lane n).primaryWord.isSome && s.primaryVerified n

/-- DISCARD_HALF_EXPIRY (R116): the JUDGE half starts for 100 ms. A visit whose primary synthesizer was
unverified in the DISCARD half stays unclean (assumption 32). -/
def execDiscardHalfExpiry (s : State) : Host.Outcome State Fault Refusal :=
  match s.probe.timer, s.probe.phase, s.probe.visit with
  | some d, some .discard, some n =>
    let s := s.advanceTo d
    .next
      { s with
        probe := { s.probe with phase := some .judge, timer := s.afterMs 100,
                                clean := s.probe.clean && s.primarySound n } }
  | _, _, _ => .next s

/-- The result of a visit of slot `n` whose JUDGE half measured a power result (R116). -/
def State.visitResult (s : State) (n : Slot) (result : Int) : VisitResult :=
  let threshold := ((s.pe.active.slots.get n).map SlotEntry.threshold).getD 0
  if s.probe.clean && s.primarySound n && decide (threshold + 3 ≤ clampResult result) then .good
  else .low

/-- The end of a visit of slot `n` with a result: the slot's last visit and visit counter, and the return to
the primary input when the counter reaches restore visits (R116, R117). -/
def State.endVisit (s : State) (n : Slot) (r : VisitResult) : State :=
  let i := { s.input n with lastVisit := some r }
  match r with
  | .low => s.setInput n { i with visitCounter := 0 }
  | .good =>
    if i.visitCounter + 1 < s.limits.restoreVisits then
      s.setInput n { i with visitCounter := i.visitCounter + 1 }
    else
      s.changeInput n
        { i.clearCounts with inputState := some .livePrimary, source := .primary,
                             visitCounter := 0 }

/-- JUDGE_HALF_EXPIRY (R116): the visit ends with its result, and the next visit starts by R115. That visit is
of the next slot eligible at this event, the same slot again where it is the only one: a slot that becomes
eligible at a later event waits for the visit's end, though the last row of R120 says that the rotation
considers it at once (DESIGN CHOICE, assumption 33). -/
def execJudgeHalfExpiry (result : Int) (s : State) : Host.Outcome State Fault Refusal :=
  match s.probe.timer, s.probe.phase, s.probe.visit with
  | some d, some .judge, some n =>
    let s := s.advanceTo d
    let r := s.visitResult n result
    .next (({ s with probe := s.probe.stop }).endVisit n r).startVisit
  | _, _, _ => .next s

end Sys2Proof.Machine
end

