-- ==== Sys2Proof/Machine/Apply.lean ====
section
/-! DEFINITION. The apply at a second mark (R46 to R51) and what every block takes from a new active plan
(R64, R84, R100, R101, R119, R132, R148, R169); the meanings of SECOND_MARK, PPS_EDGE, SUBSTITUTED_MARK and
PROBATION_EXPIRY. -/

namespace Sys2Proof.Machine

/-! ## What each slot takes (R100, R119) -/

/-- Whether an apply changes what a kept slot's input record depends on (R119). -/
def SlotEntry.sameInputs (a b : SlotEntry) : Bool :=
  a.inputChain == b.inputChain && a.inputFrequency == b.inputFrequency && a.fallback == b.fallback

/-- An input record as an apply or start-up selection makes it for a slot made present (R109, R119). -/
def InputRecord.fresh : InputRecord :=
  { InputRecord.reset with inputState := some .livePrimary }

/-- The input record of slot `n` at an apply from the outgoing to the new entry; a record that is reset
abandons a visit of the slot (R118, R119). -/
def State.applyInput (s : State) (n : Slot) (old new : Option SlotEntry) : State :=
  match old, new with
  | none, none => s
  | some _, none => (s.setInput n .reset).abandonVisit n
  | none, some _ => (s.setInput n .fresh).abandonVisit n
  | some a, some b =>
    if a.sameInputs b then s else (s.setInput n .fresh).abandonVisit n

/-- The words of a slot made present or moved: computed where the chain's programmed words are current, else
none (R100). -/
def State.newWords (s : State) (e : SlotEntry) (l : Lane) : Lane :=
  let word (c : Chain) (f : Nat) : Option Word := s.wordFor c f none
  { l with
    primaryWord := word (.rx e.inputChain) e.inputFrequency
    fallbackWord := e.fallback.bind fun fb => word (.rx fb.chain) fb.frequency
    transmitWord := word (.tx e.outputChain) e.outputFrequency }

/-- A word of a slot that stays on its output chain: computed when the chain's programmed words are current,
kept when they are not and the chain is the same as before, and none when it is another (R100). Where the new
plan gives the slot's transmit chain no LO, R15 and R22 say that the lane has no transmit word; the model
follows R100 and R97 and keeps the word until the chain's power-down makes it none (DESIGN CHOICE, assumption
34). -/
def State.keptWord (s : State) (c : Chain) (f : Nat) (before : Option Chain) (old : Option Word) :
    Option Word :=
  s.wordFor c f (if before = some c then old else none)

/-- The words of a slot that stays present on the same output chain (R100). -/
def State.keptWords (s : State) (a e : SlotEntry) (l : Lane) : Lane :=
  { l with
    primaryWord :=
      s.keptWord (.rx e.inputChain) e.inputFrequency (some (.rx a.inputChain)) l.primaryWord
    fallbackWord := e.fallback.bind fun fb =>
      s.keptWord (.rx fb.chain) fb.frequency (a.fallback.map fun x => .rx x.chain) l.fallbackWord
    transmitWord :=
      s.keptWord (.tx e.outputChain) e.outputFrequency (some (.tx a.outputChain)) l.transmitWord }

/-- Lane `n` at an apply from the outgoing plan's slot to the new one's (R99, R100). The new plan is already
the active plan. -/
def State.applyLane (s : State) (outgoing : Plan) (n : Slot) : State :=
  let l := s.lane n
  match outgoing.slots.get n, s.pe.active.slots.get n with
  | none, none => s
  | some _, none => (s.setLane n { Lane.reset with state := l.state }).setPhase n ⟨0, 0⟩
  | none, some e =>
    (s.setLane n (s.newWords e { Lane.reset with slot := some e, state := l.state })).setPhase n ⟨0, 0⟩
  | some a, some e =>
    if a.outputChain = e.outputChain then
      let l' := s.keptWords a e { l with slot := some e }
      let retuned :=
        (outgoing.tx.get e.outputChain).lo != (s.pe.active.tx.get e.outputChain).lo
      s.setLane n { l' with phaseReset := l.phaseReset || retuned }
    else
      (s.setLane n (s.newWords e { Lane.reset with slot := some e, state := l.state })).setPhase n
        ⟨0, 0⟩

/-- R98 at an apply: a lane whose source, as the apply has set it, names a receive chain that is not VERIFIED
is fast-muted (R100). -/
def State.muteUnverified (s : State) (n : Slot) : State :=
  if s.sourceUnverified n then s.fastMute n else s

/-- The input record of slot `n` was reset by the apply, so the window in progress at the mark is void for it
(R110, R119). At the boundary whose windows have been examined already, the reset belongs to neither window,
as R110 says of the other changes (DESIGN CHOICE, assumption 11). -/
def resetByApply (outgoing active : Plan) (n : Slot) : Bool :=
  match outgoing.slots.get n, active.slots.get n with
  | none, none => false
  | some _, none => true
  | none, some _ => true
  | some a, some b => !a.sameInputs b

/-- The lanes, the mixers and the Input Supervisor at an apply: slots, words, phases, shares and sources
(R100, R119), the ramp units, a ramp on every chain whether or not a target has changed (R101), and the next
visit of an idle probe (R118). -/
def State.applySlots (s : State) (outgoing : Plan) : State :=
  let s := allSlots.foldl
    (fun s n => s.applyInput n (outgoing.slots.get n) (s.pe.active.slots.get n)) s
  let s := allSlots.foldl (fun s n => s.applyLane outgoing n) s
  let s := allSlots.foldl State.muteUnverified s
  let s := allTx.foldl
    (fun s t => s.setMixer t { s.mixer t with rampUnit := (s.pe.active.tx.get t).rampUnit }) s
  let s := s.decideLanes allSlots
  let s := (allSlots.filter (resetByApply outgoing s.pe.active)).foldl State.markWindow s
  (allTx.foldl State.startRamp s).startVisit

/-! ## What the other blocks take -/

/-- What a sequencer takes from the new active plan: its delays, and in a live state whether a retune is
pending (R132). -/
def State.takeSeqFields (s : State) (t : Tx) : State :=
  let c := s.pe.active.tx.get t
  let q := s.seq t
  s.setSeq t
    { q with
      driveSettle := c.driveSettle
      paDischarge := c.paDischarge
      retunePending :=
        if q.state.live then s.pe.active.tuningLo t != (s.synth (.tx t)).wanted else q.retunePending }

/-- The sequencer at an apply, its fields taken: the tuning LO handed over in an off state, and the state
decided again (R124, R132). -/
def State.applySeq (s : State) (t : Tx) : State :=
  (if (s.seq t).state.live then s else s.handOver t).decideSeq t

/-- The Protection Unit takes a new profile: trip lists cut to the new limit, and where a severity has
changed S of every chain decided again (R148). -/
def State.applyProtection (s : State) (outgoing : Plan) : State :=
  let s := allTx.foldl (fun s t => s.setProtection t ((s.protection t).cut s.limits)) s
  if outgoing.severities = s.severities then s else allTx.foldl State.protect s

/-- The reference state reached at the qualify expiry, by the last sample of the disciplined input (R60). -/
def RefMonitor.qualified (r : RefMonitor) : RefState := if r.disciplined then .locked else .holdover

/-- The Reference Monitor takes a new profile: a running expiry is decided again against a changed field,
measured from the entry into the present state, and taken at this event when it has already passed (R64). -/
def State.applyReference (s : State) (outgoing : Plan) : State :=
  let old := outgoing.limits
  let new := s.limits
  match s.ref.state with
  | .qualifying =>
    if old.qualifyTime = new.qualifyTime then s
    else
      let d := s.ref.enteredAt + 100 * new.qualifyTime
      if d ≤ s.time.steps then s.setReference s.ref.qualified
      else { s with ref := { s.ref with qualify := some d } }
  | .holdover =>
    if old.holdoverAllowance = new.holdoverAllowance then s
    else if new.holdoverAllowance = 0 then { s with ref := { s.ref with holdover := none } }
    else
      let d := s.ref.enteredAt + 6000 * new.holdoverAllowance
      if d ≤ s.time.steps then s.setReference .expired
      else { s with ref := { s.ref with holdover := some d } }
  | .absent => s
  | .locked => s
  | .expired => s

/-- One synthesizer controller takes a new audit interval (R84). -/
def State.applyAudit (s : State) (old new : Nat) (c : Chain) : State :=
  let x := s.synth c
  if old = new then s
  else if new = 0 then s.setSynth c { x with audit := none }
  else if old = 0 ∧ x.state = .verified ∧ x.auditing = false then
    s.setSynth c { x with audit := s.afterSeconds new }
  else s

/-- The synthesizer controllers take a new profile; the other five fields act at their next use (R84). -/
def State.applySynths (s : State) (outgoing : Plan) : State :=
  allChains.foldl
    (fun s c => s.applyAudit outgoing.limits.auditInterval s.limits.auditInterval c) s

/-- Both ports take the link silence time; a running silence timer keeps its expiry (R169). -/
def State.applyPorts (s : State) : State :=
  let take (s : State) (p : Port) : State :=
    s.setPort p { s.port p with linkSilence := s.limits.linkSilence }
  take (take s .a) .b

/-- A new active plan handed to every block that reads it, at the mark (R49). The manual gives no order
among the blocks; the model takes one (assumption 6): every sequencer has its new fields before any decides, and
the Protection Unit has decided with the new severities before any LO is handed over. -/
def State.handPlan (s : State) (outgoing : Plan) : State :=
  let s := allTx.foldl State.takeSeqFields s
  let s := s.applySlots outgoing
  let s := s.applyProtection outgoing
  let s := (s.takeRxLo .rx0).takeRxLo .rx1
  let s := allTx.foldl State.applySeq s
  let s := s.applySynths outgoing
  (s.applyReference outgoing).applyPorts

/-! ## The apply (R46 to R51) -/

/-- The Plan Engine at a COMMIT-kind apply: the push, the new active plan, probation, and the last-apply
record (R45, R47, R51). -/
def PlanEngine.commitApply (e : PlanEngine) (p : PendingApply) (plan : Plan) (now mark : Nat) :
    PlanEngine :=
  let top := e.top - 1
  { e with
    active := plan
    status := if 0 < plan.limits.probation then .onProbation else .settled
    probation := if 0 < plan.limits.probation then some (now + 100 * plan.limits.probation) else none
    pendingApply := none
    history := e.history.set top.val (some e.active)
    top := top
    lastApply := some
      { kind := .commit, requestedBy := p.requestedBy, applied := plan.issue,
        outgoing := e.active.issue, discarded := (e.history[top.val]).map Plan.issue,
        markTime := mark } }

/-- The Plan Engine at a REVERT-kind apply: the pop, the restored plan, probation stopped, and the last-apply
record (R45, R48, R51). -/
def PlanEngine.revertApply (e : PlanEngine) (p : PendingApply) (plan : Plan) (mark : Nat) :
    PlanEngine :=
  { e with
    active := plan
    status := .settled
    probation := none
    pendingApply := none
    history := e.history.set e.top.val none
    top := e.top + 1
    lastApply := some
      { kind := .revert, requestedBy := p.requestedBy, applied := plan.issue,
        outgoing := e.active.issue, discarded := none, markTime := mark } }

/-- An apply, once the Plan Engine has its new active plan: the notice on both ports, the SITE write request
(R50) and the hand-over (R49). -/
def State.applied (s : State) (outgoing : Plan) (n : Notice) : State :=
  ((s.notifyBoth n).requestSite).handPlan outgoing

/-- A second mark: the seconds count increases by 1 (R67) and the pending apply, if there is one, is applied
(R46 to R48). A trip that the apply makes is stamped with the count as increased by the mark; R145 leaves open
whether it is that or the count before (DESIGN CHOICE, assumption 35). A REVERT that finds no history plan
cannot be (R48): the machine stops with a fault. -/
def State.mark (s : State) : Host.Outcome State Fault Refusal :=
  let s := { s with
    time := { s.time with seconds := s.time.seconds + 1, lastMark := s.time.steps } }
  match s.pe.pendingApply with
  | none => .next s
  | some p =>
    match p.change with
    | .commit plan =>
      .next ({ s with pe := s.pe.commitApply p plan s.time.steps s.time.seconds }.applied
        s.pe.active .planApplied)
    | .revert =>
      match s.pe.history[s.pe.top.val] with
      | none => .fault .revertWithEmptyHistory
      | some plan =>
        .next ({ s with pe := s.pe.revertApply p plan s.time.seconds }.applied
          s.pe.active .planReverted)

/-- The step boundary of the next counted mark: the 100th step after the previous mark, or the first boundary
after LOCKED was left with 100 steps or more already passed (R67). -/
def State.nextMark (s : State) : Nat :=
  if s.time.lastMark + 100 ≤ s.ref.leftLocked then s.ref.leftLocked + 1 else s.time.lastMark + 100

/-- SECOND_MARK (R67): in every state except LOCKED a mark is made when 100 steps have passed since the
previous one. In LOCKED no mark is counted, and in reset the time base stands still. -/
def execSecondMark (s : State) : Host.Outcome State Fault Refusal :=
  if s.phase = .held ∨ s.ref.state = .locked then .next s
  else (s.advanceTo s.nextMark).mark

/-- PPS_EDGE (R68): in LOCKED, an edge at 50 steps or more after the previous mark makes a mark; any other
edge is ignored. -/
def execPpsEdge (s : State) : Host.Outcome State Fault Refusal :=
  if s.phase ≠ .held ∧ s.ref.state = .locked ∧ s.time.lastMark + 50 ≤ s.time.steps then s.mark
  else .next s

/-- SUBSTITUTED_MARK (R68): in LOCKED, when 150 steps have passed since the previous mark; the
substituted-mark count increases, staying at 65,535 once there (R69). -/
def execSubstitutedMark (s : State) : Host.Outcome State Fault Refusal :=
  if s.phase = .held ∨ s.ref.state ≠ .locked then .next s
  else
    let s := s.advanceTo (s.time.lastMark + 150)
    { s with time := { s.time with substituted := min (s.time.substituted + 1) 65535 } }.mark

/-- PROBATION_EXPIRY (R53): the status becomes SETTLED without a revert. -/
def execProbationExpiry (s : State) : Host.Outcome State Fault Refusal :=
  match s.pe.probation with
  | none => .next s
  | some d =>
    let s := s.advanceTo d
    .next { s with pe := { s.pe with status := .settled, probation := none } }

end Sys2Proof.Machine
end

