-- ==== Sys2Proof/Machine/StartUp.lean ====
section
/-! DEFINITION. Start-up selection (R161, R162): the choice of the initial active plan, what each block takes
from it, and the meaning of START_UP_SELECTION. -/

namespace Sys2Proof.Machine

/-! ## The choice (R162) -/

/-- The issue of a VALID record, 0 of an INVALID one (R162). -/
def StoredRecord.validIssue (x : StoredRecord) : Nat :=
  match x.status with
  | .valid => (storedPlan x.image).issue
  | .invalid => 0

/-- The origin that names the record the initial plan comes from (R162). -/
def PlanStore.startOrigin (x : PlanStore) : Origin :=
  match x.records.site.status, x.records.dflt.status with
  | .valid, _ => .storeSite
  | .invalid, .valid => .storeDefault
  | .invalid, .invalid => .empty

/-- The initial active plan, with its origin (R162). -/
def PlanStore.startPlan (x : PlanStore) : Plan :=
  match x.records.site.status, x.records.dflt.status with
  | .valid, _ => { storedPlan x.records.site.image with origin := .storeSite }
  | .invalid, .valid => { storedPlan x.records.dflt.image with origin := .storeDefault }
  | .invalid, .invalid => .empty

/-- The initial lockout set (R162). -/
def PlanStore.startLockout (x : PlanStore) : PerTx Bool :=
  match x.records.site.status with
  | .valid => storedLockout x.records.site.image
  | .invalid => ⟨false, false, false, false⟩

/-- The last issued number at start-up (R35, R162). -/
def PlanStore.startIssue (x : PlanStore) : Nat :=
  max x.records.site.validIssue x.records.dflt.validIssue

/-! ## What each block takes -/

/-- A chain of the loaded lockout set joins the Protection Unit's lockout set (R138). -/
def State.loadLockout (s : State) (v : PerTx Bool) (t : Tx) : State :=
  s.setProtection t { s.protection t with lockedOut := v.get t }

/-- A change of the lockout set raises CHAIN_CHANGED (R144); an empty loaded set changes nothing
(assumption 26). -/
def State.loadLockouts (s : State) (v : PerTx Bool) : State :=
  let s' := allTx.foldl (fun s t => s.loadLockout v t) s
  if allTx.any v.get then s'.notifyBoth .chainChanged else s'

/-- Lane `n` and its input record take slot `n` of the loaded plan (R94, R109). -/
def State.startSlot (s : State) (n : Slot) : State :=
  match s.pe.active.slots.get n with
  | none => s
  | some e =>
    (s.setInput n .fresh).setLane n (s.newWords e { Lane.reset with slot := some e })

/-- A mixer takes its chain's ramp unit; no ramp starts (R94). -/
def State.startMixer (s : State) (t : Tx) : State :=
  s.setMixer t { s.mixer t with rampUnit := (s.pe.active.tx.get t).rampUnit }

/-- A sequencer, its fields taken, starts in LOCKED_OUT when the loaded lockout set names its chain and in OFF
otherwise, hands over its tuning LO, and decides again (R124, R126, R137). -/
def State.startSeq (s : State) (t : Tx) : State :=
  let s := if (s.protection t).lockedOut then s.moveSeq t .lockedOut else s
  (s.handOver t).decideSeq t

/-- The loaded plan becomes the initial active plan, without being applied (R35, R162). -/
def State.loadPlan (s : State) : State :=
  { s with
    phase := .running
    time := { s.time with startDelay := none }
    pe := { s.pe with active := s.store.startPlan, lastIssued := s.store.startIssue }
    store := { s.store with startSource := s.store.startOrigin } }

/-- Start-up selection: the loaded plan, lockout set and profile reach every block; the profile comes into
effect against the defaults (R64, R84, R148, R162). No write is requested and no notice of an apply is
raised. -/
def State.startUp (s : State) : State :=
  let outgoing := s.pe.active
  let lockout := s.store.startLockout
  let s := s.loadPlan.loadLockouts lockout
  let s := allTx.foldl State.takeSeqFields s
  let s := allSlots.foldl State.startSlot s
  let s := allTx.foldl State.startMixer s
  let s := s.decideLanes allSlots
  let s := s.applyProtection outgoing
  let s := (s.takeRxLo .rx0).takeRxLo .rx1
  let s := allTx.foldl State.startSeq s
  let s := s.applySynths outgoing
  (s.applyReference outgoing).applyPorts

/-- START_UP_SELECTION (R161): the expiry of the start delay. Outside the start delay there is none. -/
def execStartUpSelection (s : State) : Host.Outcome State Fault Refusal :=
  match s.phase, s.time.startDelay with
  | .startDelay, some d => .next (s.advanceTo d).startUp
  | _, _ => .next s

end Sys2Proof.Machine
end

