-- ==== Sys2Proof/Machine/Status.lean ====
section
/-! DEFINITION. READ_STATUS (R173): the fields of each item as byte lists (R175), and their packing into
parts of at most 48 bytes. The choices the text of R175 leaves are in assumption 8. -/

namespace Sys2Proof.Machine

/-! ## Encodings (R175) -/

/-- A yes/no field: 1 yes, 0 no. R175 gives the size alone; the values are the model's choice, after the
`enabled` byte of a transmit chain item (assumption 8). -/
def yesNo (b : Bool) : List Byte := byte b.toNat

/-- A named value that may be none: 0xFF for none. -/
def named1 (n : Option Nat) : List Byte := byte (n.getD 255)

/-- A four-byte value that may be none: 0xFFFFFFFF for none. -/
def optional4 (n : Option Nat) : List Byte := bytes4 (n.getD 4294967295)

/-- An issue number that may be none: a presence byte and the number. -/
def optionalIssue (n : Option Nat) : List Byte := yesNo n.isSome ++ optional4 n

/-- A list: a count byte and the entries. -/
def listField (entries : List (List Byte)) : List Byte := byte entries.length ++ entries.flatten

/-- An NCO word, 0x80000000 for none. -/
def wordField (w : Option Word) : List Byte := bytes4 (w.getD 0x80000000#32).toNat

/-- A value in dBFS, 0x80 for none. -/
def dbfsField (r : Option Int) : List Byte := signedByte (r.getD (-128))

/-- A slot number or none. -/
def slotField (n : Option Slot) : List Byte := named1 (n.map Fin.val)

def portCode : Port → Nat
  | .a => 0
  | .b => 1

def requesterCode : Requester → Nat
  | .a => 0
  | .b => 1
  | .probation => 2

def kindCode : ApplyKind → Nat
  | .commit => 0
  | .revert => 1

/-- The kind of a pending apply (R41). -/
def PendingChange.kind : PendingChange → ApplyKind
  | .commit _ => .commit
  | .revert => .revert

def refStateCode : RefState → Nat
  | .absent => 0
  | .qualifying => 1
  | .locked => 2
  | .holdover => 3
  | .expired => 4

/-- The source of the second marks: PPS in LOCKED, BACKUP in ABSENT, REFERENCE otherwise (section 4.5). -/
def markSourceCode : RefState → Nat
  | .locked => 0
  | .qualifying => 1
  | .holdover => 1
  | .expired => 1
  | .absent => 2

def verdictCode : Verdict → Nat
  | .within => 0
  | .low => 1
  | .high => 2
  | .unordered => 3

def synStateCode : SynState → Nat
  | .idle => 0
  | .programming => 1
  | .settling => 2
  | .queued => 3
  | .measuring => 4
  | .verified => 5
  | .failed => 6

def seqStateCode : SeqState → Nat
  | .off => 0
  | .tuning => 1
  | .driveSettle => 2
  | .rampUp => 3
  | .onAir => 4
  | .muted => 5
  | .rampDown => 6
  | .paDischarge => 7
  | .lockedOut => 8

def offCauseCode : OffCause → Nat
  | .notEnabled => 0
  | .level3 => 1
  | .lockedOut => 2
  | .retunePending => 3

def laneStateCode : LaneState → Nat
  | .unassigned => 0
  | .held => 1
  | .livePrimary => 2
  | .liveFallback => 3
  | .inputLost => 4

def sourceCode : Source → Nat
  | .primary => 0
  | .fallback => 1

def inputStateCode : InputState → Nat
  | .livePrimary => 0
  | .liveFallback => 1
  | .inputLost => 2

def judgementCode : Judgement → Nat
  | .low => 0
  | .good => 1

def visitResultCode : VisitResult → Nat
  | .good => 0
  | .low => 1

def visitPhaseCode : VisitPhase → Nat
  | .discard => 0
  | .judge => 1

def faultsCode : TripFaults → Nat
  | .paFault => 0
  | .txLoLost => 1
  | .both => 2

def recordStatusCode : RecordStatus → Nat
  | .valid => 0
  | .invalid => 1

def recordNameCode : RecordName → Nat
  | .site => 0
  | .dflt => 1

def resetCauseCode : ResetCause → Nat
  | .powerOn => 0
  | .undervoltage => 1
  | .pin => 2

/-- The lines of R136 are on or off. -/
def onOff (on : Bool) : List Byte := byte (if on then 0 else 1)

/-! ## Device item -/

/-- A pending record, or none (R41, R57). -/
def pendingField (p : Option PendingApply) : List Byte :=
  match p with
  | none => [0, 0xFF] ++ optional4 none ++ [0xFF]
  | some p =>
    [1] ++ byte (kindCode p.change.kind) ++ bytes4 p.issue ++ byte (requesterCode p.requestedBy)

/-- The last-apply record, or none (R51, R57). In an absent record R175 leaves open whether the leading byte
of the part 'oldest discarded' is the none code of a yes/no field, 0xFF, or an absent part's presence byte, 0.
The model sends 0, with 0xFFFFFFFF for the issue after it (DESIGN CHOICE, assumption 8). -/
def lastApplyField (r : Option LastApply) : List Byte :=
  match r with
  | none =>
    [0, 0xFF, 0xFF] ++ optional4 none ++ optional4 none ++ optionalIssue none ++ optional4 none
  | some r =>
    [1] ++ byte (kindCode r.kind) ++ byte (requesterCode r.requestedBy) ++ bytes4 r.applied
      ++ bytes4 r.outgoing ++ optionalIssue r.discarded ++ bytes4 r.markTime

/-- The issue of the history entry at TOP, none when the history is empty (R57). -/
def PlanEngine.historyTop (e : PlanEngine) : Option Nat := (e.history[e.top.val]).map Plan.issue

/-- The number of VALID history entries (R57). -/
def PlanEngine.depth (e : PlanEngine) : Nat := (e.history.toList.filter Option.isSome).length

/-- The Plan Engine's fields (R57). -/
def planEngineFields (s : State) : List (List Byte) :=
  [byte (match s.pe.grant with
    | none => 0
    | some .a => 1
    | some .b => 2),
   bytes4 s.pe.active.issue,
   byte (originCode s.pe.active.origin),
   byte (match s.pe.status with
    | .onProbation => 0
    | .settled => 1),
   bytes2 (s.secondsLeft s.pe.probation),
   pendingField s.pe.pendingApply,
   bytes2 s.pe.depth,
   optionalIssue s.pe.historyTop,
   bytes4 s.pe.lastIssued,
   lastApplyField s.pe.lastApply]

/-- Holdover remaining: 0 in EXPIRED, none when the timer does not run (R69). -/
def holdoverField (s : State) : List Byte :=
  match s.ref.state, s.ref.holdover with
  | .expired, _ => bytes4 0
  | .holdover, some d => bytes4 (s.secondsLeft (some d))
  | _, _ => optional4 none

/-- The Reference Monitor's and the time base's fields (R69). -/
def referenceFields (s : State) : List (List Byte) :=
  [byte (refStateCode s.ref.state),
   bytes4 ((s.time.steps - s.ref.enteredAt) / 100),
   bytes2 (s.secondsLeft s.ref.qualify),
   holdoverField s,
   byte (if s.ref.disciplined then 0 else 1),
   bytes4 (min s.ref.lastCount 131071),
   byte (markSourceCode s.ref.state),
   bytes4 s.time.seconds,
   bytes2 s.time.substituted]

/-- The Frequency Counter's fields (R91). -/
def counterFields (s : State) : List (List Byte) :=
  [byte s.fc.current.isSome.toNat,
   (match s.fc.current with
    | none => [0, 0xFF, 0xFF, 0xFF]
    | some m => [1] ++ byte (chainCode m.syn) ++ yesNo m.audit ++ yesNo m.spoiled),
   listField (s.fc.queue.map fun q => byte (chainCode q.syn) ++ yesNo q.audit),
   (match s.fc.last with
    | none => [0, 0xFF, 0xFF, 0xFF] ++ optional4 none ++ optional4 none ++ [0xFF, 0xFF]
    | some m =>
      [1] ++ byte (chainCode m.syn) ++ yesNo m.audit ++ byte (verdictCode m.verdict)
        ++ optional4 m.count ++ bytes4 m.expected ++ bytes2 m.tolerance)]

/-- The probe record's fields (R121). R121 calls it a record; R175 leaves open whether it is one field of
several parts, as a pending record is, or four. The model sends four fields (DESIGN CHOICE, assumption 8). -/
def probeFields (s : State) : List (List Byte) :=
  [slotField s.probe.visit,
   named1 (s.probe.phase.map visitPhaseCode),
   slotField s.probe.lastVisited,
   listField (s.eligibleSlots.map fun n => byte n.val)]

/-- The device-wide present set in rank order and the lockout set in chain order (R150). -/
def protectionDeviceFields (s : State) : List (List Byte) :=
  [listField ((presentKinds s.pu.device ⟨false, false, false, false⟩).map fun k =>
      byte (conditionCode k)),
   listField ((allTx.filter fun t => (s.protection t).lockedOut).map fun t =>
      byte (chainCode (.tx t)))]

/-- The supply state, the latest measurement and the reset-cause record (R163). -/
def supplyFields (s : State) : List (List Byte) :=
  [byte (match s.supply.state with
    | .normal => 0
    | .warning => 1),
   byte s.supply.measurement.val,
   byte (resetCauseCode s.supply.lastCause) ++ yesNo s.supply.undervoltageSeen]

/-- The state of a port as one byte (R173). -/
def linkField (p : PortState) : List Byte :=
  byte (match p.link with
    | .active => 0
    | .silent => 1)

/-- The port fields, for the asking port (R173). -/
def portFields (s : State) (p : Port) : List (List Byte) :=
  [linkField s.ports.a ++ linkField s.ports.b,
   bytes2 (s.port p).linkSilence,
   bytes2 (s.secondsLeft (s.port p).silence)]

/-! ## The other items -/

/-- Chain item: mixer fields (R107). The ramp unit and the step count, which R175 names neither a count nor a
time nor a level, take 2 bytes by the model's choice (assumption 8). -/
def mixerFields (s : State) (t : Tx) : List (List Byte) :=
  let sum := s.pe.active.shareSum t
  [bytes2 (s.mixer t).rampUnit,
   bytes2 (s.mixer t).step,
   listField ((s.lanesOn t).map fun n => byte n.val),
   bytes2 sum,
   yesNo (decide (1024 < sum)),
   bytes2 (s.currentSum t),
   bytes2 (s.targetSum t)]

/-- Chain item: sequencer fields (R136). -/
def sequencerFields (s : State) (t : Tx) : List (List Byte) :=
  let q := s.seq t
  [byte (seqStateCode q.state),
   onOff q.state.driveOn,
   onOff q.state.paOn,
   yesNo (s.wantedOn t),
   listField ((s.offCauses t).map fun c => byte (offCauseCode c)),
   yesNo q.retunePending,
   yesNo q.driveSettled,
   bytes2 (if q.state = .driveSettle then s.stepsLeft q.settleTimer
     else if q.state = .paDischarge then s.stepsLeft q.dischargeTimer else 0),
   optional4 q.handedOver]

/-- Chain item: protection fields (R150). The two levels take 2 bytes, as R175 says of a level. While the
cause is none, when R138 and R143 give no holding flag, the holding byte is 0, as of no, and not the none code
0xFF (DESIGN CHOICE, assumption 8). -/
def protectionFields (s : State) (t : Tx) : List (List Byte) :=
  let c := s.protection t
  [bytes2 c.level.val,
   bytes2 c.highest.val,
   named1 (c.cause.map conditionCode),
   yesNo c.holding,
   bytes2 (s.secondsLeft c.hold),
   listField ((presentKinds s.pu.device c.present).map fun k => byte (conditionCode k)),
   listField (c.trips.map fun x => bytes4 x.time ++ byte (faultsCode x.faults)),
   yesNo c.lockedOut]

/-- A synthesizer's place in the counter queue, counting from 1, 0 when it is not in it (R91). -/
def queuePosition (s : State) (c : Chain) : Nat :=
  ((s.fc.queue.findIdx? fun q => q.syn = c).map (· + 1)).getD 0

/-- Synthesizer item (R91). The queue position, a number that R175 names neither a count nor a time nor a level,
takes 2 bytes by the model's choice, as do N and F their 2 and 4 (assumption 8). -/
def synthesizerFields (s : State) (c : Chain) : List (List Byte) :=
  let x := s.synth c
  [byte (synStateCode x.state),
   optional4 x.wanted,
   bytes2 ((x.programmed.map DividerWords.n).getD 65535),
   optional4 (x.programmed.map DividerWords.f),
   bytes2 x.attempts,
   named1 (x.lastVerdict.map verdictCode),
   optional4 x.lastCount,
   yesNo x.auditing,
   yesNo x.lost,
   bytes2 (queuePosition s c),
   yesNo (s.fc.current.any fun m => m.syn = c),
   bytes2 (s.secondsLeft x.retry),
   bytes2 (s.secondsLeft x.audit)]

/-- The effective share reported for a slot: 0 when its lane is UNASSIGNED (R107). -/
def effectiveField (s : State) (n : Slot) : List Byte :=
  bytes2 (if (s.lane n).state = .unassigned then 0 else s.pe.active.effectiveShare n)

/-- Slot item: lane fields (R107). -/
def laneFields (s : State) (n : Slot) : List (List Byte) :=
  let l := s.lane n
  [byte (laneStateCode l.state),
   byte (sourceCode (s.input n).source),
   wordField l.primaryWord,
   wordField l.fallbackWord,
   wordField l.transmitWord,
   yesNo l.phaseReset,
   effectiveField s n,
   bytes2 l.target,
   bytes2 l.current]

/-- Slot item: input record fields (R121). -/
def inputFields (s : State) (n : Slot) : List (List Byte) :=
  let i := s.input n
  [named1 (i.inputState.map inputStateCode),
   named1 (i.judgement.map judgementCode),
   dbfsField i.lastResult,
   bytes2 i.lowCount,
   bytes2 i.goodCount,
   bytes2 i.visitCounter,
   named1 (i.lastVisit.map visitResultCode),
   yesNo (decide (s.probe.visit = some n))]

/-- The issue of a stored plan, none when the record is INVALID (R163). -/
def StoredRecord.storedIssue (x : StoredRecord) : Option Nat :=
  match x.status with
  | .valid => some (storedPlan x.image).issue
  | .invalid => none

/-- The issue of a record's pending plan (R163). -/
def StoredRecord.pendingIssue (x : StoredRecord) : Option Nat :=
  x.pendingContent.map fun c => c.plan.issue

/-- The stored lockout set of the SITE record; none while it is INVALID (R163). -/
def storedLockoutField (x : StoredRecord) : List Byte :=
  match x.status with
  | .invalid => [0xFF]
  | .valid =>
    listField ((allTx.filter (storedLockout x.image).get).map fun t => byte (chainCode (.tx t)))

/-- Store item (R163). The model's choices (assumption 8): each row that R163 gives 'per record' is sent for
SITE and then for DEFAULT before the next row, the row of retry used and retry remaining as both fields of
SITE and then both of DEFAULT; and the start-up source is sent as its origin code of section 12.3, 2 to 4, not
as its place in the list of R163. -/
def storeFields (s : State) : List (List Byte) :=
  let site := s.store.records.site
  let dflt := s.store.records.dflt
  [byte s.store.inFlight.isSome.toNat
     ++ named1 (s.store.inFlight.map fun w => recordNameCode w.record),
   yesNo (s.supply.state == .warning),
   byte (recordStatusCode site.status),
   byte (recordStatusCode dflt.status),
   optionalIssue site.storedIssue,
   optionalIssue dflt.storedIssue,
   optionalIssue site.pendingIssue,
   optionalIssue dflt.pendingIssue,
   yesNo site.retryUsed,
   bytes2 (s.stepsLeft site.retry),
   yesNo dflt.retryUsed,
   bytes2 (s.stepsLeft dflt.retry),
   bytes2 site.failures,
   bytes2 dflt.failures,
   storedLockoutField site,
   byte (originCode s.store.startSource),
   byte (recordStatusCode s.store.startStatuses.site)
     ++ byte (recordStatusCode s.store.startStatuses.dflt)]

/-- The fields of an item, in the order R173 and R175 give (R173). -/
def statusFields (s : State) (p : Port) : StatusItem → List (List Byte)
  | .device =>
    planEngineFields s ++ referenceFields s ++ counterFields s ++ probeFields s
      ++ protectionDeviceFields s ++ supplyFields s ++ portFields s p
  | .chain t => mixerFields s t ++ sequencerFields s t ++ protectionFields s t
  | .synthesizer c => synthesizerFields s c
  | .slot n => laneFields s n ++ inputFields s n
  | .store => storeFields s

/-! ## Parts (R175) -/

/-- Fields packed into parts: a field joins the part at hand until it would pass 48 bytes, and then begins
the next (R175). `part` is the part at hand. -/
def packParts (part : List Byte) : List (List Byte) → List (List Byte)
  | [] => [part]
  | field :: rest =>
    if part.length + field.length ≤ 48 then packParts (part ++ field) rest
    else part :: packParts field rest

/-- The parts of an item (R173). -/
def statusParts (s : State) (p : Port) (item : StatusItem) : List (List Byte) :=
  packParts [] (statusFields s p item)

end Sys2Proof.Machine
end

