-- ==== Sys2Proof/Machine/SynthEvents.lean ====
section
/-! DEFINITION. The meanings of the events of the synthesizer controllers and of the Frequency Counter
(R76 to R82, R87): PROGRAMMING_COMPLETE, POWER_DOWN_TRANSFER_END, SETTLE_EXPIRY, RETRY_EXPIRY,
AUDIT_EXPIRY, LOCK_DROP, GATE_CLOSE and MEASUREMENT_TIMEOUT. -/

namespace Sys2Proof.Machine

/-! ## The control line (R75, R76) -/

/-- The end of a programming on the control line: the output is enabled again and the programmed words
become the pair shifted out; where they differ from the previous ones the lanes compute their words again
(R72, R76, R97). -/
def State.endProgramming (s : State) (c : Chain) (w : DividerWords) : State :=
  let x := s.synth c
  let s' := s.setSynth c { x with transfer := .none, output := .enabled, programmed := some w }
  if x.programmed = some w then s' else s'.refreshWords c

/-- What follows programming complete, by restart pending and the wanted LO (R76). -/
def State.afterProgramming (s : State) (c : Chain) : State :=
  let x := s.synth c
  if x.restartPending then
    match x.wanted with
    | some _ => (s.setSynth c { x with restartPending := false, attempts := 0 }).startProgramming c
    | none => s.goIdle c
  else s.setSynth c { x with state := .settling, settle := s.afterMs s.limits.settle }

/-- PROGRAMMING_COMPLETE (R76). With no programming on the control line there is no such event and nothing
changes. -/
def execProgrammingComplete (c : Chain) (s : State) : Host.Outcome State Fault Refusal :=
  match (s.synth c).transfer with
  | .programming w => .next ((s.endProgramming c w).afterProgramming c)
  | .none => .next s
  | .powerDown => .next s

/-- POWER_DOWN_TRANSFER_END (R75): the output is disabled, and a programming that waited for the end of the
transfer starts. -/
def execPowerDownTransferEnd (c : Chain) (s : State) : Host.Outcome State Fault Refusal :=
  match (s.synth c).transfer with
  | .powerDown =>
    let s := s.setSynth c { s.synth c with transfer := .none, output := .disabled }
    .next (if (s.synth c).state = .programming then s.startProgramming c else s)
  | .none => .next s
  | .programming _ => .next s

/-! ## Timers (R77, R79, R81) -/

/-- A settled synthesizer goes to the counter (R77, R85, R86). -/
def State.enterQueued (s : State) (c : Chain) : State :=
  ((s.setSynth c { s.synth c with state := .queued }).joinQueue c false).startMeasurement

/-- SETTLE_EXPIRY (R77): lock-detect asserted sends the synthesizer to the counter queue, deasserted is a
failed attempt. -/
def execSettleExpiry (c : Chain) (lockDetect : Bool) (s : State) : Host.Outcome State Fault Refusal :=
  match (s.synth c).settle with
  | none => .next s
  | some d =>
    let s := s.advanceTo d
    let s := s.setSynth c { s.synth c with settle := none }
    .next (if lockDetect then s.enterQueued c else s.failedAttempt c)

/-- A fresh cycle from FAILED: the retry timer is stopped, attempts used becomes 0, a programming starts,
and TX_LO_UNVERIFIED is withdrawn (R79, R83, R90). -/
def State.freshCycle (s : State) (c : Chain) : State :=
  ((s.setSynth c { s.synth c with retry := none, attempts := 0 }).startProgramming c).withdrawSynth c

/-- RETRY_EXPIRY (R79). -/
def execRetryExpiry (c : Chain) (s : State) : Host.Outcome State Fault Refusal :=
  match (s.synth c).retry with
  | none => .next s
  | some d => .next ((s.advanceTo d).freshCycle c)

/-- An audit becomes outstanding: the audit timer no longer runs, auditing is yes, and the synthesizer joins
the queue as an audit (R81, R90). -/
def State.startAudit (s : State) (c : Chain) : State :=
  ((s.setSynth c { s.synth c with audit := none, auditing := true }).joinQueue c true).startMeasurement

/-- AUDIT_EXPIRY (R81). -/
def execAuditExpiry (c : Chain) (s : State) : Host.Outcome State Fault Refusal :=
  match (s.synth c).audit with
  | none => .next s
  | some d => .next ((s.advanceTo d).startAudit c)

/-! ## Lock drops and failed audits (R82) -/

/-- A lock drop or failed audit, `now` milliseconds into the time base: the audit timer stopped, an outstanding
audit removed or abandoned, lost yes, attempts used 1, and the settle time given; the departure from VERIFIED
and TX_LO_LOST are handed on (R82, R83). -/
def State.loseLock (s : State) (c : Chain) (now : Nat) : State :=
  let s := s.leaveCounter c
  let s := s.setSynth c
    { s.synth c with
      state := .settling
      attempts := 1
      settle := expiryFrom now s.limits.settle
      audit := none
      auditing := false
      lost := true }
  ((s.startMeasurement).leftVerified c).reportSynth c

/-- LOCK_DROP (R82): a sample taken in a state other than VERIFIED makes no lock drop. -/
def execLockDrop (c : Chain) (s : State) : Host.Outcome State Fault Refusal :=
  .next (if s.isVerified c then s.loseLock c (10 * s.time.steps) else s)

/-! ## Verdicts (R80, R81, R87) -/

/-- A synthesizer found WITHIN: it enters VERIFIED, no longer lost, with its audit timer running when the
interval is above 0 (R80); its conditions are withdrawn and the entry is handed on (R83). -/
def State.enterVerified (s : State) (c : Chain) : State :=
  let s := s.setSynth c
    { s.synth c with
      state := .verified
      attempts := 0
      lost := false
      audit := if 0 < s.limits.auditInterval then s.afterSeconds s.limits.auditInterval else none }
  (s.reportSynth c).enteredVerified c

/-- The verdict of a measurement that is not an audit (R80). -/
def State.takeVerdict (s : State) (c : Chain) (v : Verdict) (count : Option Nat) : State :=
  let s := s.setSynth c { s.synth c with lastVerdict := some v, lastCount := count }
  match v with
  | .within => s.enterVerified c
  | .low => s.failedAttempt c
  | .high => s.failedAttempt c
  | .unordered => (s.setSynth c { s.synth c with state := .queued }).joinQueue c false

/-- The audit timer restarts when the interval is above 0 (R81, R84). -/
def State.restartAudit (s : State) (c : Chain) : State :=
  s.setSynth c
    { s.synth c with
      audit := if 0 < s.limits.auditInterval then s.afterSeconds s.limits.auditInterval else none }

/-- The verdict of an audit, given `now` milliseconds into the time base (R81). -/
def State.takeAudit (s : State) (c : Chain) (v : Verdict) (count : Option Nat) (now : Nat) : State :=
  let s := s.setSynth c { s.synth c with auditing := false }
  let recorded := s.setSynth c { s.synth c with lastVerdict := some v, lastCount := count }
  match v with
  | .within => recorded.restartAudit c
  | .unordered => s.restartAudit c
  | .low => recorded.loseLock c now
  | .high => recorded.loseLock c now

/-- A measurement that has just started did so `now` milliseconds into the time base. -/
def State.dateMeasurement (s : State) (now : Nat) : State :=
  { s with fc := { s.fc with current := s.fc.current.map fun m => { m with startedAt := now } } }

/-- The end of the measurement in flight, `now` milliseconds into the time base: the counter becomes idle with a
new last-measurement record, the verdict is handed over, and a next measurement starts (R87). -/
def State.endMeasurement (s : State) (m : Measurement) (v : Verdict) (count : Option Nat) (now : Nat) :
    State :=
  let s :=
    { s with
      fc :=
        { s.fc with
          current := none
          last := some { syn := m.syn, audit := m.audit, verdict := v, count := count,
                         expected := m.expected, tolerance := m.tolerance } } }
  let s := if m.audit then s.takeAudit m.syn v count now else s.takeVerdict m.syn v count
  s.startMeasurement.dateMeasurement now

/-- When the gate of a measurement closes, in milliseconds of the time base: at its end, or now where the
boundary after it has passed already (assumption 30). -/
def State.closingOf (s : State) (m : Measurement) : Nat :=
  if s.time.steps ≤ ceilDiv m.gateEnd 10 then m.gateEnd else 10 * s.time.steps

/-- GATE_CLOSE (R27, R29, R87): the gate closes 10,000 × 2^g reference cycles after the start, and the count is
judged. The step count moves to the first boundary at or after the closing; what starts at the closing, a timer
or the next measurement, is counted from the closing itself (R66; assumption 30). The closing of the gate of a
spoiled measurement gives no count and no verdict (R89); the closing of one that is no longer in flight has no
effect (R88). -/
def execGateClose (count : GateClosing) (s : State) : Host.Outcome State Fault Refusal :=
  match s.fc.current with
  | none => .next s
  | some m =>
    .next
      (if m.number ≠ count.number ∨ m.spoiled then s
      else (s.advanceTo (ceilDiv m.gateEnd 10)).endMeasurement m
        (judgeCount count.count m.expected m.tolerance) (some (recordedCount count.count)) (s.closingOf m))

/-- Backup time moves up to a value that has come (R65). In ABSENT the steps of the time base are the same
presence windows, so they move with it; in the other states they do not depend on it. Where a presence window
ends at that same value, either may come first (R66): taken first here, the timeout moves backup time over the
window that has not ended, in any state of the reference, and that window, queued behind it, counts as a
further 10 ms (DESIGN CHOICE, assumption 4). -/
def State.advanceBackup (s : State) (d : Nat) : State :=
  let k := d - s.time.backup
  if s.ref.state = .absent then s.advanceTo (s.time.steps + k)
  else { s with time := { s.time with backup := s.time.backup + k } }

/-- MEASUREMENT_TIMEOUT (R29, R87): the measurement in flight ends UNORDERED, with no count. At an abandonment
the timeout is stopped (R88), so the expiry is always that of the measurement in flight; with none there is no
such event and nothing changes. -/
def execMeasurementTimeout (s : State) : Host.Outcome State Fault Refusal :=
  match s.fc.current with
  | none => .next s
  | some m =>
    let s := s.advanceBackup m.timeout
    .next (s.endMeasurement m .unordered none (10 * s.time.steps))

end Sys2Proof.Machine
end

