-- ==== Sys2Proof/Machine/Serve.lean ====
section
/-! DEFINITION. What the owner of each request does with it and answers (R10 to R14, R36 to R44, R90, R147,
R157, R160, R170, R172, R173), once the port has found the frame valid, the grant held where it must be and
the payload of the right length (R167). -/

namespace Sys2Proof.Machine

/-- What an owner answers: a status and a payload (R167). -/
structure Reply where
  status : Status
  payload : List Byte
  deriving DecidableEq, Repr

/-- OK with a payload. -/
def Reply.ok (payload : List Byte) : Reply := { status := .ok, payload := payload }

/-- A refusal without payload. -/
def Reply.refused (st : Status) : Reply := { status := st, payload := [] }

/-- INVALID_FIELD with the position of the first field that failed (R13, R175). -/
def Reply.invalid (position : Nat) : Reply := { status := .invalidField, payload := byte position }

/-! ## Reads (R170, R172, R173) -/

/-- READ_STATUS (R173): the part asked for; a part beyond the item's last fails at position 3. -/
def serveReadStatus (p : Port) (b : List Byte) (s : State) : State × Reply :=
  match parseStatusItem b with
  | .error i => (s, .invalid i)
  | .ok item =>
    match (statusParts s p item)[byteAt b 2]? with
    | none => (s, .invalid 3)
    | some part => (s, .ok part)

/-- The plan the pending apply will make active (R41). -/
def PlanEngine.pendingPlan (e : PlanEngine) : Option Plan :=
  match e.pendingApply with
  | none => none
  | some p =>
    match p.change with
    | .commit plan => some plan
    | .revert => e.history[e.top.val]

/-- The stored plan of a record, none while the record is INVALID (R156). -/
def StoredRecord.plan (x : StoredRecord) : Option Plan :=
  match x.status with
  | .valid => some (storedPlan x.image)
  | .invalid => none

/-- The plan a source names for a port, none where it is NOT_AVAILABLE (R172). -/
def State.planOf (s : State) (p : Port) : PlanSource → Option Plan
  | .active => some s.pe.active
  | .staged => if s.pe.grant = some p then s.pe.staged else none
  | .pending => s.pe.pendingPlan
  | .history k => s.pe.history[(s.pe.top + k).val]
  | .site => s.store.records.site.plan
  | .dflt => s.store.records.dflt.plan

/-- READ_PLAN (R172). -/
def serveReadPlan (p : Port) (b : List Byte) (s : State) : State × Reply :=
  match parseReadPlan b with
  | .error i => (s, .invalid i)
  | .ok (src, item) =>
    match s.planOf p src with
    | none => (s, .refused .notAvailable)
    | some plan => (s, .ok (plan.itemBytes item))

/-- READ_NOTICES (R170): the kinds of the asking port's set, which is emptied. -/
def serveReadNotices (p : Port) (s : State) : State × Reply :=
  (s.setPort p { s.port p with notices := 0 }, .ok (bytes2 (s.port p).notices.toNat))

/-! ## The grant and the staged plan (R36 to R40) -/

/-- The plan a new staged plan is a copy of (R36). -/
def PlanEngine.editBase (e : PlanEngine) : Plan :=
  match e.pendingApply with
  | some { change := .commit plan, .. } => plan
  | _ => e.active

/-- TAKE_EDIT (R36). -/
def serveTakeEdit (p : Port) (s : State) : State × Reply :=
  match s.pe.grant with
  | none =>
    let base := s.pe.editBase
    ({ s with pe := { s.pe with grant := some p, staged := some base } }, .ok (headerBytes base))
  | some q =>
    if q = p then (s, .ok (headerBytes (s.pe.staged.getD s.pe.active)))
    else (s, .refused .heldByOther)

/-- The grant becomes FREE and the staged plan is discarded (R38, R39). -/
def State.releaseGrant (s : State) : State :=
  { s with pe := { s.pe with grant := none, staged := none } }

/-- RELEASE_EDIT (R38). -/
def serveReleaseEdit (s : State) : State × Reply := (s.releaseGrant, .ok [])

/-- An edit of the staged plan (R40). -/
def State.edit (s : State) (f : Plan → Plan) : State :=
  { s with pe := { s.pe with staged := s.pe.staged.map f } }

/-- SET_CHAIN (R10). -/
def serveSetChain (b : List Byte) (s : State) : State × Reply :=
  match parseSetChain b with
  | .error i => (s, .invalid i)
  | .ok item => (s.edit fun p => p.withChain item, .ok [])

/-- SET_SLOT (R11). -/
def serveSetSlot (b : List Byte) (s : State) : State × Reply :=
  match parseSetSlot b with
  | .error i => (s, .invalid i)
  | .ok (n, e) => (s.edit fun p => p.withSlot n (some e), .ok [])

/-- CLEAR_SLOT (R11). -/
def serveClearSlot (b : List Byte) (s : State) : State × Reply :=
  match parseClearSlot b with
  | .error i => (s, .invalid i)
  | .ok n => (s.edit fun p => p.withSlot n none, .ok [])

/-- SET_PROFILE (R12). -/
def serveSetProfile (b : List Byte) (s : State) : State × Reply :=
  match parseSetProfile b with
  | .error i => (s, .invalid i)
  | .ok part => (s.edit fun p => p.withProfile part, .ok [])

/-! ## The pending apply (R42 to R44) -/

/-- A port as an origin (R9). -/
def portOrigin : Port → Origin
  | .a => .a
  | .b => .b

/-- A port as a requester (R41). -/
def portRequester : Port → Requester
  | .a => .a
  | .b => .b

/-- A mask with the bits of a list of bit numbers. -/
def maskOf (bits : List Nat) : Nat := (bits.map fun b => 2 ^ b).sum

/-- The clamp mask: bit rank − 1 for each kind of the clamp list (R18, R175). -/
def Plan.clampMask (p : Plan) : Nat :=
  maskOf (p.severities.clampList.map fun k => conditionCode k - 1)

/-- The scaled mask: bit 0 TX0 to bit 3 TX3 (R19, R175). -/
def Plan.scaledMask (p : Plan) : Nat := maskOf (p.scaledChains.map txIndex)

/-- A PLAN_INVALID reply: reason, chain, slot and second slot, 0xFF where one does not apply (R14, R175). -/
def PlanFailure.reply (f : PlanFailure) : Reply :=
  { status := .planInvalid
    payload :=
      byte (reasonCode f.reason) ++ byte ((f.chain.map fun t => chainCode (.tx t)).getD 255)
        ++ byte ((f.slot.map Fin.val).getD 255) ++ byte ((f.second.map Fin.val).getD 255) }

/-- The staged plan as a successful COMMIT leaves it: the new header, and severities raised to their minima
(R17, R18, R42). -/
def Plan.committed (p : Plan) (issue : Nat) (origin : Origin) : Plan :=
  { p with issue := issue, origin := origin, severities := p.severities.clamp }

/-- The Plan Engine after a successful COMMIT of a plan by a port (R42). -/
def PlanEngine.commit (e : PlanEngine) (p : Port) (plan : Plan) : PlanEngine :=
  let issue := e.lastIssued + 1
  let plan := plan.committed issue (portOrigin p)
  { e with
    lastIssued := issue
    staged := some plan
    pendingApply :=
      some { change := .commit plan, issue := issue, requestedBy := portRequester p } }

/-- COMMIT (R42). A port that holds the grant has a staged plan (R36); without one there is nothing to commit
and the answer is NO_GRANT (assumption 15). -/
def serveCommit (p : Port) (s : State) : State × Reply :=
  match s.pe.staged with
  | none => (s, .refused .noGrant)
  | some plan =>
    if s.pe.pendingApply.isSome then (s, .refused .applyPending)
    else
      match plan.validate s.pe.lastIssued with
      | some failure => (s, failure.reply)
      | none =>
        ({ s with pe := s.pe.commit p plan },
          .ok (bytes4 (s.pe.lastIssued + 1) ++ byte plan.clampMask ++ byte plan.scaledMask))

/-- CANCEL_COMMIT (R43). -/
def serveCancelCommit (s : State) : State × Reply :=
  match s.pe.pendingApply with
  | none => (s, .refused .nothingPending)
  | some r =>
    ({ s with pe := { s.pe with pendingApply := none } }.notifyBoth .commitCancelled,
      .ok (byte (kindCode r.change.kind) ++ bytes4 r.issue))

/-- REVERT (R44). -/
def serveRevert (p : Port) (s : State) : State × Reply :=
  if s.pe.depth = 0 then (s, .refused .historyEmpty)
  else if s.pe.pendingApply.isSome then (s, .refused .applyPending)
  else
    ({ s with
        pe :=
          { s.pe with
            pendingApply :=
              some { change := .revert, issue := s.pe.topIssue, requestedBy := portRequester p } } },
      .ok (bytes4 s.pe.topIssue))

/-! ## The other owners (R90, R147, R157, R160) -/

/-- The removal of a lockout as the sequencer takes it: while the chain is going down in RAMP_DOWN the
sequence runs to its end (R133). -/
def Sequencer.lockoutRemoved (q : Sequencer) : Sequencer :=
  { q with runDown := q.runDown || q.state == .rampDown }

/-- The restoration of a chain: its trip list is emptied; where it was locked out the lockout is removed, a
SITE write requested, CHAIN_CHANGED raised and its sequencer told (R133, R147). -/
def State.restore (s : State) (t : Tx) : State :=
  let c := s.protection t
  let s' := s.setProtection t { c with trips := [], lockedOut := false }
  if c.lockedOut then
    let s' := s'.requestSite.notifyBoth .chainChanged
    (s'.setSeq t (s'.seq t).lockoutRemoved).decideSeq t
  else s'

/-- RESTORE_CHAIN (R147). R171 and R175 give the lockout-cleared byte of the OK reply its size alone; that it
is 1 for yes and 0 for no is the model's choice (DESIGN CHOICE, assumption 8). -/
def serveRestoreChain (b : List Byte) (s : State) : State × Reply :=
  match txOfCode (byteAt b 0) with
  | none => (s, .invalid 1)
  | some t =>
    let c := s.protection t
    (s.restore t, .ok (byte c.lockedOut.toNat ++ byte c.trips.length))

/-- MEASURE of a synthesizer (R90). -/
def State.measure (s : State) (c : Chain) : State × Reply :=
  let x := s.synth c
  match x.state with
  | .verified => (if x.auditing then s else s.startAudit c, .ok [])
  | .failed => (s.freshCycle c, .ok [])
  | .idle => (s, .refused .notAvailable)
  | .programming => (s, .refused .notAvailable)
  | .settling => (s, .refused .notAvailable)
  | .queued => (s, .refused .notAvailable)
  | .measuring => (s, .refused .notAvailable)

/-- MEASURE (R90). -/
def serveMeasure (b : List Byte) (s : State) : State × Reply :=
  match chainOfCode (byteAt b 0) with
  | none => (s, .invalid 1)
  | some c => s.measure c

/-- The states in which STORE_DEFAULT finds a chain at rest (R157). -/
def SeqState.atRest (st : SeqState) : Bool := st == .off || st == .lockedOut

/-- STORE_DEFAULT (R157). -/
def serveStoreDefault (s : State) : State × Reply :=
  if allTx.all fun t => (s.seq t).state.atRest then
    (s.requestWrite .dflt { plan := s.pe.active, lockout := ⟨false, false, false, false⟩ }, .ok [])
  else (s, .refused .chainsActive)

/-- The failure count of a record set to 0 (R160). -/
def State.clearFailures (s : State) (r : RecordName) : State :=
  s.setRecord r { s.record r with failures := 0 }

/-- CLEAR_RESET_CAUSE (R160). -/
def serveClearResetCause (s : State) : State × Reply :=
  (({ s with supply := { s.supply with undervoltageSeen := false } }.clearFailures .site).clearFailures
    .dflt, .ok [])

/-- The owner of each request (R167, step 4; R171). NOP has no owner but the port. -/
def serve (kind : RequestKind) (p : Port) (b : List Byte) (s : State) : State × Reply :=
  match kind with
  | .nop => (s, .ok [])
  | .readStatus => serveReadStatus p b s
  | .readPlan => serveReadPlan p b s
  | .readNotices => serveReadNotices p s
  | .takeEdit => serveTakeEdit p s
  | .releaseEdit => serveReleaseEdit s
  | .setChain => serveSetChain b s
  | .setSlot => serveSetSlot b s
  | .clearSlot => serveClearSlot b s
  | .setProfile => serveSetProfile b s
  | .commit => serveCommit p s
  | .cancelCommit => serveCancelCommit s
  | .revert => serveRevert p s
  | .restoreChain => serveRestoreChain b s
  | .measure => serveMeasure b s
  | .storeDefault => serveStoreDefault s
  | .clearResetCause => serveClearResetCause s

end Sys2Proof.Machine
end

