-- ==== Sys2Proof/Machine/Ports.lean ====
section
/-! DEFINITION. The Controller Ports (R164 to R168): the transaction, the checking and dispatch of a frame,
the response, and the meanings of the seventeen requests, of FRAME_ERROR, UNKNOWN_REQUEST, FRAME_DISCARDED
and SILENCE_EXPIRY. -/

namespace Sys2Proof.Machine

/-! ## The transaction (R165) -/

/-- A transaction that clocks `n` bytes in clocks as many bytes out: the last response as it stood when the
chip-select was asserted, from its first byte, cut short where the controller stops before its end (R165; the
bytes after its end are fill and are not recorded). One command is one transaction, and only the port's own
takings and a reset change its last response (assumption 14). -/
def State.clockOut (s : State) (p : Port) (n : Nat) : State :=
  s.setPort p { s.port p with dataOut := some ((s.port p).lastResponse.bytes.take n) }

/-- The last response of a port as it stood before the latest `resets` resets of the part, the present one for
none; a port that has seen fewer had the empty NOP response (R164, R165). -/
def PortState.responseBefore (x : PortState) : Nat → Response
  | 0 => x.lastResponse
  | k + 1 => (x.beforeReset[k]?).getD .empty

/-- A transaction during which resets came clocks out the response as it stood when its chip-select was
asserted, before the first of them (R165; assumption 14). -/
def State.clockOutCut (s : State) (p : Port) (resets n : Nat) : State :=
  s.setPort p { s.port p with dataOut := some (((s.port p).responseBefore resets).bytes.take n) }

/-- A response becomes the port's last response (R167). -/
def State.respond (s : State) (p : Port) (r : Response) : State :=
  s.setPort p { s.port p with lastResponse := r }

/-! ## Silence (R168) -/

/-- A valid frame starts or restarts the silence timer; a SILENT port becomes ACTIVE, with PEER_RETURNED on
the other port and LINKS_SILENT withdrawn (R168). -/
def State.heard (s : State) (p : Port) : State :=
  let x := s.port p
  let s' := s.setPort p { x with link := .active, silence := s.afterSeconds x.linkSilence }
  if x.link = .silent then
    let s' := s'.notify p.other .peerReturned
    s'.setDevice { s'.pu.device with linksSilent := false }
  else s'

/-- The effects of a port becoming SILENT (R168): PEER_SILENT on the other port, a grant it holds released with
GRANT_LOST on both (R39), and LINKS_SILENT when the other port is SILENT too. -/
def State.silenced (s : State) (p : Port) : State :=
  let s := s.setPort p { s.port p with link := .silent, silence := none }
  let s := s.notify p.other .peerSilent
  let s := if s.pe.grant = some p then s.releaseGrant.notifyBoth .grantLost else s
  if (s.port p.other).link = .silent then s.setDevice { s.pu.device with linksSilent := true } else s

/-- SILENCE_EXPIRY (R168). -/
def execSilenceExpiry (p : Port) (s : State) : Host.Outcome State Fault Refusal :=
  match (s.port p).silence with
  | none => .next s
  | some d => .next ((s.advanceTo d).silenced p)

/-! ## Checking and dispatch (R166, R167) -/

/-- The examination of a valid frame of one of the seventeen kinds: the grant, the payload length, and then
the owner (R167, steps 2 to 4). -/
def State.dispatch (s : State) (kind : RequestKind) (p : Port) (payload : List Byte) :
    State × Reply :=
  if kind.holderOnly && decide (s.pe.grant ≠ some p) then (s, .refused .noGrant)
  else if payload.length ≠ kind.payloadLength then (s, .invalid 0)
  else serve kind p payload s

/-- The response to a frame replaces the last response, except that of a NOP (R167). -/
def State.answer (s : State) (kind : RequestKind) (p : Port) (tag : Byte) (r : Reply) : State :=
  if kind = .nop then s
  else s.respond p { kind := kind.code, tag := tag, status := r.status, payload := r.payload }

/-- A frame that fails its framing check: FRAME_ERROR becomes the last response, and nothing outside the port
changes (R166). -/
def State.frameFailed (s : State) (p : Port) (n : Nat) (kind tag : Byte) : State :=
  (s.clockOut p n).respond p { kind := kind, tag := tag, status := .frameError, payload := [] }

/-- The bytes of a transaction: the frame (length, kind, tag, payload and CRC) and the fill after it (R165,
R174). -/
def clocked (x : Sent) : Nat := x.payload.length + 5 + x.fill

/-- A valid frame of one of the seventeen kinds, taken while the ports take frames (R167). -/
def State.takeValid (s : State) (kind : RequestKind) (p : Port) (tag : Byte) (x : Sent) : State :=
  let r := ((s.clockOut p (clocked x)).heard p).dispatch kind p x.payload
  r.1.answer kind p tag r.2

/-- The taking of a frame of one of the seventeen kinds. Before start-up selection and in reset it is
discarded (R165); a payload of more than 48 bytes makes no valid frame (R166). -/
def State.takeRequest (s : State) (kind : RequestKind) (p : Port) (tag : Byte) (x : Sent) : State :=
  if s.phase ≠ .running then s.clockOut p (clocked x)
  else if 48 < x.payload.length then s.frameFailed p (clocked x) kind.code tag
  else s.takeValid kind p tag x

/-- The taking of a frame whose kind may be any byte (R167, step 1). -/
def State.takeKind (s : State) (p : Port) (kind tag : Byte) (x : Sent) : State :=
  match RequestKind.ofCode kind with
  | some k => s.takeRequest k p tag x
  | none =>
    if s.phase ≠ .running then s.clockOut p (clocked x)
    else if 48 < x.payload.length then s.frameFailed p (clocked x) kind tag
    else
      ((s.clockOut p (clocked x)).heard p).respond p
        { kind := kind, tag := tag, status := .unknownRequest, payload := [] }

/-! ## The meanings -/

/-- NOP (R167): the last response stays as it is. -/
def execNop (p : Port) (tag : Byte) (payload : Sent) (s : State) :
    Host.Outcome State Fault Refusal :=
  .next (s.takeRequest .nop p tag payload)

/-- READ_STATUS (R173). -/
def execReadStatus (p : Port) (tag : Byte) (payload : Sent) (s : State) :
    Host.Outcome State Fault Refusal :=
  .next (s.takeRequest .readStatus p tag payload)

/-- READ_PLAN (R172). -/
def execReadPlan (p : Port) (tag : Byte) (payload : Sent) (s : State) :
    Host.Outcome State Fault Refusal :=
  .next (s.takeRequest .readPlan p tag payload)

/-- READ_NOTICES (R170). -/
def execReadNotices (p : Port) (tag : Byte) (payload : Sent) (s : State) :
    Host.Outcome State Fault Refusal :=
  .next (s.takeRequest .readNotices p tag payload)

/-- TAKE_EDIT (R36). -/
def execTakeEdit (p : Port) (tag : Byte) (payload : Sent) (s : State) :
    Host.Outcome State Fault Refusal :=
  .next (s.takeRequest .takeEdit p tag payload)

/-- RELEASE_EDIT (R38). -/
def execReleaseEdit (p : Port) (tag : Byte) (payload : Sent) (s : State) :
    Host.Outcome State Fault Refusal :=
  .next (s.takeRequest .releaseEdit p tag payload)

/-- SET_CHAIN (R10). -/
def execSetChain (p : Port) (tag : Byte) (payload : Sent) (s : State) :
    Host.Outcome State Fault Refusal :=
  .next (s.takeRequest .setChain p tag payload)

/-- SET_SLOT (R11). -/
def execSetSlot (p : Port) (tag : Byte) (payload : Sent) (s : State) :
    Host.Outcome State Fault Refusal :=
  .next (s.takeRequest .setSlot p tag payload)

/-- CLEAR_SLOT (R11). -/
def execClearSlot (p : Port) (tag : Byte) (payload : Sent) (s : State) :
    Host.Outcome State Fault Refusal :=
  .next (s.takeRequest .clearSlot p tag payload)

/-- SET_PROFILE (R12). -/
def execSetProfile (p : Port) (tag : Byte) (payload : Sent) (s : State) :
    Host.Outcome State Fault Refusal :=
  .next (s.takeRequest .setProfile p tag payload)

/-- COMMIT (R42). -/
def execCommit (p : Port) (tag : Byte) (payload : Sent) (s : State) :
    Host.Outcome State Fault Refusal :=
  .next (s.takeRequest .commit p tag payload)

/-- CANCEL_COMMIT (R43). -/
def execCancelCommit (p : Port) (tag : Byte) (payload : Sent) (s : State) :
    Host.Outcome State Fault Refusal :=
  .next (s.takeRequest .cancelCommit p tag payload)

/-- REVERT (R44). -/
def execRevert (p : Port) (tag : Byte) (payload : Sent) (s : State) :
    Host.Outcome State Fault Refusal :=
  .next (s.takeRequest .revert p tag payload)

/-- RESTORE_CHAIN (R147). -/
def execRestoreChain (p : Port) (tag : Byte) (payload : Sent) (s : State) :
    Host.Outcome State Fault Refusal :=
  .next (s.takeRequest .restoreChain p tag payload)

/-- MEASURE (R90). -/
def execMeasure (p : Port) (tag : Byte) (payload : Sent) (s : State) :
    Host.Outcome State Fault Refusal :=
  .next (s.takeRequest .measure p tag payload)

/-- STORE_DEFAULT (R157). -/
def execStoreDefault (p : Port) (tag : Byte) (payload : Sent) (s : State) :
    Host.Outcome State Fault Refusal :=
  .next (s.takeRequest .storeDefault p tag payload)

/-- CLEAR_RESET_CAUSE (R160). -/
def execClearResetCause (p : Port) (tag : Byte) (payload : Sent) (s : State) :
    Host.Outcome State Fault Refusal :=
  .next (s.takeRequest .clearResetCause p tag payload)

/-- FRAME_ERROR (R166): the bytes clocked in are checked. A chip-select assertion without a byte is no
transaction (R165), and bytes that pass the check are the frame they spell (assumption 9). -/
def execFrameError (p : Port) (bytes : List Byte) (s : State) : Host.Outcome State Fault Refusal :=
  if bytes = [] then .next s
  else if s.phase ≠ .running then .next (s.clockOut p bytes.length)
  else
    match checkFrame bytes with
    | .bad kind tag => .next (s.frameFailed p bytes.length kind tag)
    | .good kind tag payload =>
      .next (s.takeKind p kind tag { payload := payload, fill := bytes.length - (payload.length + 5) })

/-- UNKNOWN_REQUEST (R167, step 1). A kind that is one of the seventeen is taken as that request
(assumption 9). -/
def execUnknownRequest (p : Port) (kind tag : Byte) (payload : Sent) (s : State) :
    Host.Outcome State Fault Refusal :=
  .next (s.takeKind p kind tag payload)

/-- FRAME_DISCARDED (R165): the last response is clocked out, as it stood when the chip-select was asserted, and
the frame has no other effect. -/
def execFrameDiscarded (p : Port) (bytes : Discarded) (s : State) : Host.Outcome State Fault Refusal :=
  .next
    (if bytes.bytes = [] then s
    else s.clockOutCut p bytes.resets bytes.bytes.length)

end Sys2Proof.Machine
end

