-- ==== Sys2Proof/Machine/Reference.lean ====
section
/-! DEFINITION. The meanings of the events of the Reference Monitor (R58 to R61): PRESENCE_WINDOW_END,
QUALIFY_EXPIRY and HOLDOVER_EXPIRY. -/

namespace Sys2Proof.Machine

/-- The judgement of a presence window (R58). -/
def judgedPresent (edges : Nat) : Bool := within 97000 103000 edges

/-- The state after a presence judgement (R60). -/
def RefState.afterPresence (st : RefState) (present : Bool) : RefState :=
  if present then
    match st with
    | .absent => .qualifying
    | .qualifying => .qualifying
    | .locked => .locked
    | .holdover => .holdover
    | .expired => .expired
  else .absent

/-- The state after a sample of the disciplined input, compared with the previous one (R59, R61). A drop acts
in LOCKED alone, a return in HOLDOVER and EXPIRED alone. -/
def RefState.afterSample (st : RefState) (previous sample : Bool) : RefState :=
  match st with
  | .locked => if previous && !sample then .holdover else .locked
  | .holdover => if !previous && sample then .locked else .holdover
  | .expired => if !previous && sample then .locked else .expired
  | .absent => .absent
  | .qualifying => .qualifying

/-- A change of reference state, when there is one (R61). -/
def State.moveReference (s : State) (st : RefState) : State :=
  if st = s.ref.state then s else s.setReference st

/-- The time a presence window takes: 10 ms of backup time, and a step of the time base while the state is
ABSENT or the window is judged absent (R58, R65). Where an expiry or a mark was taken first at the boundary at
which a window is judged absent, as R62 allows, the step count stands at that boundary already, and the window
ends a further step: the count is one higher than in the other order (DESIGN CHOICE, assumption 4). -/
def State.passWindow (s : State) (present : Bool) : State :=
  let s := { s with time := { s.time with backup := s.time.backup + 1 } }
  if s.ref.state = .absent ∨ present = false then s.passBackup 1 else s

/-- The presence judgement (R60) and the change of the disciplined input (R61) of one window. Where both reach
the reference state, either may be taken first, with the outcomes of R62: the order is a free value
(assumption 7). -/
def State.judgeWindow (s : State) (present previous sample : Bool) : State :=
  let changed := s.ref.state.afterSample previous sample
  if present = false ∧ changed ≠ s.ref.state then
    let first := Config.disciplinedFirst s.draws
    let s := { s with draws := s.draws + 1 }
    (if first then s.setReference changed else s).setReference .absent
  else
    let s := s.moveReference (s.ref.state.afterPresence present)
    s.moveReference (s.ref.state.afterSample previous sample)

/-- PRESENCE_WINDOW_END (R58, R59): the count is kept and judged, the disciplined input is sampled, and both are
taken. In reset no window runs (R70). -/
def execPresenceWindowEnd (edges : Nat) (disciplined : Bool) (s : State) :
    Host.Outcome State Fault Refusal :=
  if s.phase = .held then .next s
  else
    let present := judgedPresent edges
    let previous := s.ref.disciplined
    let s := s.passWindow present
    let s := { s with ref := { s.ref with lastCount := edges, disciplined := disciplined } }
    .next (s.judgeWindow present previous disciplined)

/-- QUALIFY_EXPIRY (R60): LOCKED or HOLDOVER, by the last sample of the disciplined input. -/
def execQualifyExpiry (s : State) : Host.Outcome State Fault Refusal :=
  match s.ref.qualify with
  | none => .next s
  | some d =>
    let s := s.advanceTo d
    .next (s.setReference s.ref.qualified)

/-- HOLDOVER_EXPIRY (R61): HOLDOVER becomes EXPIRED. -/
def execHoldoverExpiry (s : State) : Host.Outcome State Fault Refusal :=
  match s.ref.holdover with
  | none => .next s
  | some d => .next ((s.advanceTo d).setReference .expired)

end Sys2Proof.Machine
end

