-- ==== Sys2Proof/Machine/StoreEvents.lean ====
section
/-! DEFINITION. The meanings of the events of the Plan Store's writer (R155): STORE_WRITE_COMPLETION and
STORE_RETRY_EXPIRY. -/

namespace Sys2Proof.Machine

/-- A failure count increased by 1, staying at 65,535 once there (R152). -/
def countFailure (n : Nat) : Nat := min (n + 1) 65535

/-- A record after a successful write of a content (R155, R176). -/
def StoredRecord.written (x : StoredRecord) (r : RecordName) (c : Content) : StoredRecord :=
  { x with image := recordImage r c, status := .valid, retryUsed := false }

/-- A record after a first failed write of a content: the retry timer runs, and the content is pending again
unless a newer one is (R155). -/
def StoredRecord.failedOnce (x : StoredRecord) (c : Content) (retry : Timer) : StoredRecord :=
  { x with
    status := .invalid
    failures := countFailure x.failures
    retry := retry
    retryUsed := x.pendingContent.isNone
    pendingContent := x.pendingContent <|> some c }

/-- A record after the failed write of a content that had already failed: the content is dropped (R155). -/
def StoredRecord.failedTwice (x : StoredRecord) : StoredRecord :=
  { x with status := .invalid, failures := countFailure x.failures, retryUsed := false }

/-- The record and the notice of a completion (R155). -/
def State.completeWrite (s : State) (w : InFlight) (success : Bool) : State :=
  let x := s.record w.record
  if success then (s.setRecord w.record (x.written w.record w.content)).notifyBoth .storeDone
  else if w.retryUsed then (s.setRecord w.record x.failedTwice).notifyBoth .storeFailed
  else s.setRecord w.record (x.failedOnce w.content (s.afterSeconds 1))

/-- STORE_WRITE_COMPLETION (R155): the writer becomes IDLE, and the next write starts where one is ready
(R154). With no write in flight there is no completion. -/
def execStoreWriteCompletion (success : Bool) (s : State) : Host.Outcome State Fault Refusal :=
  match s.store.inFlight with
  | none => .next s
  | some w =>
    let s := { s with store := { s.store with inFlight := none } }
    .next (s.completeWrite w success).writerStart

/-- STORE_RETRY_EXPIRY (R155): a pending content of the record may now be written (R154). -/
def execStoreRetryExpiry (r : RecordName) (s : State) : Host.Outcome State Fault Refusal :=
  match (s.record r).retry with
  | none => .next s
  | some d =>
    let s := s.advanceTo d
    .next (s.setRecord r { s.record r with retry := none }).writerStart

end Sys2Proof.Machine
end

