-- ==== Sys2Proof/Machine/Supply.lean ====
section
/-! DEFINITION. The Supply Monitor and reset (R158, R159): what the part is while it is held in reset, and
the meanings of SUPPLY_MEASUREMENT, POWER_ON, RESET_PIN_ASSERT and RESET_RELEASE. -/

namespace Sys2Proof.Machine

/-! ## Supply thresholds, in steps of 0.5% (R158, R159) -/

/-- Below 50.0%: the reset-cause record and the failure counts are lost (R159). -/
def supplyBelow50 (m : HalfPercent) : Bool := decide (m.val < 100)

/-- Below 80.0%: the part goes into reset (R159). -/
def supplyBelow80 (m : HalfPercent) : Bool := decide (m.val < 160)

/-- 85.0% or more: the part may be released (R159). -/
def supplyReleases (m : HalfPercent) : Bool := decide (170 ≤ m.val)

/-- Below 90.0%: WARNING (R158). -/
def supplyBelow90 (m : HalfPercent) : Bool := decide (m.val < 180)

/-- The supply state after a measurement while the part runs: WARNING below 90.0%, NORMAL again at 94.0% or
more (R158). -/
def SupplyState.after (st : SupplyState) (m : HalfPercent) : SupplyState :=
  match st with
  | .normal => if supplyBelow90 m then .warning else .normal
  | .warning => if 188 ≤ m.val then .normal else .warning

/-! ## The hold -/

/-- A record through a reset: its stored bytes and its failure count survive, the rest is volatile (R152). -/
def StoredRecord.volatileLost (x : StoredRecord) : StoredRecord :=
  { x with pendingContent := none, retryUsed := false, retry := none }

/-- A record whose failure count is lost (R152, R159). -/
def StoredRecord.failuresLost (x : StoredRecord) : StoredRecord := { x with failures := 0 }

/-- The protection state of a chain while the part is held: level 0, no condition (R151). -/
def ChainProtection.held : ChainProtection :=
  { ChainProtection.reset with highest := 0, level := 0, cause := none }

/-- A port while the part is held: as after reset, with the attention line deasserted (R164). The last
response is what a transaction that the reset cuts goes on clocking out (R165); a part already held is reset
no further. -/
def PortState.held (x : PortState) (already : Bool) : PortState :=
  { PortState.reset with
    notices := 0, beforeReset := if already then x.beforeReset else x.lastResponse :: x.beforeReset }

/-- A port at reset release (R164). -/
def PortState.released (x : PortState) : PortState := { PortState.reset with beforeReset := x.beforeReset }

/-- The part enters reset: every volatile state is lost (R159), a write in flight ends without a completion
(R155), and the time base stands still (R70). The Supply Monitor's own state is set by the caller. -/
def State.enterHold (s : State) : State :=
  { State.reset with
    phase := .held
    time := { State.reset.time with startDelay := none }
    pu := { device := ⟨false, false, false, false, false⟩, chains := ⟨.held, .held, .held, .held⟩ }
    ports := ⟨s.ports.a.held (s.phase == .held), s.ports.b.held (s.phase == .held)⟩
    store :=
      { State.reset.store with
        records := ⟨s.store.records.site.volatileLost, s.store.records.dflt.volatileLost⟩ }
    supply := s.supply
    draws := s.draws
    pending := s.pending }

/-- The reset-cause record and the failure counts are lost (R159); a lost record reads POWER_ON and no
(assumption 27). -/
def State.loseRecord (s : State) : State :=
  { s with
    supply := { s.supply with lastCause := .powerOn, undervoltageSeen := false, sawBelow50 := true }
    store :=
      { s.store with
        records := ⟨s.store.records.site.failuresLost, s.store.records.dflt.failuresLost⟩ } }

/-- A measurement taken while the part is held in reset (R158, R159). -/
def State.measureHeld (s : State) (m : HalfPercent) : State :=
  let s :=
    { s with
      supply := { s.supply with measurement := m, sawBelow80 := s.supply.sawBelow80 || supplyBelow80 m } }
  if supplyBelow50 m then s.loseRecord else s

/-! ## Measurements while the part runs -/

/-- The change of supply state a measurement makes: SUPPLY_CHANGED, SUPPLY_WARNING made present or withdrawn,
and the writer (R158). -/
def State.moveSupply (s : State) (st : SupplyState) : State :=
  if st = s.supply.state then s
  else
    let s := { s with supply := { s.supply with state := st } }
    let s := s.notifyBoth .supplyChanged
    let s := s.setDevice { s.pu.device with supplyWarning := st == .warning }
    s.writerStart

/-- SUPPLY_MEASUREMENT (R158): below 80.0% the part goes into reset at that event (R159). A measurement of a
held part that releases it is the command RESET_RELEASE. -/
def execSupplyMeasurement (m : HalfPercent) (s : State) : Host.Outcome State Fault Refusal :=
  if s.phase = .held then .next (s.measureHeld m)
  else if supplyBelow80 m then .next (s.enterHold.measureHeld m)
  else
    let s := { s with supply := { s.supply with measurement := m } }
    .next (s.moveSupply (s.supply.state.after m))

/-- POWER_ON (R159): the part's first supply, or a supply that has fallen below 50.0%. -/
def execPowerOn (s : State) : Host.Outcome State Fault Refusal :=
  let s := s.enterHold
  .next { s with supply := { s.supply with sawBelow80 := true } }.loseRecord

/-- RESET_PIN_ASSERT (R159): the part goes into reset, or stays there, with the pin asserted. -/
def execResetPinAssert (s : State) : Host.Outcome State Fault Refusal :=
  let s := if s.phase = .held then s else s.enterHold
  .next { s with supply := { s.supply with pinAsserted := true } }

/-! ## Release -/

/-- The kind of the reset just ended (R159). -/
def Supply.cause (x : Supply) : ResetCause :=
  if x.sawBelow50 then .powerOn else if x.sawBelow80 then .undervoltage else .pin

/-- Undervoltage-seen at a release of a kind (R159). -/
def ResetCause.seen (c : ResetCause) (before : Bool) : Bool :=
  match c with
  | .powerOn => false
  | .undervoltage => true
  | .pin => before

/-- The Supply Monitor at the release by a measurement (R158, R159). -/
def Supply.released (x : Supply) (m : HalfPercent) : Supply :=
  { state := if supplyBelow90 m then .warning else .normal
    measurement := m
    lastCause := x.cause
    undervoltageSeen := x.cause.seen x.undervoltageSeen
    sawBelow50 := false
    sawBelow80 := false
    pinAsserted := false }

/-- A record read at reset release: its status by its format byte and CRC (R152, R176). -/
def StoredRecord.checked (x : StoredRecord) (r : RecordName) : StoredRecord :=
  { x.volatileLost with status := imageStatus r x.image }

/-- The start delay in steps of 10 ms (R161). -/
def startDelaySteps : Strap → Nat
  | .short => 10
  | .long => 200

/-- The machine right after a release: every block in its state after reset, the records checked, the
reset-cause record set, SUPPLY_WARNING among the conditions when the releasing measurement is below 90.0%
(R151, R158), and the start delay begun (R161). -/
def State.released (s : State) (m : HalfPercent) (strap : Strap) : State :=
  let site := s.store.records.site.checked .site
  let dflt := s.store.records.dflt.checked .dflt
  { State.reset with
    time := { State.reset.time with startDelay := some (startDelaySteps strap) }
    pu :=
      { State.reset.pu with
        device := { State.reset.pu.device with supplyWarning := supplyBelow90 m } }
    store :=
      { State.reset.store with
        records := ⟨site, dflt⟩
        startStatuses := ⟨site.status, dflt.status⟩ }
    supply := s.supply.released m
    ports := ⟨s.ports.a.released, s.ports.b.released⟩
    draws := s.draws
    pending := s.pending }

/-- RESET_RELEASE (R159): a held part whose measurement is 85.0% or more, with the reset pin deasserted, is
released. Any other measurement leaves it held and is noted (assumption 13). -/
def execResetRelease (m : HalfPercent) (pinAsserted : Bool) (strap : Strap) (s : State) :
    Host.Outcome State Fault Refusal :=
  if s.phase ≠ .held then .next s
  else if supplyReleases m && !pinAsserted then .next (s.released m strap)
  else
    let s := s.measureHeld m
    .next { s with supply := { s.supply with pinAsserted := pinAsserted } }

end Sys2Proof.Machine
end

