-- ==== Sys2Proof/Machine/Dispatch.lean ====
section
/-! DEFINITION. The dispatch of a command to its meaning: one arm per row of spec/opcode_table.json. -/

namespace Sys2Proof.Machine

def exec (i : Instr) (s : State) : Host.Outcome State Fault Refusal :=
  match i with
  | .nop p tag payload => Sys2Proof.Machine.execNop p tag payload s
  | .readStatus p tag payload => Sys2Proof.Machine.execReadStatus p tag payload s
  | .readPlan p tag payload => Sys2Proof.Machine.execReadPlan p tag payload s
  | .readNotices p tag payload => Sys2Proof.Machine.execReadNotices p tag payload s
  | .takeEdit p tag payload => Sys2Proof.Machine.execTakeEdit p tag payload s
  | .releaseEdit p tag payload => Sys2Proof.Machine.execReleaseEdit p tag payload s
  | .setChain p tag payload => Sys2Proof.Machine.execSetChain p tag payload s
  | .setSlot p tag payload => Sys2Proof.Machine.execSetSlot p tag payload s
  | .clearSlot p tag payload => Sys2Proof.Machine.execClearSlot p tag payload s
  | .setProfile p tag payload => Sys2Proof.Machine.execSetProfile p tag payload s
  | .commit p tag payload => Sys2Proof.Machine.execCommit p tag payload s
  | .cancelCommit p tag payload => Sys2Proof.Machine.execCancelCommit p tag payload s
  | .revert p tag payload => Sys2Proof.Machine.execRevert p tag payload s
  | .restoreChain p tag payload => Sys2Proof.Machine.execRestoreChain p tag payload s
  | .measure p tag payload => Sys2Proof.Machine.execMeasure p tag payload s
  | .storeDefault p tag payload => Sys2Proof.Machine.execStoreDefault p tag payload s
  | .clearResetCause p tag payload => Sys2Proof.Machine.execClearResetCause p tag payload s
  | .frameError p bytes => Sys2Proof.Machine.execFrameError p bytes s
  | .unknownRequest p kind tag payload => Sys2Proof.Machine.execUnknownRequest p kind tag payload s
  | .frameDiscarded p bytes => Sys2Proof.Machine.execFrameDiscarded p bytes s
  | .silenceExpiry p => Sys2Proof.Machine.execSilenceExpiry p s
  | .secondMark => Sys2Proof.Machine.execSecondMark s
  | .ppsEdge => Sys2Proof.Machine.execPpsEdge s
  | .substitutedMark => Sys2Proof.Machine.execSubstitutedMark s
  | .probationExpiry => Sys2Proof.Machine.execProbationExpiry s
  | .presenceWindowEnd edges disciplined => Sys2Proof.Machine.execPresenceWindowEnd edges disciplined s
  | .qualifyExpiry => Sys2Proof.Machine.execQualifyExpiry s
  | .holdoverExpiry => Sys2Proof.Machine.execHoldoverExpiry s
  | .programmingComplete c => Sys2Proof.Machine.execProgrammingComplete c s
  | .powerDownTransferEnd c => Sys2Proof.Machine.execPowerDownTransferEnd c s
  | .settleExpiry c lockDetect => Sys2Proof.Machine.execSettleExpiry c lockDetect s
  | .retryExpiry c => Sys2Proof.Machine.execRetryExpiry c s
  | .auditExpiry c => Sys2Proof.Machine.execAuditExpiry c s
  | .lockDrop c => Sys2Proof.Machine.execLockDrop c s
  | .gateClose count => Sys2Proof.Machine.execGateClose count s
  | .measurementTimeout => Sys2Proof.Machine.execMeasurementTimeout s
  | .rampStepExpiry t => Sys2Proof.Machine.execRampStepExpiry t s
  | .driveSettleExpiry t => Sys2Proof.Machine.execDriveSettleExpiry t s
  | .paDischargeExpiry t => Sys2Proof.Machine.execPaDischargeExpiry t s
  | .paFaultInput t asserted => Sys2Proof.Machine.execPaFaultInput t asserted s
  | .paWarningInput t asserted => Sys2Proof.Machine.execPaWarningInput t asserted s
  | .recoveryHoldExpiry t => Sys2Proof.Machine.execRecoveryHoldExpiry t s
  | .inputWindowBoundary results => Sys2Proof.Machine.execInputWindowBoundary results s
  | .discardHalfExpiry => Sys2Proof.Machine.execDiscardHalfExpiry s
  | .judgeHalfExpiry result => Sys2Proof.Machine.execJudgeHalfExpiry result s
  | .storeWriteCompletion success => Sys2Proof.Machine.execStoreWriteCompletion success s
  | .storeRetryExpiry r => Sys2Proof.Machine.execStoreRetryExpiry r s
  | .supplyMeasurement m => Sys2Proof.Machine.execSupplyMeasurement m s
  | .powerOn => Sys2Proof.Machine.execPowerOn s
  | .resetPinAssert => Sys2Proof.Machine.execResetPinAssert s
  | .resetRelease m pinAsserted strap => Sys2Proof.Machine.execResetRelease m pinAsserted strap s
  | .startUpSelection => Sys2Proof.Machine.execStartUpSelection s

end Sys2Proof.Machine
end

