-- ==== Sys2Proof/Safety.lean ====
section
/-! DEFINITION. What counts as a sound state and as a narrow change, in the terms the statements use: the
invariants the manual gives in its rules, and the frames of the shared operations. -/

namespace Sys2Proof.Machine

/-! ## Invariants -/

/-- A staged plan exists exactly while a port holds the grant (R36). -/
def State.GrantSound (s : State) : Prop := s.pe.grant.isSome = s.pe.staged.isSome

/-- The history entry `k` places below TOP (R45). -/
def PlanEngine.entry (e : PlanEngine) (k : Fin 4) : Option Plan := e.history[(e.top + k).val]

/-- The VALID history entries form a run from TOP: an entry below an EMPTY one is EMPTY (R45). -/
def State.HistorySound (s : State) : Prop :=
  ∀ k : Fin 3, s.pe.entry k.castSucc = none → s.pe.entry k.succ = none

/-- A pending REVERT, and a probation, find the history entry at TOP VALID (R48, R55). -/
def State.RevertSound (s : State) : Prop :=
  (s.pe.status = .onProbation → (s.pe.entry 0).isSome) ∧
    (s.pe.pendingPlan = none → s.pe.pendingApply = none)

/-- The probation timer runs exactly while the status is ON_PROBATION (R53). -/
def State.ProbationSound (s : State) : Prop :=
  s.pe.status = .onProbation ↔ s.pe.probation.isSome

/-- The counter queue holds each synthesizer at most once (R85). -/
def State.QueueSound (s : State) : Prop := (s.fc.queue.map QueueEntry.syn).Nodup

/-- A queue entry belongs to a synthesizer in QUEUED, or as an audit to one in VERIFIED with an audit
outstanding (R85). -/
def SynContext.queues (x : SynContext) (audit : Bool) : Prop :=
  if audit then x.state = .verified ∧ x.auditing = true else x.state = .queued

/-- A measurement in flight is of a synthesizer in MEASURING, or as an audit of one in VERIFIED with an audit
outstanding (R86). -/
def SynContext.measures (x : SynContext) (audit : Bool) : Prop :=
  if audit then x.state = .verified ∧ x.auditing = true else x.state = .measuring

/-- The timers and the control line of a controller go with its state (R72, R75, R76, R77, R79, R81). -/
structure SynContext.Sound (x : SynContext) : Prop where
  settle : x.settle.isSome → x.state = .settling
  retry : x.retry.isSome → x.state = .failed
  audit : x.audit.isSome → x.state = .verified ∧ x.auditing = false
  auditing : x.auditing = true → x.state = .verified
  transfer : (∃ w, x.transfer = .programming w) → x.state = .programming

/-- The synthesizer controllers and the Frequency Counter agree on who is queued and who is measured (R71,
R85, R86). -/
structure State.CounterSound (s : State) : Prop where
  contexts : ∀ c, (s.synth c).Sound
  nodup : s.QueueSound
  queued : ∀ q ∈ s.fc.queue, (s.synth q.syn).queues q.audit
  measured : ∀ m, s.fc.current = some m →
    (s.synth m.syn).measures m.audit ∧ ∀ q ∈ s.fc.queue, q.syn ≠ m.syn

/-- The timers and the notes of a sequencer go with its state (R123, R124, R126, R127, R130; a sequence that
must run to its end, assumption 29). -/
structure Sequencer.Sound (q : Sequencer) : Prop where
  settle : q.settleTimer.isSome → q.state = .driveSettle
  settled : q.driveSettled = true → q.state = .driveSettle ∧ q.settleTimer = none
  waits : q.state = .driveSettle → q.driveSettled = false → q.settleTimer.isSome
  discharge : q.dischargeTimer.isSome ↔ q.state = .paDischarge
  retune : q.retunePending = true → q.state.live = true
  runDown : q.runDown = true → q.state = .rampDown ∨ q.state = .muted

/-- Each sequencer is sound, and the LO it handed over last is its synthesizer's wanted LO (R123, R124). -/
def State.SequencersSound (s : State) : Prop :=
  ∀ t, (s.seq t).Sound ∧ (s.seq t).handedOver = (s.synth (.tx t)).wanted

/-- Every sequencer is OFF while the part is held and during the start delay (R137). -/
def State.SequencersOff (s : State) : Prop := s.phase ≠ .running → ∀ t, (s.seq t).state = .off

/-- No trip list holds more entries than the trip limit of the active profile (R145). -/
def State.TripsSound (s : State) : Prop :=
  ∀ t, (s.protection t).trips.length ≤ s.limits.tripLimit

/-- Each chain's S is the highest severity among the conditions present for it, and its protective level is
not below S (R140, R141). -/
def State.LevelSound (s : State) : Prop :=
  ∀ t, (s.protection t).highest
      = highestSeverity s.severities s.pu.device (s.protection t).present ∧
    (s.protection t).highest ≤ (s.protection t).level

/-- Every lane carries the slot of the active plan (R100, R162), and before start-up selection nothing is
active, pending or on probation (R161). -/
def State.LanesSound (s : State) : Prop :=
  (∀ n, (s.lane n).slot = s.pe.active.slots.get n) ∧
    (s.phase ≠ .running → s.pe.pendingApply = none ∧ s.pe.status = .settled ∧
      ∀ n, s.pe.active.slots.get n = none)

/-- TX_LO_LOST and TX_LO_UNVERIFIED are present for a chain exactly while its synthesizer is lost and FAILED
(R83, R139). -/
def State.ConditionsSound (s : State) : Prop :=
  ∀ t, (s.synth (.tx t)).conditions (s.protection t).present = (s.protection t).present

/-- The invariants together. Every step keeps them: the statements GrantAndProbationKept, StepNeverStops,
CounterKept, ProtectionKept and LanesFollowPlan say so, and ResetStateSound that they hold after reset. -/
structure State.Sound (s : State) : Prop where
  grant : s.GrantSound
  probation : s.ProbationSound
  history : s.HistorySound
  revert : s.RevertSound
  counter : s.CounterSound
  sequencers : s.SequencersSound
  off : s.SequencersOff
  trips : s.TripsSound
  level : s.LevelSound
  conditions : s.ConditionsSound
  lanes : s.LanesSound

/-- The commands that put the part into reset or release it (R159). -/
def Resets (c : Instr) : Prop :=
  (∃ m, supplyBelow80 m ∧ c = .supplyMeasurement m) ∨ c = .powerOn ∨ c = .resetPinAssert ∨
    ∃ m pin strap, c = .resetRelease m pin strap

/-- The commands that can carry a RESTORE_CHAIN request (R147): the request itself, and the two frame commands
whose bytes or kind may spell it (assumption 9). -/
def CarriesRestore (c : Instr) : Prop :=
  (∃ p tag payload, c = .restoreChain p tag payload) ∨
    (∃ p kind tag payload, c = .unknownRequest p kind tag payload) ∨
    ∃ p bytes, c = .frameError p bytes

/-! ## The sequencer's tables -/

/-- `t` is what a decision of chain `x`'s sequencer makes of `s` by the tables of R126 to R130 and R133, state
by state. `off` is where the chain stands after OFF, TUNING or LOCKED_OUT has been entered or stayed in, on
the facts of `t`, where a retune may just have been handed over; `up` is RAMP_UP, or ON_AIR where no ramp runs
(R128). Two of its rows are the model's choice: RAMP_DOWN at zero at a level of 0 or 1 with the synthesizer
not VERIFIED (assumption 15), and a sequence that a lockout removal leaves to run (`runDown`, assumption 29).
-/
structure SeqDecided (s t : State) (x : Tx) : Prop where
  off : let st := (t.seq x).state
    (s.seq x).state = .off ∨ (s.seq x).state = .tuning ∨ (s.seq x).state = .lockedOut ∨
      ((s.seq x).state = .driveSettle ∧ s.wantedOn x = false) →
    st = if (t.protection x).lockedOut then .lockedOut
      else if t.wantedOn x then (if t.tuned x then .driveSettle else .tuning) else .off
  driveSettle : (s.seq x).state = .driveSettle → s.wantedOn x = true →
    ((s.seq x).driveSettled = true → s.tuned x = true →
      ((s.protection x).level = 2 → (t.seq x).state = .muted) ∧
      ((s.protection x).level < 2 →
        (t.seq x).state = if (t.mixer x).timer.isSome then .rampUp else .onAir)) ∧
    ((s.seq x).driveSettled = false ∨ s.tuned x = false → (t.seq x).state = .driveSettle)
  rampUp : (s.seq x).state = .rampUp → s.wantedOn x = true → (s.protection x).level < 2 →
    (t.seq x).state = if (s.mixer x).timer.isSome then .rampUp else .onAir
  onAir : (s.seq x).state = .onAir → s.wantedOn x = true → (s.protection x).level < 2 →
    (t.seq x).state = .onAir
  level2 : (s.seq x).state = .rampUp ∨ (s.seq x).state = .onAir → s.wantedOn x = true →
    (s.protection x).level = 2 →
    (t.seq x).state = if s.currentSum x = 0 then .muted else .rampDown
  down : (s.seq x).state = .rampUp ∨ (s.seq x).state = .onAir ∨ (s.seq x).state = .rampDown →
    s.wantedOn x = false →
    (t.seq x).state = if s.currentSum x = 0 then .paDischarge else .rampDown
  rampDown : (s.seq x).state = .rampDown → s.wantedOn x = true → (s.seq x).runDown = false →
    ((s.protection x).level < 2 → s.tuned x = true →
      (t.seq x).state = if (t.mixer x).timer.isSome then .rampUp else .onAir) ∧
    ((s.protection x).level = 2 ∨ s.tuned x = false →
      (t.seq x).state = if s.currentSum x = 0 then .muted else .rampDown)
  muted : (s.seq x).state = .muted → s.wantedOn x = true → (s.seq x).runDown = false →
    ((s.protection x).level < 2 → s.tuned x = true →
      (t.seq x).state = if (t.mixer x).timer.isSome then .rampUp else .onAir) ∧
    ((s.protection x).level = 2 ∨ s.tuned x = false → (t.seq x).state = .muted)
  mutedOff : (s.seq x).state = .muted → s.wantedOn x = false → (t.seq x).state = .paDischarge
  runDown : (s.seq x).runDown = true → s.wantedOn x = true →
    ((s.seq x).state = .muted → (t.seq x).state = .paDischarge) ∧
    ((s.seq x).state = .rampDown →
      (t.seq x).state = if s.currentSum x = 0 then .paDischarge else .rampDown)
  paDischarge : (s.seq x).state = .paDischarge → (t.seq x).state = .paDischarge
  told : (t.seq x).state ≠ (s.seq x).state → ∀ p, (t.port p).notices.has .chainChanged = true
  others : ∀ y, y ≠ x → t.seq y = s.seq y

/-! ## Marks, notices and writes -/

/-- Command `c` makes a second mark in `s`, taken at the step boundary at which the state is `u` (R67, R68). A
counted mark falls 100 steps after the previous one, or at the first boundary after LOCKED was left with 100
steps already passed. -/
def MakesMark (c : Instr) (s u : State) : Prop :=
  (c = .secondMark ∧ s.phase ≠ .held ∧ s.ref.state ≠ .locked ∧ u = s.advanceTo
      (if s.time.lastMark + 100 ≤ s.ref.leftLocked then s.ref.leftLocked + 1 else s.time.lastMark + 100)) ∨
  (c = .ppsEdge ∧ s.phase ≠ .held ∧ s.ref.state = .locked ∧ s.time.lastMark + 50 ≤ s.time.steps ∧
    u = s) ∨
  (c = .substitutedMark ∧ s.phase ≠ .held ∧ s.ref.state = .locked ∧
    ∃ v, v = s.advanceTo (s.time.lastMark + 150) ∧
      u = { v with time := { v.time with substituted := min (v.time.substituted + 1) 65535 } })

/-- A notice kind is in the notice set of a port (R170). -/
def State.told (s : State) (p : Port) (n : Notice) : Prop := (s.port p).notices.has n = true

/-- A content with a property waits for a record or is being written to it (R153, R154). -/
def State.Writes (s : State) (r : RecordName) (P : Content → Prop) : Prop :=
  (∃ c, (s.record r).pendingContent = some c ∧ P c) ∨
    ∃ w, s.store.inFlight = some w ∧ w.record = r ∧ P w.content

/-! ## Requests as frames -/

/-- The command of a request kind. -/
def RequestKind.command (k : RequestKind) (p : Port) (tag : Byte) (payload : Sent) : Instr :=
  match k with
  | .nop => .nop p tag payload
  | .readStatus => .readStatus p tag payload
  | .readPlan => .readPlan p tag payload
  | .readNotices => .readNotices p tag payload
  | .takeEdit => .takeEdit p tag payload
  | .releaseEdit => .releaseEdit p tag payload
  | .setChain => .setChain p tag payload
  | .setSlot => .setSlot p tag payload
  | .clearSlot => .clearSlot p tag payload
  | .setProfile => .setProfile p tag payload
  | .commit => .commit p tag payload
  | .cancelCommit => .cancelCommit p tag payload
  | .revert => .revert p tag payload
  | .restoreChain => .restoreChain p tag payload
  | .measure => .measure p tag payload
  | .storeDefault => .storeDefault p tag payload
  | .clearResetCause => .clearResetCause p tag payload

/-- The state in which the request of a valid frame is examined: the last response has been clocked out, as many
of its bytes as the transaction clocked in (`n`), and the port has heard the frame (R165, R168). -/
def State.framed (s : State) (p : Port) (n : Nat) : State := (s.clockOut p n).heard p

/-- The state with a response as the port's last response (R167). -/
def State.answered (s : State) (p : Port) (kind tag : Byte) (status : Status) (payload : List Byte) :
    State :=
  s.setPort p
    { s.port p with lastResponse := { kind := kind, tag := tag, status := status, payload := payload } }

/-- The first two bytes of a READ_STATUS payload that names an item; `x` stands where the number is not
examined (R173). -/
def StatusItem.request (x : Byte) : StatusItem → List Byte
  | .device => [0, x]
  | .chain t => 1 :: byte (chainCode (.tx t))
  | .synthesizer c => 2 :: byte (chainCode c)
  | .slot n => 3 :: byte n.val
  | .store => [4, x]

/-- The first two bytes of a READ_PLAN payload that names a source; `x` stands where the history index is not
examined (R172). -/
def PlanSource.request (x : Byte) : PlanSource → List Byte
  | .active => [0, x]
  | .staged => [1, x]
  | .pending => [2, x]
  | .history k => 3 :: byte k.val
  | .site => [4, x]
  | .dflt => [5, x]

/-- The last two bytes of a READ_PLAN payload that names an item; `x` stands where the number is not examined
(R172). -/
def PlanItem.request (x : Byte) : PlanItem → List Byte
  | .header => [0, x]
  | .chain c => 1 :: byte (chainCode c)
  | .slot n => 2 :: byte n.val
  | .profile part => 3 :: byte part.toNat

/-! ## Values that fit their fields (R175) -/

/-- An LO nominal that its four bytes carry. -/
def loFits (lo : Option Nat) : Prop := ∀ l, lo = some l → 0 < l ∧ l < 2 ^ 32

/-- A transmit entry that its item carries. -/
def TxSettings.Fits (c : TxSettings) : Prop :=
  loFits c.lo ∧ c.rampUnit < 256 ∧ c.driveSettle < 256 ∧ c.paDischarge < 256

/-- A slot entry that its item carries. -/
def SlotEntry.Fits (e : SlotEntry) : Prop :=
  e.inputFrequency < 2 ^ 32 ∧ e.outputFrequency < 2 ^ 32 ∧ e.share < 65536 ∧
    -128 ≤ e.threshold ∧ e.threshold ≤ 127 ∧ ∀ fb, e.fallback = some fb → fb.frequency < 2 ^ 32

/-- Profile fields that their part carries. -/
def Limits.Fits (l : Limits) : Prop :=
  l.recoveryHold < 65536 ∧ l.tripLimit < 256 ∧ l.tripWindow < 256 ∧ l.holdoverAllowance < 65536 ∧
    l.qualifyTime < 256 ∧ l.lossConfirm < 256 ∧ l.restoreConfirm < 65536 ∧ l.restoreVisits < 256 ∧
    l.attempts < 256 ∧ l.settle < 256 ∧ l.gateExponent < 256 ∧ l.countTolerance < 256 ∧
    l.auditInterval < 65536 ∧ l.retryHold < 65536 ∧ l.probation < 65536 ∧ l.linkSilence < 256

/-- A plan that a stored record carries. -/
def Plan.Fits (p : Plan) : Prop :=
  p.issue < 2 ^ 32 ∧ (∀ r, loFits (p.rx.get r)) ∧ (∀ t, (p.tx.get t).Fits) ∧
    (∀ n e, p.slots.get n = some e → e.Fits) ∧ p.limits.Fits

/-- A slot entry that passes the field checks of SET_SLOT (R4, R11). -/
def SlotEntry.Legal (e : SlotEntry) : Prop :=
  e.Fits ∧ 1 ≤ e.share ∧ e.share ≤ 1024 ∧ -100 ≤ e.threshold ∧ e.threshold ≤ -20

/-- An LO nominal on the raster: a multiple of 1,000 in 50,000,000 to 1,000,000,000 Hz (R2, R3). -/
def legalLo (l : Nat) : Prop := 50000000 ≤ l ∧ l ≤ 1000000000 ∧ l % 1000 = 0

/-- A transmit entry that passes the field checks of SET_CHAIN (R3, R10). -/
def TxSettings.Legal (c : TxSettings) : Prop :=
  (∀ l, c.lo = some l → legalLo l) ∧ 1 ≤ c.rampUnit ∧ c.rampUnit ≤ 64 ∧ 1 ≤ c.driveSettle ∧
    c.driveSettle ≤ 255 ∧ 1 ≤ c.paDischarge ∧ c.paDischarge ≤ 255

/-- The ranges of the timing and limit fields, in the order of the table of R8. -/
def Limits.ranges (l : Limits) : List Prop :=
  [1 ≤ l.recoveryHold ∧ l.recoveryHold ≤ 600, l.tripLimit ≤ 7, 1 ≤ l.tripWindow ∧ l.tripWindow ≤ 60,
   l.holdoverAllowance ≤ 1440, 1 ≤ l.qualifyTime ∧ l.qualifyTime ≤ 60,
   1 ≤ l.lossConfirm ∧ l.lossConfirm ≤ 60, 1 ≤ l.restoreConfirm ∧ l.restoreConfirm ≤ 600,
   1 ≤ l.restoreVisits ∧ l.restoreVisits ≤ 15, 1 ≤ l.attempts ∧ l.attempts ≤ 4,
   1 ≤ l.settle ∧ l.settle ≤ 255, l.gateExponent ≤ 7, 1 ≤ l.countTolerance ∧ l.countTolerance ≤ 200,
   l.auditInterval = 0 ∨ (10 ≤ l.auditInterval ∧ l.auditInterval ≤ 3600),
   10 ≤ l.retryHold ∧ l.retryHold ≤ 3600, l.probation ≤ 600, 1 ≤ l.linkSilence ∧ l.linkSilence ≤ 60]

/-- Profile fields that pass the range checks of SET_PROFILE (R8, R12). -/
def Limits.Legal (l : Limits) : Prop := ∀ c ∈ l.ranges, c

/-- `i` is the position, counted from 1, of the first of a list of checks that fails (R13). -/
def FailsAt (checks : List Prop) (i : Nat) : Prop :=
  ∃ passed failed later, checks = passed ++ failed :: later ∧ (∀ c ∈ passed, c) ∧ ¬failed ∧
    i = passed.length + 1

/-! ## Frames -/

/-- `t` differs from `s` at most in lanes, mixers, input records and phases. -/
structure LaneFrame (s t : State) : Prop where
  phase : t.phase = s.phase
  time : t.time = s.time
  ref : t.ref = s.ref
  pe : t.pe = s.pe
  syn : t.syn = s.syn
  fc : t.fc = s.fc
  probe : t.probe = s.probe
  os : t.os = s.os
  pu : t.pu = s.pu
  store : t.store = s.store
  supply : t.supply = s.supply
  ports : t.ports = s.ports
  draws : t.draws = s.draws
  pending : t.pending = s.pending

/-- `t` differs from `s` at most in the synthesizer controllers, the counter, the lanes' words and the
protection state. -/
structure SynthFrame (s t : State) : Prop where
  phase : t.phase = s.phase
  time : t.time = s.time
  ref : t.ref = s.ref
  pe : t.pe = s.pe
  phases : t.phases = s.phases
  mixers : t.mixers = s.mixers
  inputs : t.inputs = s.inputs
  probe : t.probe = s.probe
  os : t.os = s.os
  store : t.store = s.store
  supply : t.supply = s.supply
  ports : t.ports = s.ports
  draws : t.draws = s.draws
  pending : t.pending = s.pending

/-- `t` differs from `s` at most in the blocks that a sequencer's decision reaches: the chains' own blocks and
the notice sets. Time, reference, plans, store and supply are as they were. -/
structure SeqFrame (s t : State) : Prop where
  phase : t.phase = s.phase
  time : t.time = s.time
  ref : t.ref = s.ref
  pe : t.pe = s.pe
  store : t.store = s.store
  supply : t.supply = s.supply
  draws : t.draws = s.draws
  pending : t.pending = s.pending

/-- `t` differs from `s` at most in what a change of conditions reaches: besides the blocks of `SeqFrame`, the
store's writer (a lockout's SITE write) and a probation failure in the Plan Engine (R55). -/
structure ProtFrame (s t : State) : Prop where
  phase : t.phase = s.phase
  time : t.time = s.time
  ref : t.ref = s.ref
  supply : t.supply = s.supply
  draws : t.draws = s.draws
  pending : t.pending = s.pending
  pe : t.pe = s.pe ∨ (s.pe.status = .onProbation ∧ t.pe = s.pe.failProbation)

/-- As `ProtFrame`, and the Reference Monitor may have changed its state. -/
structure RefFrame (s t : State) : Prop where
  phase : t.phase = s.phase
  time : t.time = s.time
  supply : t.supply = s.supply
  draws : t.draws = s.draws
  pending : t.pending = s.pending
  pe : t.pe = s.pe ∨ (s.pe.status = .onProbation ∧ t.pe = s.pe.failProbation)

/-- `t` differs from `s` at most in what the passing of time moves: the time base, the phase accumulators and
the draws. -/
structure TimeFrame (s t : State) : Prop where
  phase : t.phase = s.phase
  ref : t.ref = s.ref
  pe : t.pe = s.pe
  syn : t.syn = s.syn
  fc : t.fc = s.fc
  lanes : t.lanes = s.lanes
  mixers : t.mixers = s.mixers
  inputs : t.inputs = s.inputs
  probe : t.probe = s.probe
  os : t.os = s.os
  pu : t.pu = s.pu
  store : t.store = s.store
  supply : t.supply = s.supply
  ports : t.ports = s.ports
  pending : t.pending = s.pending
  seconds : t.time.seconds = s.time.seconds
  lastMark : t.time.lastMark = s.time.lastMark

end Sys2Proof.Machine
end

