-- ==== Sys2Proof/Certificates/Slice0/Obligations.lean ====
section
/-! DEFINITION. The statements for the provers: one `def Obligations.<Name> : Prop` each, in the order of
OBLIGATIONS.json. Where a statement takes an expiry or a mark at `s.advanceTo d`, that the command moves the
time base up to its deadline is the model's way to take it (assumption 4). -/

open Sys2Proof Sys2Proof.Machine

/-! ## The machine as a whole -/

/-- A step takes the command at the front of the queue and runs it on the state with the queue's rest. -/
def Obligations.StepTakesFrontCommand : Prop :=
  ∀ (s : State) (c : Instr) (rest : List Instr),
    step { s with pending := c :: rest } = exec c { s with pending := rest }

/-- The passing of time. On an empty queue one step of 100,000 reference cycles passes, and none in ABSENT or
while the part is held (the model's choice, assumption 1); the accumulators of every lane add their words once
a sample, 655,360 samples a step (R65, R99). A move of the time base up to a boundary moves nothing but the
time base, the accumulators and the draws. That an accumulator whose word is none keeps its phase is the model's
choice (assumption 36). -/
def Obligations.TimePasses : Prop :=
  (∀ s : State, s.pending = [] →
    (s.phase = .held ∨ s.ref.state = .absent → step s = .next s) ∧
    (s.phase ≠ .held → s.ref.state ≠ .absent →
      ∃ t, step s = .next t ∧ TimeFrame s t ∧ t.draws = s.draws ∧
        t.time = { s.time with steps := s.time.steps + 1 } ∧
        ∀ n, t.phaseOf n =
          { receive := (s.phaseOf n).receive
              + 655360#32 * ((s.lane n).receiveWord (s.input n).source).getD 0
            transmit := (s.phaseOf n).transmit + 655360#32 * (s.lane n).transmitWord.getD 0 })) ∧
  ∀ (s : State) (d : Nat),
    TimeFrame s (s.advanceTo d) ∧ (s.advanceTo d).time.steps = max s.time.steps d ∧
    (s.ref.state ≠ .absent →
      (s.advanceTo d).time.backup = s.time.backup ∧ (s.advanceTo d).draws = s.draws ∧
      ∀ n, (s.advanceTo d).phaseOf n =
        { receive := (s.phaseOf n).receive + BitVec.ofNat 32 (655360 * (d - s.time.steps))
            * ((s.lane n).receiveWord (s.input n).source).getD 0
          transmit := (s.phaseOf n).transmit + BitVec.ofNat 32 (655360 * (d - s.time.steps))
            * (s.lane n).transmitWord.getD 0 }) ∧
    (s.ref.state = .absent →
      (s.advanceTo d).time.backup = s.time.backup + (d - s.time.steps))

/-- What the state right after reset release holds where the manual gives the value (R35, R70, R92, R94, R109,
R137 to R139, R151, R152, R164), block by block with its timers; and it meets every invariant that the
statements below keep. -/
def Obligations.ResetStateSound : Prop :=
  (let s := State.reset
   s.pe.grant = none ∧ s.pe.staged = none ∧ s.pe.pendingApply = none ∧ s.pe.status = .settled ∧
   s.pe.probation = none ∧ (∀ k, s.pe.entry k = none) ∧ s.pe.top = 0 ∧ s.pe.lastApply = none ∧
   s.ref.state = .absent ∧ s.ref.qualify = none ∧ s.ref.holdover = none ∧ s.ref.disciplined = false ∧
   s.ref.lastCount = 0 ∧ s.time.steps = 0 ∧ s.time.seconds = 0 ∧ s.time.substituted = 0 ∧
   (∀ c, (s.synth c).state = .idle ∧ (s.synth c).wanted = none ∧ (s.synth c).programmed = none ∧
     (s.synth c).attempts = 0 ∧ (s.synth c).lost = false ∧ (s.synth c).lastVerdict = none ∧
     (s.synth c).lastCount = none ∧ (s.synth c).settle = none ∧ (s.synth c).audit = none ∧
     (s.synth c).retry = none ∧ (s.synth c).auditing = false ∧
     (s.synth c).restartPending = false ∧ (s.synth c).transfer = .none) ∧
   s.fc.queue = [] ∧ s.fc.current = none ∧ s.fc.last = none ∧
   (∀ n, (s.lane n).state = .unassigned ∧ (s.lane n).slot = none ∧ (s.lane n).current = 0 ∧
     (s.lane n).target = 0 ∧ (s.lane n).start = 0 ∧ (s.lane n).primaryWord = none ∧
     (s.lane n).fallbackWord = none ∧ (s.lane n).transmitWord = none ∧
     (s.lane n).phaseReset = false ∧ s.phaseOf n = ⟨0, 0⟩) ∧
   (∀ x, s.mixer x = { rampUnit := 10, step := 16, timer := none }) ∧
   (∀ n, (s.input n).inputState = none ∧ (s.input n).source = .primary ∧
     (s.input n).judgement = none ∧ (s.input n).lastResult = none ∧ (s.input n).lowCount = 0 ∧
     (s.input n).goodCount = 0 ∧ (s.input n).visitCounter = 0 ∧ (s.input n).lastVisit = none) ∧
   s.probe.visit = none ∧ s.probe.phase = none ∧ s.probe.timer = none ∧
   s.probe.lastVisited = none ∧
   (∀ t, (s.seq t).state = .off ∧ (s.seq t).retunePending = false ∧ (s.seq t).driveSettled = false ∧
     (s.seq t).settleTimer = none ∧ (s.seq t).dischargeTimer = none ∧ (s.seq t).driveSettle = 20 ∧
     (s.seq t).paDischarge = 50 ∧ (s.seq t).handedOver = none ∧
     (s.seq t).faultSample = false ∧ (s.seq t).warningSample = false) ∧
   (∀ t, (s.protection t).present = ⟨false, false, false, false⟩ ∧
     (s.protection t).highest = 3 ∧ (s.protection t).level = 3 ∧ (s.protection t).cause = some .refAbsent ∧
     (s.protection t).hold = none ∧ (s.protection t).holding = false ∧
     (s.protection t).trips = [] ∧ (s.protection t).lockedOut = false) ∧
   s.pu.device.refAbsent = true ∧ s.pu.device.linksSilent = true ∧ s.pu.device.refExpired = false ∧
   s.pu.device.refHoldover = false ∧
   s.store.inFlight = none ∧
   (∀ r, (s.record r).pendingContent = none ∧ (s.record r).retryUsed = false ∧
     (s.record r).retry = none) ∧
   (∀ p, (s.port p).link = .silent ∧ (s.port p).silence = none ∧ (s.port p).linkSilence = 5 ∧
     (∀ n, (s.port p).notices.has n = decide (n = .resetOccurred)) ∧
     (s.port p).lastResponse = { kind := 0, tag := 0, status := .ok, payload := [] } ∧
     (s.port p).attention = true)) ∧
  (State.reset.GrantSound ∧ State.reset.ProbationSound ∧ State.reset.HistorySound ∧
     State.reset.RevertSound ∧ State.reset.CounterSound ∧ State.reset.SequencersSound ∧
     State.reset.SequencersOff ∧ State.reset.TripsSound ∧ State.reset.LevelSound ∧
     State.reset.ConditionsSound ∧ State.reset.LanesSound)

/-- A staged plan exists exactly while a port holds the grant, and the probation timer runs exactly while the
plan is on probation (R36, R53): every step keeps both. -/
def Obligations.GrantAndProbationKept : Prop :=
  ∀ s t : State, s.GrantSound → s.ProbationSound → step s = .next t →
    t.GrantSound ∧ t.ProbationSound

/-- The VALID history entries stay a run from TOP, and a pending REVERT and a probation always find the top
entry VALID (R45, R48, R55); so no step ends in the machine's one fault, and every step answers a next
state. -/
def Obligations.StepNeverStops : Prop :=
  ∀ s : State, s.HistorySound → s.RevertSound →
    ∃ t, step s = .next t ∧ t.HistorySound ∧ t.RevertSound

/-- The counter and the six controllers stay agreed on who waits, who is measured and whose timers run (R71,
R75 to R77, R79, R81, R85, R86); and each sequencer keeps its timers and notes with its state, and the LO it
handed over last as its synthesizer's wanted LO (R123, R124, R126, R127, R130; that a sequence runs to its end
after a lockout removal is the model's choice, assumption 29), and is OFF outside running (R137). -/
def Obligations.CounterKept : Prop :=
  (∀ s t : State, s.CounterSound → step s = .next t → t.CounterSound) ∧
  (∀ s t : State, s.SequencersSound → step s = .next t → t.SequencersSound) ∧
  ∀ s t : State, s.SequencersSound → s.SequencersOff → step s = .next t → t.SequencersOff

/-- No trip list ever holds more entries than the trip limit of the active profile (R145, R148); S stays the
highest severity present for its chain, and the protective level is never below it (R140, R141); and the two
conditions of a transmit synthesizer are present for its chain exactly while it is lost and FAILED (R83). What
S is, AmplifierInputsSampled spells out. -/
def Obligations.ProtectionKept : Prop :=
  (∀ (x : SynContext) (c : ChainConditions),
    x.conditions c = { c with txLoLost := x.lost, txLoUnverified := decide (x.state = .failed) }) ∧
  (∀ s t : State, s.TripsSound → step s = .next t → t.TripsSound) ∧
  (∀ s t : State, s.LevelSound → step s = .next t → t.LevelSound) ∧
  ∀ s t : State, s.CounterSound → s.ConditionsSound → step s = .next t → t.ConditionsSound

/-- Every lane carries the slot of the active plan (R94, R100). -/
def Obligations.LanesFollowPlan : Prop :=
  ∀ s t : State, s.LanesSound → step s = .next t → t.LanesSound

/-- Between two resets nothing but a RESTORE_CHAIN request takes a chain out of the lockout set (R147, R148),
and the last issued number never falls, and rises by one at a time (R52). -/
def Obligations.LockoutAndIssueKept : Prop :=
  (∀ (s t : State) (c : Instr) (x : Tx), ¬Resets c → c ≠ .startUpSelection → ¬CarriesRestore c →
     (s.protection x).lockedOut = true → exec c s = .next t → (t.protection x).lockedOut = true) ∧
  (∀ (s t : State) (c : Instr), ¬Resets c → c ≠ .startUpSelection → exec c s = .next t →
     t.pe.lastIssued = s.pe.lastIssued ∨ t.pe.lastIssued = s.pe.lastIssued + 1)

/-- A PA is switched on only with everything R127 asks for. Over every step of the machine from a sound state
(`State.Sound`, every invariant that the statements above keep), whatever the command: a PA that was off
before it and is on after it belongs to a running part's chain that was in DRIVE_SETTLE, had its drive settled
(or has just now), is enabled, and has its synthesizer VERIFIED for its LO; and its level was below 3 and it
was not locked out, before the step or after it (a step that lowers the level or removes the lockout and one
that raises or adds them again at the same event are both steps). In one decision of the sequencer, all of
these hold as it decides. -/
def Obligations.PaSwitchedOnOnlyVerified : Prop :=
  (∀ (s t : State) (x : Tx), s.Sound → step s = .next t → (s.seq x).state.paOn = false →
    (t.seq x).state.paOn = true →
    t.phase = .running ∧ (s.seq x).state = .driveSettle ∧
    ((s.seq x).driveSettled = true ∨ s.pending.head? = some (.driveSettleExpiry x)) ∧
    (t.pe.active.tx.get x).enabled = true ∧ (t.synth (.tx x)).state = .verified ∧
    (t.synth (.tx x)).wanted = (t.pe.active.tx.get x).lo ∧
    ((s.protection x).level < 3 ∨ (t.protection x).level < 3) ∧
    ((s.protection x).lockedOut = false ∨ (t.protection x).lockedOut = false)) ∧
  ∀ (s : State) (x : Tx), (s.seq x).state.paOn = false → ((s.decideSeq x).seq x).state.paOn = true →
    s.phase = .running ∧ (s.seq x).state = .driveSettle ∧ (s.seq x).driveSettled = true ∧
    s.isVerified (.tx x) = true ∧ (s.synth (.tx x)).wanted = (s.pe.active.tx.get x).lo ∧
    (s.pe.active.tx.get x).enabled = true ∧ (s.protection x).level < 3 ∧
    (s.protection x).lockedOut = false

/-! ## Frames and the ports -/

/-- The transaction (R165, R167, R168). A NOP frame while the part runs: as many bytes of the last response as
were clocked in are clocked out, the response is kept, the silence timer starts, and a SILENT port becomes
ACTIVE with PEER_RETURNED on the other port and LINKS_SILENT withdrawn; the state so reached is the one in
which every other valid frame is examined. Outside running a transaction clocks out the last response and its
frame is discarded; one during which resets came goes on clocking out the response that stood when its
chip-select was asserted, before the first of them; without a byte there is no transaction. That a transaction
is one command, with its fill and its resets as operands, is the model's choice (assumption 14). That a NOP
with a payload, which is not of its kind's length, leaves the last response as it is, is the model's reading
(DEDUCED, assumption 20). -/
def Obligations.FramesHeardOrDiscarded : Prop :=
  (∀ (s : State) (p : Port) (tag : Byte) (payload : List Byte) (fill : Nat), s.phase = .running →
    payload.length ≤ 48 →
    let x := s.port p
    let n := payload.length + 5 + fill
    let t := s.framed p n
    exec (.nop p tag ⟨payload, fill⟩) s = .next t ∧
    (x.link = .active →
      t = s.setPort p
        { x with dataOut := some (x.lastResponse.bytes.take n)
                 silence := some (s.time.steps + 100 * x.linkSilence) }) ∧
    (x.link = .silent →
      ProtFrame s t ∧ (t.port p).link = .active ∧
      (t.port p).silence = some (s.time.steps + 100 * x.linkSilence) ∧
      (t.port p).dataOut = some (x.lastResponse.bytes.take n) ∧
      (t.port p).lastResponse = x.lastResponse ∧
      t.told p.other .peerReturned ∧ t.pu.device = { s.pu.device with linksSilent := false })) ∧
  ∀ (s : State) (p : Port) (k : RequestKind) (kind tag : Byte) (payload bytes : List Byte) (fill : Nat),
    let t (n : Nat) :=
      s.setPort p { s.port p with dataOut := some ((s.port p).lastResponse.bytes.take n) }
    (s.phase ≠ .running →
      exec (k.command p tag ⟨payload, fill⟩) s = .next (t (payload.length + 5 + fill)) ∧
      exec (.unknownRequest p kind tag ⟨payload, fill⟩) s = .next (t (payload.length + 5 + fill)) ∧
      (bytes ≠ [] → exec (.frameError p bytes) s = .next (t bytes.length))) ∧
    (bytes ≠ [] →
      exec (.frameDiscarded p ⟨bytes, 0⟩) s = .next (t bytes.length) ∧
      ∀ (resets : Nat) (r : Response), (s.port p).beforeReset[resets]? = some r →
        exec (.frameDiscarded p ⟨bytes, resets + 1⟩) s = .next (s.setPort p
          { s.port p with dataOut := some (r.bytes.take bytes.length) })) ∧
    (∀ resets, exec (.frameDiscarded p ⟨[], resets⟩) s = .next s) ∧ exec (.frameError p []) s = .next s

/-- Frames refused before any field is examined. A frame that fails its framing check, in each of the three
ways of R166, is answered with FRAME_ERROR, and nothing outside the port changes. The ten holder-only requests
from a port that does not hold the grant, the grant FREE or held by the other port: NO_GRANT, whatever the
payload (R37). A valid frame of a kind that is none of the seventeen: UNKNOWN_REQUEST; one whose payload is
not of its kind's length: INVALID_FIELD at position 0 (R167). -/
def Obligations.FramesRefused : Prop :=
  (∀ (s : State) (p : Port) (bytes : List Byte), s.phase = .running → bytes ≠ [] →
    (bytes.length < byteAt bytes 0 + 5 ∨ 48 < byteAt bytes 0 ∨
      (crc16 (bytes.take (byteAt bytes 0 + 3))).toNat ≠ field2 bytes (byteAt bytes 0 + 3)) →
    exec (.frameError p bytes) s = .next (s.setPort p
      { s.port p with
        dataOut := some ((s.port p).lastResponse.bytes.take bytes.length)
        lastResponse := { kind := bytes.getD 1 0, tag := bytes.getD 2 0, status := .frameError,
                          payload := [] } })) ∧
  (∀ (s : State) (p : Port) (k : RequestKind) (tag : Byte) (payload : List Byte) (fill : Nat),
     k ∈ [RequestKind.releaseEdit, .setChain, .setSlot, .clearSlot, .setProfile, .commit, .cancelCommit,
       .revert, .restoreChain, .storeDefault] →
     s.phase = .running → payload.length ≤ 48 → s.pe.grant ≠ some p →
     exec (k.command p tag ⟨payload, fill⟩) s
       = .next ((s.framed p (payload.length + 5 + fill)).answered p k.code tag .noGrant [])) ∧
  (∀ (s : State) (p : Port) (tag : Byte) (payload : List Byte) (fill : Nat), s.phase = .running →
     payload.length ≤ 48 →
     let u := s.framed p (payload.length + 5 + fill)
     (∀ kind : Byte, 17 ≤ kind.toNat →
       exec (.unknownRequest p kind tag ⟨payload, fill⟩) s
         = .next (u.answered p kind tag .unknownRequest [])) ∧
     (∀ k : RequestKind, k ≠ .nop → (k.holderOnly = true → s.pe.grant = some p) →
       payload.length ≠ k.payloadLength →
       exec (k.command p tag ⟨payload, fill⟩) s
         = .next (u.answered p k.code tag .invalidField [0])))

/-- The layout of frames (R174): request and response, byte by byte, high byte first, with the CRC-16 of the
bytes before it, and the codes and payload lengths of section 12.3. Frame bytes read back: a request frame so
laid out, fill after it or not, is taken as the request it spells, and an unknown kind as UNKNOWN_REQUEST.
That FRAME_ERROR and UNKNOWN_REQUEST commands whose operands spell a request are taken as it, and that an
overlong payload operand makes a failed frame, are the model's choice (assumption 9). -/
def Obligations.FramesReadBack : Prop :=
  (∀ (n : Nat) (bs : List Byte) (i : Nat),
    byte n = [BitVec.ofNat 8 n] ∧
    bytes4 n = [BitVec.ofNat 8 (n / 16777216), BitVec.ofNat 8 (n / 65536), BitVec.ofNat 8 (n / 256),
      BitVec.ofNat 8 n] ∧
    byteAt bs i = (bs.getD i 0).toNat ∧ signedAt bs i = (bs.getD i 0).toInt ∧
    (i + 2 ≤ bs.length → field2 bs i = 256 * byteAt bs i + byteAt bs (i + 1)) ∧
    (i + 4 ≤ bs.length → field4 bs i = 16777216 * byteAt bs i + 65536 * byteAt bs (i + 1)
      + 256 * byteAt bs (i + 2) + byteAt bs (i + 3))) ∧
  (let bit (c : BitVec 16) : BitVec 16 := if c.getLsbD 15 then (c <<< 1) ^^^ 0x1021 else c <<< 1
   crc16 [] = 0xFFFF ∧
   (∀ (bs : List Byte) (b : Byte),
     crc16 (bs ++ [b]) = bit^[8] (crc16 bs ^^^ (b.zeroExtend 16 <<< 8))) ∧
   crc16 [0x31, 0x32, 0x33, 0x34, 0x35, 0x36, 0x37, 0x38, 0x39] = 0x29B1) ∧
  (∀ (kind tag : Byte) (payload : List Byte),
    let head := BitVec.ofNat 8 payload.length :: kind :: tag :: payload
    requestBytes kind tag payload
      = head ++ [BitVec.ofNat 8 ((crc16 head).toNat / 256), BitVec.ofNat 8 (crc16 head).toNat]) ∧
  (∀ r : Response,
    let head := BitVec.ofNat 8 r.payload.length :: r.kind :: r.tag :: r.status.code :: r.payload
    r.bytes = head ++ [BitVec.ofNat 8 ((crc16 head).toNat / 256), BitVec.ofNat 8 (crc16 head).toNat]) ∧
  [Status.ok, .frameError, .unknownRequest, .invalidField, .noGrant, .heldByOther, .planInvalid,
    .applyPending, .nothingPending, .historyEmpty, .chainsActive, .notAvailable].map Status.code
    = [0, 1, 2, 3, 4, 5, 6, 7, 8, 9, 10, 11] ∧
  (let kinds := [RequestKind.nop, .readStatus, .readPlan, .readNotices, .takeEdit, .releaseEdit, .setChain,
     .setSlot, .clearSlot, .setProfile, .commit, .cancelCommit, .revert, .restoreChain, .measure,
     .storeDefault, .clearResetCause]
   kinds.map RequestKind.code = [0, 1, 2, 3, 4, 5, 6, 7, 8, 9, 10, 11, 12, 13, 14, 15, 16] ∧
   kinds.map RequestKind.payloadLength = [0, 3, 4, 0, 0, 0, 9, 21, 1, 23, 0, 0, 0, 1, 1, 0, 0] ∧
   kinds.filter RequestKind.holderOnly = [.releaseEdit, .setChain, .setSlot, .clearSlot, .setProfile,
     .commit, .cancelCommit, .revert, .restoreChain, .storeDefault]) ∧
  ∀ (s : State) (p : Port) (tag : Byte) (payload : List Byte),
    (payload.length ≤ 48 → ∀ (k : RequestKind) (fill : List Byte),
      exec (.frameError p (requestBytes k.code tag payload ++ fill)) s
        = exec (k.command p tag ⟨payload, fill.length⟩) s) ∧
    (payload.length ≤ 48 → ∀ (kind : Byte) (fill : List Byte), 17 ≤ kind.toNat →
      exec (.frameError p (requestBytes kind tag payload ++ fill)) s
        = exec (.unknownRequest p kind tag ⟨payload, fill.length⟩) s) ∧
    (∀ (k : RequestKind) (fill : Nat),
      exec (.unknownRequest p k.code tag ⟨payload, fill⟩) s = exec (k.command p tag ⟨payload, fill⟩) s) ∧
    (s.phase = .running → 48 < payload.length → ∀ (k : RequestKind) (fill : Nat),
      exec (k.command p tag ⟨payload, fill⟩) s = .next (s.setPort p
        { s.port p with
          dataOut := some ((s.port p).lastResponse.bytes.take (payload.length + 5 + fill))
          lastResponse := { kind := k.code, tag := tag, status := .frameError, payload := [] } }))

/-- The expiry of a silence timer (R39, R168). -/
def Obligations.SilenceReleasesGrant : Prop :=
  ∀ (s : State) (p : Port) (d : Nat), (s.port p).silence = some d →
    ∃ t, exec (.silenceExpiry p) s = .next t ∧ (t.port p).link = .silent ∧
      (t.port p).silence = none ∧ t.told p.other .peerSilent ∧
      t.time.steps = max s.time.steps d ∧ t.pe.active = s.pe.active ∧
      t.pe.history = s.pe.history ∧ t.pe.lastIssued = s.pe.lastIssued ∧
      t.ref = s.ref ∧ t.supply = s.supply ∧ t.pending = s.pending ∧
      (s.pe.grant = some p → t.pe.grant = none ∧ t.pe.staged = none ∧ ∀ q, t.told q .grantLost) ∧
      (s.pe.grant ≠ some p → t.pe.grant = s.pe.grant ∧ t.pe.staged = s.pe.staged) ∧
      ((s.port p.other).link = .silent → t.pu.device = { s.pu.device with linksSilent := true }) ∧
      ((s.port p.other).link = .active →
        t.pu = s.pu ∧ t.os = s.os ∧ t.store = s.store ∧ t.pe.pendingApply = s.pe.pendingApply ∧
        t.syn = s.syn ∧ t.fc = s.fc ∧ t.lanes = s.lanes ∧ t.mixers = s.mixers ∧
        t.inputs = s.inputs ∧ t.probe = s.probe)

/-! ## Reads -/

/-- The notice sets (R164, R170): the bit of each kind, what raising a kind on both ports does, and the
attention line. READ_NOTICES answers the kinds of the asking port's set as its mask and empties that set
(R170). READ_STATUS answers the part asked for, and INVALID_FIELD at the first field outside the table (R173).
The parts are `statusParts`; what their fields hold is StatusFieldsHeld, and how they are packed
StatusPartsHoldWholeFields. -/
def Obligations.StatusAndNoticesRead : Prop :=
  (∀ v : NoticeSet,
    [Notice.resetOccurred, .planApplied, .planReverted, .commitCancelled, .grantLost, .peerSilent,
      .peerReturned, .chainChanged, .synthFailed, .inputChangeover, .referenceChanged, .storeDone,
      .storeFailed, .supplyChanged].map v.has = (List.range 14).map fun i => v.getLsbD i) ∧
  (∀ (s : State) (p : Port) (m : Notice),
    { s.notifyBoth m with ports := s.ports } = s ∧
    { (s.notifyBoth m).port p with notices := (s.port p).notices } = s.port p ∧
    (∀ n, ((s.notifyBoth m).port p).notices.has n = (decide (n = m) || (s.port p).notices.has n)) ∧
    ((s.port p).attention = true ↔ ∃ n, (s.port p).notices.has n = true)) ∧
  (∀ (s : State) (p : Port) (tag : Byte) (fill : Nat), s.phase = .running →
    let u := s.framed p (5 + fill)
    let x := u.port p
    exec (.readNotices p tag ⟨[], fill⟩) s = .next (u.setPort p
      { x with
        notices := 0
        lastResponse := { kind := 3, tag := tag, status := .ok
                          payload := [BitVec.ofNat 8 (x.notices.toNat / 256),
                                      BitVec.ofNat 8 x.notices.toNat] } })) ∧
  ∀ (s : State) (p : Port) (tag part : Byte) (fill : Nat), s.phase = .running →
    let u := s.framed p (8 + fill)
    (∀ (item : StatusItem) (x : Byte) (b : List Byte), (statusParts u p item)[part.toNat]? = some b →
      exec (.readStatus p tag ⟨item.request x ++ [part], fill⟩) s = .next (u.answered p 1 tag .ok b)) ∧
    (∀ (item : StatusItem) (x : Byte), (statusParts u p item).length ≤ part.toNat →
      exec (.readStatus p tag ⟨item.request x ++ [part], fill⟩) s
        = .next (u.answered p 1 tag .invalidField [3])) ∧
    (∀ (a b : Byte) (i : Nat),
      FailsAt [a.toNat ≤ 4, (a = 1 → 2 ≤ b.toNat ∧ b.toNat ≤ 5) ∧ (a = 2 → b.toNat ≤ 5)
        ∧ (a = 3 → b.toNat ≤ 15)] i →
      exec (.readStatus p tag ⟨[a, b, part], fill⟩) s
        = .next (u.answered p 1 tag .invalidField [BitVec.ofNat 8 i]))

/-- What the fields of each READ_STATUS item hold, in the order of their rules (R57, R69, R91, R107, R121,
R136, R150, R163, R173), and how each kind of value is encoded (R175). The model's choices among them are
those of assumption 8: yes is 1, the widths of numbers that R175 does not name, on before off, the
interleaving of the records' rows, the start-up source as an origin code, the probe record as four fields, the
'oldest discarded' part of an absent last-apply record, the holding byte while there is no cause, and where a
presence byte stands. -/
def Obligations.StatusFieldsHeld : Prop :=
  let b1 (n : Nat) : List Byte := [BitVec.ofNat 8 n]
  let b2 (n : Nat) : List Byte := [BitVec.ofNat 8 (n / 256), BitVec.ofNat 8 n]
  let b4 (n : Nat) : List Byte := [BitVec.ofNat 8 (n / 16777216), BitVec.ofNat 8 (n / 65536),
    BitVec.ofNat 8 (n / 256), BitVec.ofNat 8 n]
  let yes (b : Bool) : List Byte := if b then [1] else [0]
  let on (b : Bool) : List Byte := if b then [0] else [1]
  let name (n : Option Nat) : List Byte := match n with | none => [0xFF] | some n => b1 n
  let opt4 (n : Option Nat) : List Byte :=
    match n with | none => [0xFF, 0xFF, 0xFF, 0xFF] | some n => b4 n
  let issue (n : Option Nat) : List Byte :=
    match n with | none => [0, 0xFF, 0xFF, 0xFF, 0xFF] | some n => 1 :: b4 n
  let list (l : List (List Byte)) : List Byte := b1 l.length ++ l.flatten
  let word (w : Option Word) : List Byte :=
    match w with | none => [0x80, 0, 0, 0] | some w => b4 w.toNat
  (([Verdict.within, .low, .high, .unordered].map verdictCode = [0, 1, 2, 3] ∧
    [SynState.idle, .programming, .settling, .queued, .measuring, .verified, .failed].map synStateCode
      = [0, 1, 2, 3, 4, 5, 6] ∧
    [SeqState.off, .tuning, .driveSettle, .rampUp, .onAir, .muted, .rampDown, .paDischarge,
      .lockedOut].map seqStateCode = [0, 1, 2, 3, 4, 5, 6, 7, 8] ∧
    [LaneState.unassigned, .held, .livePrimary, .liveFallback, .inputLost].map laneStateCode
      = [0, 1, 2, 3, 4] ∧
    [InputState.livePrimary, .liveFallback, .inputLost].map inputStateCode = [0, 1, 2] ∧
    [RefState.absent, .qualifying, .locked, .holdover, .expired].map refStateCode = [0, 1, 2, 3, 4] ∧
    [RefState.locked, .holdover, .qualifying, .expired, .absent].map markSourceCode = [0, 1, 1, 1, 2] ∧
    [OffCause.notEnabled, .level3, .lockedOut, .retunePending].map offCauseCode = [0, 1, 2, 3] ∧
    [Origin.a, .b, .storeSite, .storeDefault, .empty].map originCode = [0, 1, 2, 3, 4] ∧
    allConditions = [.refAbsent, .txLoLost, .txLoUnverified, .paFault, .refExpired, .supplyWarning,
      .paWarning, .refHoldover, .linksSilent] ∧
    allConditions.map conditionCode = [1, 2, 3, 4, 5, 6, 7, 8, 9] ∧
    [Chain.rx .rx0, .rx .rx1, .tx .tx0, .tx .tx1, .tx .tx2, .tx .tx3].map chainCode = [0, 1, 2, 3, 4, 5] ∧
    allTx = [.tx0, .tx1, .tx2, .tx3] ∧ allSlots = List.finRange 16)) ∧
  ∀ (s : State) (p : Port),
    let left (t : Timer) : Nat := match t with | none => 0 | some d => (d - s.time.steps + 99) / 100
    let steps (t : Timer) : Nat := match t with | none => 0 | some d => d - s.time.steps
    statusFields s p .device =
      [b1 (match s.pe.grant with | none => 0 | some .a => 1 | some .b => 2), b4 s.pe.active.issue,
       b1 (originCode s.pe.active.origin),
       b1 (match s.pe.status with | .onProbation => 0 | .settled => 1), b2 (left s.pe.probation),
       (match s.pe.pendingApply with
         | none => [0, 0xFF, 0xFF, 0xFF, 0xFF, 0xFF, 0xFF]
         | some r => 1 :: (match r.change with | .commit _ => 0 | .revert => 1) :: b4 r.issue
             ++ (match r.requestedBy with | .a => [0] | .b => [1] | .probation => [2])),
       b2 (s.pe.history.toList.filter Option.isSome).length, issue ((s.pe.entry 0).map Plan.issue),
       b4 s.pe.lastIssued,
       (match s.pe.lastApply with
         | none => 0 :: List.replicate 10 0xFF ++ 0 :: List.replicate 8 0xFF
         | some r => 1 :: (match r.kind with | .commit => 0 | .revert => 1)
             :: (match r.requestedBy with | .a => 0 | .b => 1 | .probation => 2)
             :: b4 r.applied ++ b4 r.outgoing ++ issue r.discarded ++ b4 r.markTime),
       b1 (refStateCode s.ref.state), b4 ((s.time.steps - s.ref.enteredAt) / 100), b2 (left s.ref.qualify),
       (match s.ref.state, s.ref.holdover with
         | .expired, _ => b4 0
         | .holdover, some d => b4 (left (some d))
         | _, _ => [0xFF, 0xFF, 0xFF, 0xFF]),
       on s.ref.disciplined, b4 (min s.ref.lastCount 131071), b1 (markSourceCode s.ref.state),
       b4 s.time.seconds, b2 s.time.substituted,
       yes s.fc.current.isSome,
       (match s.fc.current with
         | none => [0, 0xFF, 0xFF, 0xFF]
         | some m => 1 :: b1 (chainCode m.syn) ++ yes m.audit ++ yes m.spoiled),
       list (s.fc.queue.map fun q => b1 (chainCode q.syn) ++ yes q.audit),
       (match s.fc.last with
         | none => 0 :: List.replicate 13 0xFF
         | some m => 1 :: b1 (chainCode m.syn) ++ yes m.audit ++ b1 (verdictCode m.verdict)
             ++ opt4 m.count ++ b4 m.expected ++ b2 m.tolerance),
       name (s.probe.visit.map Fin.val),
       (match s.probe.phase with | none => [0xFF] | some .discard => [0] | some .judge => [1]),
       name (s.probe.lastVisited.map Fin.val),
       list ((allSlots.filter fun n => (s.input n).inputState = some .liveFallback ∨
         ((s.input n).inputState = some .inputLost ∧ (s.input n).source = .fallback)).map fun n => b1 n),
       list ((allConditions.filter fun k => isPresent s.pu.device ⟨false, false, false, false⟩ k).map
         fun k => b1 (conditionCode k)),
       list ((allTx.filter fun x => (s.protection x).lockedOut).map fun x => b1 (chainCode (.tx x))),
       (match s.supply.state with | .normal => [0] | .warning => [1]), b1 s.supply.measurement.val,
       (match s.supply.lastCause with | .powerOn => 0 | .undervoltage => 1 | .pin => 2)
         :: yes s.supply.undervoltageSeen,
       [Port.a, .b].map (fun q => match (s.port q).link with | .active => 0 | .silent => 1),
       b2 (s.port p).linkSilence, b2 (left (s.port p).silence)] ∧
    (∀ x : Tx,
      let m := s.mixer x
      let q := s.seq x
      let c := s.protection x
      statusFields s p (.chain x) =
        [b2 m.rampUnit, b2 m.step, list ((s.lanesOn x).map fun n => b1 n), b2 (s.pe.active.shareSum x),
         yes (decide (1024 < s.pe.active.shareSum x)),
         b2 ((s.lanesOn x).map fun n => (s.lane n).current).sum,
         b2 ((s.lanesOn x).map fun n => (s.lane n).target).sum,
         b1 (seqStateCode q.state), on q.state.live, on q.state.paOn, yes (decide (s.offCauses x = [])),
         list ((s.offCauses x).map fun k => b1 (offCauseCode k)), yes q.retunePending, yes q.driveSettled,
         b2 (match q.state with
           | .driveSettle => steps q.settleTimer
           | .paDischarge => steps q.dischargeTimer
           | _ => 0), opt4 q.handedOver,
         b2 c.level.val, b2 c.highest.val, name (c.cause.map conditionCode), yes c.holding,
         b2 (left c.hold),
         list ((allConditions.filter fun k => isPresent s.pu.device c.present k).map fun k =>
           b1 (conditionCode k)),
         list (c.trips.map fun r => b4 r.time
           ++ (match r.faults with | .paFault => [0] | .txLoLost => [1] | .both => [2])),
         yes c.lockedOut]) ∧
    (∀ c : Chain,
      let x := s.synth c
      statusFields s p (.synthesizer c) =
        [b1 (synStateCode x.state), opt4 x.wanted,
         (match x.programmed with | none => [0xFF, 0xFF] | some w => b2 w.n),
         opt4 (x.programmed.map DividerWords.f), b2 x.attempts, name (x.lastVerdict.map verdictCode),
         opt4 x.lastCount, yes x.auditing, yes x.lost,
         b2 (((s.fc.queue.findIdx? fun q => q.syn = c).map (· + 1)).getD 0),
         yes (s.fc.current.any fun m => m.syn = c), b2 (left x.retry), b2 (left x.audit)]) ∧
    (∀ n : Slot,
      let l := s.lane n
      let i := s.input n
      statusFields s p (.slot n) =
        [b1 (laneStateCode l.state), (match i.source with | .primary => [0] | .fallback => [1]),
         word l.primaryWord, word l.fallbackWord, word l.transmitWord, yes l.phaseReset,
         b2 (if l.state = .unassigned then 0 else s.pe.active.effectiveShare n), b2 l.target, b2 l.current,
         name (i.inputState.map inputStateCode),
         (match i.judgement with | none => [0xFF] | some .low => [0] | some .good => [1]),
         (match i.lastResult with | none => [0x80] | some r => [BitVec.ofInt 8 r]), b2 i.lowCount,
         b2 i.goodCount, b2 i.visitCounter,
         (match i.lastVisit with | none => [0xFF] | some .good => [0] | some .low => [1]),
         yes (decide (s.probe.visit = some n))]) ∧
    let stored (r : RecordName) : Option Plan :=
      match (s.record r).status with
      | .invalid => none
      | .valid => some (storedPlan (s.record r).image)
    let status (r : RecordStatus) : Byte := match r with | .valid => 0 | .invalid => 1
    statusFields s p .store =
      [(match s.store.inFlight with
         | none => [0, 0xFF]
         | some w => [1, match w.record with | .site => 0 | .dflt => 1]),
       yes (decide (s.supply.state = .warning)), [status (s.record .site).status],
       [status (s.record .dflt).status], issue ((stored .site).map Plan.issue),
       issue ((stored .dflt).map Plan.issue), issue ((s.record .site).pendingContent.map (·.plan.issue)),
       issue ((s.record .dflt).pendingContent.map (·.plan.issue)), yes (s.record .site).retryUsed,
       b2 (steps (s.record .site).retry), yes (s.record .dflt).retryUsed,
       b2 (steps (s.record .dflt).retry), b2 (s.record .site).failures, b2 (s.record .dflt).failures,
       (match (s.record .site).status with
         | .invalid => [0xFF]
         | .valid => list ((allTx.filter (storedLockout (s.record .site).image).get).map fun x =>
             b1 (chainCode (.tx x)))),
       b1 (originCode s.store.startSource),
       [status s.store.startStatuses.site, status s.store.startStatuses.dflt]]

/-- The packing of an item's fields into parts (R175): the parts carry the fields in their order, no field is
divided, no part passes 48 bytes, and a field begins the next part only where it would not fit. The parts of
an item are its fields (StatusFieldsHeld) so packed, and they hold every field whole as long as each fits a
part. -/
def Obligations.StatusPartsHoldWholeFields : Prop :=
  let packed (fields parts : List (List Byte)) : Prop :=
    ∃ groups : List (List (List Byte)), groups.flatten = fields ∧
      parts = groups.map List.flatten ∧ (∀ g ∈ groups, g.flatten.length ≤ 48) ∧
      ∀ (i : Nat) (g h : List (List Byte)) (f : List Byte), groups[i]? = some g →
        groups[i + 1]? = some h → h.head? = some f → 48 < g.flatten.length + f.length
  (∀ fields : List (List Byte), (∀ f ∈ fields, f.length ≤ 48) → packed fields (packParts [] fields)) ∧
  ∀ (s : State) (p : Port) (item : StatusItem), (∀ f ∈ statusFields s p item, f.length ≤ 48) →
    packed (statusFields s p item) (statusParts s p item)

/-- READ_PLAN answers the item of the plan its source names, NOT_AVAILABLE where there is none, and
INVALID_FIELD at the first field outside its range (R40, R41, R45, R156, R172). The bytes of each item are those
of R175; that the bytes of an absent fallback are 0 is the model's choice (assumption 16). -/
def Obligations.ReadPlanAnswers : Prop :=
  let b1 (n : Nat) : List Byte := [BitVec.ofNat 8 n]
  let b2 (n : Nat) : List Byte := [BitVec.ofNat 8 (n / 256), BitVec.ofNat 8 n]
  let b4 (n : Nat) : List Byte := [BitVec.ofNat 8 (n / 16777216), BitVec.ofNat 8 (n / 65536),
    BitVec.ofNat 8 (n / 256), BitVec.ofNat 8 n]
  let lo (l : Option Nat) : List Byte := match l with | none => [0, 0, 0, 0] | some l => b4 l
  let carried (plan : Plan) (item : PlanItem) : List Byte := match item with
    | .header => b4 plan.issue
        ++ (match plan.origin with
          | .a => [0] | .b => [1] | .storeSite => [2] | .storeDefault => [3] | .empty => [4])
    | .chain (.rx r) => lo (plan.rx.get r)
    | .chain (.tx x) =>
      let c := plan.tx.get x
      (if c.enabled then 1 else 0) :: lo c.lo ++ b1 c.rampUnit ++ b1 c.driveSettle ++ b1 c.paDischarge
    | .slot n => match plan.slots.get n with
      | none => List.replicate 21 0
      | some e =>
        1 :: (match e.inputChain with | .rx0 => 0 | .rx1 => 1) :: b4 e.inputFrequency
          ++ (match e.outputChain with | .tx0 => 2 | .tx1 => 3 | .tx2 => 4 | .tx3 => 5)
          :: b4 e.outputFrequency ++ b1 e.bandwidthClass.val ++ b2 e.share
          ++ BitVec.ofInt 8 e.threshold :: match e.fallback with
            | none => [0, 0, 0, 0, 0, 0]
            | some f => 1 :: (match f.chain with | .rx0 => 0 | .rx1 => 1) :: b4 f.frequency
    | .profile false =>
      let v := plan.severities
      [v.refAbsent, v.txLoLost, v.txLoUnverified, v.paFault, v.refExpired, v.supplyWarning, v.paWarning,
        v.refHoldover, v.linksSilent].map fun l => BitVec.ofNat 8 l.val
    | .profile true =>
      let l := plan.limits
      b2 l.recoveryHold ++ b1 l.tripLimit ++ b1 l.tripWindow ++ b2 l.holdoverAllowance
        ++ b1 l.qualifyTime ++ b1 l.lossConfirm ++ b2 l.restoreConfirm ++ b1 l.restoreVisits
        ++ b1 l.attempts ++ b1 l.settle ++ b1 l.gateExponent ++ b1 l.countTolerance
        ++ b2 l.auditInterval ++ b2 l.retryHold ++ b2 l.probation ++ b1 l.linkSilence
  ∀ (s : State) (p : Port) (tag : Byte) (fill : Nat), s.phase = .running →
    let u := s.framed p (9 + fill)
    (∀ (src : PlanSource) (item : PlanItem) (x y : Byte),
      let found : Option Plan := match src with
        | .active => some u.pe.active
        | .staged => if u.pe.grant = some p then u.pe.staged else none
        | .pending => match u.pe.pendingApply with
          | none => none
          | some ⟨.commit plan, _, _⟩ => some plan
          | some ⟨.revert, _, _⟩ => u.pe.entry 0
        | .history k => u.pe.entry k
        | .site => if (u.record .site).status = .valid then some (storedPlan (u.record .site).image)
            else none
        | .dflt => if (u.record .dflt).status = .valid then some (storedPlan (u.record .dflt).image)
            else none
      (∀ plan, found = some plan →
        exec (.readPlan p tag ⟨src.request x ++ item.request y, fill⟩) s
          = .next (u.answered p 2 tag .ok (carried plan item))) ∧
      (found = none →
        exec (.readPlan p tag ⟨src.request x ++ item.request y, fill⟩) s
          = .next (u.answered p 2 tag .notAvailable []))) ∧
    (∀ (a b c d : Byte) (i : Nat),
      FailsAt [a.toNat ≤ 5, a = 3 → b.toNat ≤ 3, c.toNat ≤ 3, (c = 1 → d.toNat ≤ 5)
        ∧ (c = 2 → d.toNat ≤ 15) ∧ (c = 3 → d.toNat ≤ 1)] i →
      exec (.readPlan p tag ⟨[a, b, c, d], fill⟩) s
        = .next (u.answered p 2 tag .invalidField [BitVec.ofNat 8 i]))

/-! ## The grant and the staged plan -/

/-- The edit grant. TAKE_EDIT in its three states (R36). RELEASE_EDIT from the holder: OK, the grant FREE, the
staged plan discarded, and nothing else of the Plan Engine changed, the pending apply least of all; no notice is
raised (R38). -/
def Obligations.EditGrantMoves : Prop :=
  ∀ (s : State) (p : Port) (tag : Byte) (fill : Nat), s.phase = .running →
    let u := s.framed p (5 + fill)
    (u.pe.grant = none → ∀ base : Plan,
      (match u.pe.pendingApply with
        | some ⟨.commit plan, _, _⟩ => base = plan
        | _ => base = u.pe.active) →
      exec (.takeEdit p tag ⟨[], fill⟩) s
        = .next (({ u with pe := { u.pe with grant := some p, staged := some base } }).answered p 4 tag
            .ok (bytes4 base.issue ++ byte (originCode base.origin)))) ∧
    (∀ plan, u.pe.grant = some p → u.pe.staged = some plan →
      exec (.takeEdit p tag ⟨[], fill⟩) s
        = .next (u.answered p 4 tag .ok (bytes4 plan.issue ++ byte (originCode plan.origin)))) ∧
    (u.pe.grant = some p.other →
      exec (.takeEdit p tag ⟨[], fill⟩) s = .next (u.answered p 4 tag .heldByOther [])) ∧
    (s.pe.grant = some p →
      exec (.releaseEdit p tag ⟨[], fill⟩) s
        = .next (({ u with pe := { u.pe with grant := none, staged := none } }).answered p 5 tag .ok []))

/-- The four edits (SET_CHAIN, SET_SLOT, CLEAR_SLOT and SET_PROFILE) from the holder, laid out as R175 gives
with every field in its range, replace their item of the staged plan whole and touch nothing else (R10 to R13,
R40). The bytes of the items (R175) are spelled out; that those of an absent fallback are 0 is the model's
choice (assumption 16). -/
def Obligations.EditsTaken : Prop :=
  (let b1 (n : Nat) : List Byte := [BitVec.ofNat 8 n]
   let b2 (n : Nat) : List Byte := [BitVec.ofNat 8 (n / 256), BitVec.ofNat 8 n]
   let b4 (n : Nat) : List Byte := [BitVec.ofNat 8 (n / 16777216), BitVec.ofNat 8 (n / 65536),
     BitVec.ofNat 8 (n / 256), BitVec.ofNat 8 n]
   loBytes none = [0, 0, 0, 0] ∧ (∀ l, loBytes (some l) = b4 l) ∧
   (∀ c : TxSettings, txBytes c = (if c.enabled then 1 else 0) :: loBytes c.lo ++ b1 c.rampUnit
     ++ b1 c.driveSettle ++ b1 c.paDischarge) ∧
   slotBytes none = List.replicate 21 0 ∧
   (∀ e : SlotEntry, slotBytes (some e) =
     1 :: (match e.inputChain with | .rx0 => 0 | .rx1 => 1) :: b4 e.inputFrequency
       ++ (match e.outputChain with | .tx0 => 2 | .tx1 => 3 | .tx2 => 4 | .tx3 => 5)
       :: b4 e.outputFrequency ++ b1 e.bandwidthClass.val ++ b2 e.share
       ++ BitVec.ofInt 8 e.threshold :: match e.fallback with
         | none => [0, 0, 0, 0, 0, 0]
         | some f => 1 :: (match f.chain with | .rx0 => 0 | .rx1 => 1) :: b4 f.frequency) ∧
   (∀ v : Severities, severityBytes v =
     [v.refAbsent, v.txLoLost, v.txLoUnverified, v.paFault, v.refExpired, v.supplyWarning, v.paWarning,
       v.refHoldover, v.linksSilent].map fun l => BitVec.ofNat 8 l.val) ∧
   (∀ l : Limits, limitBytes l = b2 l.recoveryHold ++ b1 l.tripLimit ++ b1 l.tripWindow
     ++ b2 l.holdoverAllowance ++ b1 l.qualifyTime ++ b1 l.lossConfirm ++ b2 l.restoreConfirm
     ++ b1 l.restoreVisits ++ b1 l.attempts ++ b1 l.settle ++ b1 l.gateExponent ++ b1 l.countTolerance
     ++ b2 l.auditInterval ++ b2 l.retryHold ++ b2 l.probation ++ b1 l.linkSilence)) ∧
  ∀ (s : State) (p : Port) (tag : Byte) (plan : Plan) (fill : Nat), s.phase = .running → s.pe.grant = some p →
    s.pe.staged = some plan →
    let taken (n : Nat) (code : Byte) (edited : Plan) : Host.Outcome State Fault Refusal :=
      let u := s.framed p (n + 5 + fill)
      .next (({ u with pe := { u.pe with staged := some edited } }).answered p code tag .ok [])
    (∀ (r : Rx) (lo : Option Nat) (e a b c : Byte), (∀ l, lo = some l → legalLo l) →
      exec (.setChain p tag ⟨byte (chainCode (.rx r)) ++ [e] ++ loBytes lo ++ [a, b, c], fill⟩) s
        = taken 9 6 { plan with rx := plan.rx.put r lo }) ∧
    (∀ (x : Tx) (c : TxSettings), c.Legal →
      exec (.setChain p tag ⟨byte (chainCode (.tx x)) ++ txBytes c, fill⟩) s
        = taken 9 6 { plan with tx := plan.tx.put x c }) ∧
    (∀ (n : Slot) (e : SlotEntry), e.Legal →
      exec (.setSlot p tag ⟨byte n.val ++ (slotBytes (some e)).tail, fill⟩) s
        = taken 21 7 { plan with slots := plan.slots.put n (some e) }) ∧
    (∀ n : Slot,
      exec (.clearSlot p tag ⟨byte n.val, fill⟩) s
        = taken 1 8 { plan with slots := plan.slots.put n none }) ∧
    (∀ (v : Severities) (rest : List Byte), rest.length = 13 →
      exec (.setProfile p tag ⟨0 :: severityBytes v ++ rest, fill⟩) s
        = taken 23 9 { plan with severities := v }) ∧
    (∀ l : Limits, l.Legal →
      exec (.setProfile p tag ⟨1 :: limitBytes l, fill⟩) s = taken 23 9 { plan with limits := l })

/-- An edit with a field out of its range is refused with INVALID_FIELD at the position of the first that
fails, and leaves the staged plan as it was (R10 to R13). That the LO nominal of a receive SET_CHAIN stands at
position 3, after the enabled byte that is not examined there, is the model's reading (DEDUCED, assumption
16). Profile part 1 is read as it is laid out, `limitsAt` taking back what `limitBytes` lays out. -/
def Obligations.EditsRefused : Prop :=
  (∀ (l : Limits) (b : Byte), l.Fits → limitsAt (b :: limitBytes l) 1 = l) ∧
  ∀ (s : State) (p : Port) (tag : Byte) (b : List Byte) (i fill : Nat), s.phase = .running →
    s.pe.grant = some p →
    let refused (code : Byte) : Host.Outcome State Fault Refusal :=
      .next ((s.framed p (b.length + 5 + fill)).answered p code tag .invalidField [BitVec.ofNat 8 i])
    (b.length = 9 →
      FailsAt [byteAt b 0 ≤ 5, 2 ≤ byteAt b 0 → byteAt b 1 ≤ 1, field4 b 2 = 0 ∨ legalLo (field4 b 2),
        2 ≤ byteAt b 0 → 1 ≤ byteAt b 6 ∧ byteAt b 6 ≤ 64, 2 ≤ byteAt b 0 → 1 ≤ byteAt b 7,
        2 ≤ byteAt b 0 → 1 ≤ byteAt b 8] i →
      exec (.setChain p tag ⟨b, fill⟩) s = refused 6) ∧
    (b.length = 21 →
      FailsAt [byteAt b 0 ≤ 15, byteAt b 1 ≤ 1, True, 2 ≤ byteAt b 6 ∧ byteAt b 6 ≤ 5, True,
        byteAt b 11 ≤ 7, 1 ≤ field2 b 12 ∧ field2 b 12 ≤ 1024,
        -100 ≤ signedAt b 14 ∧ signedAt b 14 ≤ -20, byteAt b 15 ≤ 1,
        byteAt b 15 = 1 → byteAt b 16 ≤ 1, True] i →
      exec (.setSlot p tag ⟨b, fill⟩) s = refused 7) ∧
    (b.length = 1 → FailsAt [byteAt b 0 ≤ 15] i → exec (.clearSlot p tag ⟨b, fill⟩) s = refused 8) ∧
    (b.length = 23 →
      FailsAt [byteAt b 0 ≤ 1] i ∨
        (byteAt b 0 = 0 ∧ FailsAt (True :: (List.range 9).map fun k => byteAt b (k + 1) ≤ 3) i) ∨
        (byteAt b 0 = 1 ∧ FailsAt (True :: (limitsAt b 1).ranges) i) →
      exec (.setProfile p tag ⟨b, fill⟩) s = refused 9)

/-! ## Commit, cancel, revert -/

/-- Commit validation (R14 to R17): the first check that fails, in the order of the five groups, gives the
failure with the item it names, and a plan that passes every check has none. The checks: an enabled transmit
chain has an LO; each present slot in ascending order through RX_UNUSED, INPUT_WINDOW, FALLBACK_UNUSED,
FALLBACK_WINDOW, FALLBACK_SAME and OUTPUT_WINDOW; at most 8 slots on a chain; no two slots of a chain that
share more than one point of the air, by lower and then by higher slot; and the issue counter below its limit.
The widths of the bandwidth classes are those of R5.
The window test is made on exact values, here in units of 2^-25 Hz from the achieved LO of 10 MHz times N + F
/ 2^24 (R20, R25). -/
def Obligations.PlanValidated : Prop :=
  (List.finRange 8).map bandwidth = [25000, 200000, 500000, 1600000, 5000000, 6000000, 7000000, 8000000] ∧
  ∀ (p : Plan) (last : Nat),
    let inside (f lo : Nat) (k : Fin 8) : Prop :=
      let w := dividerWords lo
      2 * ((f : Int) * 2 ^ 24 - 10000000 * (2 ^ 24 * w.n + w.f)).natAbs + bandwidth k * 2 ^ 24
        ≤ 28000000 * 2 ^ 24
    let ofSlot (r : InvalidReason) (n : Slot) : PlanFailure :=
      { reason := r, chain := none, slot := some n, second := none }
    let ofChain (r : InvalidReason) (x : Tx) : PlanFailure :=
      { reason := r, chain := some x, slot := none, second := none }
    let slotChecks (n : Slot) : List (PlanFailure × Prop) :=
      match p.slots.get n with
      | none => []
      | some e =>
        [(ofSlot .rxUnused n, (p.rx.get e.inputChain).isSome = true),
         (ofSlot .inputWindow n,
           ∀ lo, p.rx.get e.inputChain = some lo → inside e.inputFrequency lo e.bandwidthClass),
         (ofSlot .fallbackUnused n,
           ∀ fb, e.fallback = some fb → (p.rx.get fb.chain).isSome = true),
         (ofSlot .fallbackWindow n, ∀ fb lo, e.fallback = some fb → p.rx.get fb.chain = some lo →
           inside fb.frequency lo e.bandwidthClass),
         (ofSlot .fallbackSame n, e.fallback ≠ some ⟨e.inputChain, e.inputFrequency⟩),
         (ofSlot .outputWindow n, ∀ lo, (p.tx.get e.outputChain).lo = some lo →
           inside e.outputFrequency lo e.bandwidthClass)]
    let apart (x : Tx) (i j : Slot) : Prop :=
      ∀ a b, p.slots.get i = some a → p.slots.get j = some b → a.outputChain = x → b.outputChain = x →
        2 * (a.outputFrequency : Int) + bandwidth a.bandwidthClass
            ≤ 2 * (b.outputFrequency : Int) - bandwidth b.bandwidthClass ∨
          2 * (b.outputFrequency : Int) + bandwidth b.bandwidthClass
            ≤ 2 * (a.outputFrequency : Int) - bandwidth a.bandwidthClass
    let checks : List (PlanFailure × Prop) :=
      (allTx.map fun x =>
        (ofChain .txLoMissing x, (p.tx.get x).enabled = true → (p.tx.get x).lo.isSome = true)) ++
      allSlots.flatMap slotChecks ++
      (allTx.map fun x => (ofChain .chainFull x, (allSlots.filter (p.onChain x)).length ≤ 8)) ++
      (allTx.flatMap fun x => allSlots.flatMap fun i =>
        (allSlots.filter fun j => decide (i < j)).map fun j =>
          ({ reason := .overlap, chain := some x, slot := some i, second := some j }, apart x i j)) ++
      [({ reason := .issueLimit, chain := none, slot := none, second := none }, last ≠ 4294967295)]
    (p.validate last = none ↔ ∀ c ∈ checks, c.2) ∧
    ∀ f : PlanFailure, p.validate last = some f ↔
      ∃ before after check, checks = before ++ (f, check) :: after ∧ (∀ c ∈ before, c.2) ∧ ¬check

/-- COMMIT from the holder: APPLY_PENDING, then validation, then the new issue, the clamped severities and the
pending record, with the two lists in the reply (R42): the minimum severities (R7), the kinds raised and the
chains scaled as masks with no other bit set (R18, R19, R175), and the codes of the reasons. What validation
finds is PlanValidated. -/
def Obligations.CommitExamined : Prop :=
  [Condition.refAbsent, .txLoLost, .txLoUnverified, .paFault, .refExpired, .supplyWarning, .paWarning,
    .refHoldover, .linksSilent].map minimumSeverity = [2, 2, 2, 2, 1, 0, 0, 0, 0] ∧
  [Tx.tx0, .tx1, .tx2, .tx3].map txIndex = [0, 1, 2, 3] ∧
  [InvalidReason.txLoMissing, .rxUnused, .inputWindow, .fallbackUnused, .fallbackWindow, .fallbackSame,
    .outputWindow, .chainFull, .overlap, .issueLimit].map reasonCode = [1, 2, 3, 4, 5, 6, 7, 8, 9, 10] ∧
  ∀ (s : State) (p : Port) (tag : Byte) (plan : Plan) (fill : Nat), s.phase = .running → s.pe.grant = some p →
    s.pe.staged = some plan →
    let u := s.framed p (5 + fill)
    let issue := u.pe.lastIssued + 1
    (u.pe.pendingApply.isSome = true →
      exec (.commit p tag ⟨[], fill⟩) s = .next (u.answered p 0x0A tag .applyPending [])) ∧
    (∀ f : PlanFailure, u.pe.pendingApply = none → plan.validate u.pe.lastIssued = some f →
      exec (.commit p tag ⟨[], fill⟩) s = .next (u.answered p 0x0A tag .planInvalid
        (byte (reasonCode f.reason) ++ byte ((f.chain.map fun t => chainCode (.tx t)).getD 255)
          ++ byte ((f.slot.map Fin.val).getD 255) ++ byte ((f.second.map Fin.val).getD 255)))) ∧
    (u.pe.pendingApply = none → plan.validate u.pe.lastIssued = none →
      ∃ (made : Plan) (clamped scaled : Nat),
        made = { plan with issue := issue, origin := (match p with | .a => .a | .b => .b)
                           severities := made.severities } ∧
        (∀ k, made.severities.of k = max (plan.severities.of k) (minimumSeverity k)) ∧
        (∀ k, clamped.testBit (conditionCode k - 1) = decide (plan.severities.of k < minimumSeverity k)) ∧
        (∀ x, scaled.testBit (txIndex x) = decide (1024 < plan.shareSum x)) ∧
        clamped < 32 ∧ scaled < 16 ∧
        exec (.commit p tag ⟨[], fill⟩) s = .next (({ u with
            pe := { u.pe with
              lastIssued := issue
              staged := some made
              pendingApply := some
                { change := .commit made, issue := issue
                  requestedBy := (match p with | .a => .a | .b => .b) } } }).answered p 0x0A tag .ok
          (bytes4 issue ++ byte clamped ++ byte scaled)))

/-- The two requests that reach the pending apply. CANCEL_COMMIT from the holder removes it, whatever its kind
and requester, and answers its kind and issue, with COMMIT_CANCELLED on both ports; with nothing pending it is
refused (R43). REVERT from the holder: HISTORY_EMPTY, then APPLY_PENDING, then a pending REVERT with the issue
of the entry at TOP; the history and the staged plan stay as they are (R44). -/
def Obligations.PendingMovedByHolder : Prop :=
  ∀ (s : State) (p : Port) (tag : Byte) (fill : Nat), s.phase = .running → s.pe.grant = some p →
    let u := s.framed p (5 + fill)
    (u.pe.pendingApply = none →
      exec (.cancelCommit p tag ⟨[], fill⟩) s = .next (u.answered p 0x0B tag .nothingPending [])) ∧
    (∀ r : PendingApply, u.pe.pendingApply = some r →
      exec (.cancelCommit p tag ⟨[], fill⟩) s
        = .next ((({ u with pe := { u.pe with pendingApply := none } }).notifyBoth
            .commitCancelled).answered p 0x0B tag .ok
          ((match r.change with | .commit _ => 0 | .revert => 1) :: bytes4 r.issue))) ∧
    ((∀ k, u.pe.entry k = none) →
      exec (.revert p tag ⟨[], fill⟩) s = .next (u.answered p 0x0C tag .historyEmpty [])) ∧
    (∀ k plan, u.pe.entry k = some plan → u.pe.pendingApply.isSome = true →
      exec (.revert p tag ⟨[], fill⟩) s = .next (u.answered p 0x0C tag .applyPending [])) ∧
    (∀ top : Plan, u.pe.entry 0 = some top → u.pe.pendingApply = none →
      exec (.revert p tag ⟨[], fill⟩) s = .next (({ u with
          pe := { u.pe with
            pendingApply := some
              { change := .revert, issue := top.issue
                requestedBy := (match p with | .a => .a | .b => .b) } } }).answered p 0x0C tag .ok
        (bytes4 top.issue)))

/-! ## The other requests -/

/-- RESTORE_CHAIN from the holder (R147): the trip list is emptied and its length answered; a locked-out chain
leaves the lockout set, with a SITE write, CHAIN_CHANGED, and its sequencer's decision: from LOCKED_OUT to
OFF, and at once to TUNING or DRIVE_SETTLE where the chain is wanted on (R126, R133); from RAMP_DOWN the
sequence runs to its end (R133; that R133 and not R129 decides there is the model's choice, assumption 29),
and PA_DISCHARGE to its expiry (R130). That the reply's lockout-cleared byte is 1 for yes is the model's
choice (assumption 8). -/
def Obligations.RestoreChainClears : Prop :=
  ∀ (s : State) (p : Port) (tag : Byte) (fill : Nat), s.phase = .running → s.pe.grant = some p →
    let u := s.framed p (6 + fill)
    (∀ b : Byte, b.toNat < 2 ∨ 5 < b.toNat →
      exec (.restoreChain p tag ⟨[b], fill⟩) s = .next (u.answered p 0x0D tag .invalidField [1])) ∧
    ∀ x : Tx,
      let c := u.protection x
      let v := u.setProtection x { c with trips := [], lockedOut := false }
      let w := v.requestSite.notifyBoth .chainChanged
      (c.lockedOut = false →
        exec (.restoreChain p tag ⟨byte (chainCode (.tx x)), fill⟩) s
          = .next (v.answered p 0x0D tag .ok [0, BitVec.ofNat 8 c.trips.length])) ∧
      (c.lockedOut = true →
        let t := (w.setSeq x
          { w.seq x with
            runDown := (w.seq x).runDown || decide ((w.seq x).state = .rampDown) }).decideSeq x
        exec (.restoreChain p tag ⟨byte (chainCode (.tx x)), fill⟩) s
          = .next (t.answered p 0x0D tag .ok [1, BitVec.ofNat 8 c.trips.length]) ∧
        ((w.seq x).state = .lockedOut ∨ (w.seq x).state = .rampDown ∨ (w.seq x).state = .paDischarge →
          t.protection x = { c with trips := [], lockedOut := false }) ∧
        ((w.seq x).state = .lockedOut →
          (t.seq x).state = (if w.wantedOn x = true then
            (if w.tuned x = true then .driveSettle else .tuning) else .off)) ∧
        ((w.seq x).state = .rampDown →
          (t.seq x).state = (if w.currentSum x = 0 then .paDischarge else .rampDown)) ∧
        ((w.seq x).state = .paDischarge → t.seq x = w.seq x))

/-- MEASURE from either port (R90), in every state of the synthesizer; from FAILED it withdraws TX_LO_UNVERIFIED
(R83). How a synthesizer joins the queue and how a measurement starts is RetryAndAuditStart. -/
def Obligations.MeasureServed : Prop :=
  ∀ (s : State) (p : Port) (tag : Byte) (fill : Nat), s.phase = .running →
    let u := s.framed p (6 + fill)
    (∀ b : Byte, 5 < b.toNat →
      exec (.measure p tag ⟨[b], fill⟩) s = .next (u.answered p 0x0E tag .invalidField [1])) ∧
    ∀ c : Chain,
      let x := u.synth c
      let asked := exec (.measure p tag ⟨byte (chainCode c), fill⟩) s
      (x.state = .verified → x.auditing = false →
        asked = .next ((((u.setSynth c { x with audit := none, auditing := true }).joinQueue c
          true).startMeasurement).answered p 0x0E tag .ok [])) ∧
      (x.state = .verified → x.auditing = true → asked = .next (u.answered p 0x0E tag .ok [])) ∧
      (x.state = .failed →
        let v := u.setSynth c
          { x with
            retry := none, attempts := 1, state := .programming
            transfer := .programming (dividerWords (x.wanted.getD 0))
            output := .disabled }
        asked = .next ((v.withdrawSynth c).answered p 0x0E tag .ok []) ∧
        (∀ r, c = .rx r → v.withdrawSynth c = v) ∧
        ∀ y, c = .tx y →
          { v.withdrawSynth c with pu := v.pu } = v ∧
          ((v.withdrawSynth c).protection y).present
            = { (v.protection y).present with txLoLost := x.lost, txLoUnverified := false }) ∧
      (x.state ≠ .verified → x.state ≠ .failed →
        asked = .next (u.answered p 0x0E tag .notAvailable []))

/-- STORE_DEFAULT from the holder (R157): CHAINS_ACTIVE while any sequencer is in a state other than OFF or
LOCKED_OUT, and otherwise a copy of the active plan becomes the DEFAULT record's pending content.
CLEAR_RESET_CAUSE from either port (R160). -/
def Obligations.StoreAndCauseRequested : Prop :=
  (∀ (s : State) (p : Port) (tag : Byte) (fill : Nat), s.phase = .running → s.pe.grant = some p →
    let u := s.framed p (5 + fill)
    (∀ x, (u.seq x).state ≠ .off → (u.seq x).state ≠ .lockedOut →
      exec (.storeDefault p tag ⟨[], fill⟩) s = .next (u.answered p 0x0F tag .chainsActive [])) ∧
    ((∀ x, (u.seq x).state = .off ∨ (u.seq x).state = .lockedOut) →
      exec (.storeDefault p tag ⟨[], fill⟩) s = .next (((u.setRecord .dflt
        { u.record .dflt with
          pendingContent := some { plan := u.pe.active, lockout := ⟨false, false, false, false⟩ }
          retryUsed := false }).writerStart).answered p 0x0F tag .ok []))) ∧
  ∀ (s : State) (p : Port) (tag : Byte) (fill : Nat), s.phase = .running →
    let u := s.framed p (5 + fill)
    exec (.clearResetCause p tag ⟨[], fill⟩) s = .next (({ u with
        supply := { u.supply with undervoltageSeen := false }
        store := { u.store with
          records := ⟨{ u.store.records.site with failures := 0 },
            { u.store.records.dflt with failures := 0 }⟩ } }).answered p 0x10 tag .ok [])

/-! ## Arithmetic and stored records -/

/-- A stored record is laid out as R176 gives: format byte, header, chain items, slots, the two profile parts,
for SITE the lockout mask, and the CRC-32 of all after the format byte. It reads back: the image of a content
has the size of R176, passes the check of a VALID record, and spells the plan with its header, and for SITE
the lockout set (R152, R176). -/
def Obligations.StoredRecordsReadBack : Prop :=
  (let bit (c : BitVec 32) : BitVec 32 := if c.getLsbD 0 then (c >>> 1) ^^^ 0xEDB88320 else c >>> 1
   crc32 [] = 0 ∧
   (∀ (bs : List Byte) (b : Byte),
     crc32 (bs ++ [b]) = ~~~(bit^[8] (~~~crc32 bs ^^^ b.zeroExtend 32))) ∧
   crc32 [0x31, 0x32, 0x33, 0x34, 0x35, 0x36, 0x37, 0x38, 0x39] = 0xCBF43926) ∧
  (∀ (r : RecordName) (c : Content),
    let plan := bytes4 c.plan.issue ++ byte (originCode c.plan.origin)
      ++ [Rx.rx0, .rx1].flatMap (fun x => loBytes (c.plan.rx.get x))
      ++ [Tx.tx0, .tx1, .tx2, .tx3].flatMap (fun x => txBytes (c.plan.tx.get x))
      ++ (List.finRange 16).flatMap (fun n => slotBytes (c.plan.slots.get n))
      ++ severityBytes c.plan.severities ++ limitBytes c.plan.limits
    let mask (x : Tx) : Nat := if c.lockout.get x then 2 ^ txIndex x else 0
    let body := match r with
      | .site => plan ++ byte (mask .tx0 + mask .tx1 + mask .tx2 + mask .tx3)
      | .dflt => plan
    recordImage r c = 0x5A :: body ++ bytes4 (crc32 body).toNat) ∧
  ∀ (r : RecordName) (c : Content), c.plan.Fits →
    (recordImage r c).length = (match r with | .site => 418 | .dflt => 417) ∧
    (recordImage r c).head? = some 0x5A ∧ imageStatus r (recordImage r c) = .valid ∧
    storedPlan (recordImage r c) = c.plan ∧ storedLockout (recordImage .site c) = c.lockout ∧
    imageStatus r (erasedImage r) = .invalid

/-- The divider words of every LO on the raster (R20, R21): N in 5 to 100 and 100 only at 1,000,000,000 Hz, F at
most 16,775,538, and the achieved LO within half an F step of the nominal one, in units of 2^-24 Hz. -/
def Obligations.DividerWordsNearNominal : Prop :=
  ∀ lo : Nat, legalLo lo →
    let w := dividerWords lo
    5 ≤ w.n ∧ w.n ≤ 100 ∧ (w.n = 100 ↔ lo = 1000000000) ∧ (w.n = 100 → w.f = 0) ∧ w.f ≤ 16775538 ∧
    ((10000000 * 2 ^ 24 * w.n + 10000000 * w.f : Int) - lo * 2 ^ 24).natAbs ≤ 5000000

/-- The NCO word of an offset inside its window (R23, R24): the integer nearest to the exact value, the even one
at a half, at most 916,684,800 in magnitude, and held whole by the 32-bit word. The window is that of R25, with
the widths of R5, in units of 2^-25 Hz. -/
def Obligations.NcoWordsInRange : Prop :=
  (List.finRange 8).map bandwidth = [25000, 200000, 500000, 1600000, 5000000, 6000000, 7000000, 8000000] ∧
  ∀ (f : Nat) (w : DividerWords) (k : Fin 8),
    2 * ((f : Int) * 2 ^ 24 - 10000000 * (2 ^ 24 * w.n + w.f)).natAbs + bandwidth k * 2 ^ 24
      ≤ 28000000 * 2 ^ 24 →
    let exact : Int := 131072 * ((f : Int) - 10000000 * w.n) - 78125 * w.f
    (2000 * ncoInteger f w - exact).natAbs ≤ 1000 ∧
    ((2000 * ncoInteger f w - exact).natAbs = 1000 → ncoInteger f w % 2 = 0) ∧
    (ncoInteger f w).natAbs ≤ 916684800 ∧ (ncoWord f w).toInt = ncoInteger f w

/-- The effective shares of a chain (R30, R31): the assigned ones while their sum is at most 1024; scaled, they
sum to at most 1024 and lose less than one each; at level 1 the level-scaled shares sum to at most 512. -/
def Obligations.EffectiveSharesFit : Prop :=
  ∀ (p : Plan) (t : Tx),
    let on := allSlots.filter (p.onChain t)
    let total := (on.map p.effectiveShare).sum
    (∀ n, p.onChain t n = true ↔ ∃ e, p.slots.get n = some e ∧ e.outputChain = t) ∧
    p.shareSum t = (on.map fun n => match p.slots.get n with | none => 0 | some e => e.share).sum ∧
    (∀ n, p.slots.get n = none → p.effectiveShare n = 0) ∧
    (∀ n e, p.slots.get n = some e → e.outputChain = t →
      p.effectiveShare n =
        if p.shareSum t ≤ 1024 then e.share else e.share * 1024 / p.shareSum t) ∧
    total ≤ 1024 ∧ (p.shareSum t ≤ 1024 → total = p.shareSum t) ∧
    (1024 < p.shareSum t → 1025 ≤ total + on.length) ∧
    (on.map fun n => levelScaled (p.effectiveShare n) 1).sum ≤ 512

/-! ## Timers and marks -/

/-- A stopped timer's expiry does not happen, and an event of an idle line, writer, counter or of a
synthesizer outside VERIFIED changes nothing (R66, R76, R82, R88). That such a command has no effect, rather
than none being possible, is the model's choice (assumption 10). -/
def Obligations.StoppedTimersDoNothing : Prop :=
  ∀ s : State,
    (∀ p, (s.port p).silence = none → exec (.silenceExpiry p) s = .next s) ∧
    (s.pe.probation = none → exec .probationExpiry s = .next s) ∧
    (s.ref.qualify = none → exec .qualifyExpiry s = .next s) ∧
    (s.ref.holdover = none → exec .holdoverExpiry s = .next s) ∧
    (∀ c b, (s.synth c).settle = none → exec (.settleExpiry c b) s = .next s) ∧
    (∀ c, (s.synth c).retry = none → exec (.retryExpiry c) s = .next s) ∧
    (∀ c, (s.synth c).audit = none → exec (.auditExpiry c) s = .next s) ∧
    (∀ c, (s.synth c).state ≠ .verified → exec (.lockDrop c) s = .next s) ∧
    (∀ c, (s.synth c).transfer = .none →
      exec (.programmingComplete c) s = .next s ∧ exec (.powerDownTransferEnd c) s = .next s) ∧
    (s.fc.current = none →
      (∀ n, exec (.gateClose n) s = .next s) ∧ exec .measurementTimeout s = .next s) ∧
    (∀ t, (s.mixer t).timer = none → exec (.rampStepExpiry t) s = .next s) ∧
    (∀ t, (s.seq t).settleTimer = none → exec (.driveSettleExpiry t) s = .next s) ∧
    (∀ t, (s.seq t).dischargeTimer = none → exec (.paDischargeExpiry t) s = .next s) ∧
    (∀ t, (s.protection t).hold = none → exec (.recoveryHoldExpiry t) s = .next s) ∧
    (s.probe.timer = none →
      exec .discardHalfExpiry s = .next s ∧ ∀ r, exec (.judgeHalfExpiry r) s = .next s) ∧
    (s.store.inFlight = none → ∀ b, exec (.storeWriteCompletion b) s = .next s) ∧
    (∀ r, (s.record r).retry = none → exec (.storeRetryExpiry r) s = .next s) ∧
    (s.time.startDelay = none → exec .startUpSelection s = .next s)

/-- A second mark (SECOND_MARK, PPS_EDGE or SUBSTITUTED_MARK) with nothing pending counts the second, notes
the boundary, and has no other effect; a counted mark falls on the first boundary after LOCKED was left where
100 steps had passed by then; an edge in a state other than LOCKED, or nearer than 50 steps to the previous
mark, makes no mark (R46, R67, R68). -/
def Obligations.MarkWithNothingPending : Prop :=
  (∀ (c : Instr) (s u : State), MakesMark c s u → s.pe.pendingApply = none →
    exec c s = .next { u with
      time := { u.time with seconds := s.time.seconds + 1, lastMark := u.time.steps } }) ∧
  ∀ s : State,
    (s.phase = .held ∨ s.ref.state = .locked → exec .secondMark s = .next s) ∧
    (s.phase = .held ∨ s.ref.state ≠ .locked ∨ s.time.steps < s.time.lastMark + 50 →
      exec .ppsEdge s = .next s) ∧
    (s.phase = .held ∨ s.ref.state ≠ .locked → exec .substitutedMark s = .next s)

/-- A COMMIT-kind apply at its mark, SECOND_MARK, PPS_EDGE or SUBSTITUTED_MARK (R45 to R51, R169): the push,
the new active plan, its probation, the last-apply record, the notice, the SITE write, and the slots, ramp
units, delays and link silence times of the new plan; the rest of what the blocks take is ApplyHandsLanes and
ApplyHandsBlocks. The new plan's probation runs, and fails at once only where the apply itself locks a chain out
(R53 to R55). In sound states (`State.Sound`, every invariant that a step keeps). -/
def Obligations.CommitApplied : Prop :=
  ∀ (c : Instr) (s u : State) (p : PendingApply) (plan : Plan), MakesMark c s u →
    s.pe.pendingApply = some p → p.change = .commit plan → s.Sound →
    ∃ t, exec c s = .next t ∧ t.phase = s.phase ∧ t.supply = s.supply ∧ t.draws = u.draws ∧
      t.pending = s.pending ∧
      t.time = { u.time with seconds := s.time.seconds + 1, lastMark := u.time.steps } ∧
      (let e : PlanEngine :=
        { s.pe with
          active := plan
          status := if 0 < plan.limits.probation then .onProbation else .settled
          probation := if 0 < plan.limits.probation
            then some (u.time.steps + 100 * plan.limits.probation) else none
          pendingApply := none
          history := s.pe.history.set (s.pe.top - 1).val (some s.pe.active)
          top := s.pe.top - 1
          lastApply := some
            { kind := .commit, requestedBy := p.requestedBy, applied := plan.issue
              outgoing := s.pe.active.issue, discarded := (s.pe.entry 3).map Plan.issue
              markTime := s.time.seconds + 1 } }
      let added (x : Tx) := (s.protection x).lockedOut = false ∧ (t.protection x).lockedOut = true
      ((∀ x, ¬added x) ∨ plan.limits.probation = 0 → t.pe = e) ∧
      ∀ x, added x → 0 < plan.limits.probation →
        t.pe = { e with
          status := .settled, probation := none
          pendingApply := some
            { change := .revert, issue := s.pe.active.issue, requestedBy := .probation } }) ∧
      t.pe.entry 0 = some s.pe.active ∧ (∀ k : Fin 3, t.pe.entry k.succ = s.pe.entry k.castSucc) ∧
      (∀ q, t.told q .planApplied) ∧ t.Writes .site (fun content => content.plan = plan) ∧
      ((∀ n, (s.lane n).slot = s.pe.active.slots.get n) → ∀ n, (t.lane n).slot = plan.slots.get n) ∧
      (∀ x, (t.mixer x).rampUnit = (plan.tx.get x).rampUnit) ∧
      (∀ x, (t.seq x).driveSettle = (plan.tx.get x).driveSettle ∧
        (t.seq x).paDischarge = (plan.tx.get x).paDischarge) ∧
      (∀ q, (t.port q).linkSilence = plan.limits.linkSilence)

/-- A REVERT-kind apply at its mark, SECOND_MARK, PPS_EDGE or SUBSTITUTED_MARK (R45, R48 to R51): the pop, the
restored plan with its own header, no probation, the last-apply record, the notice, the SITE write, and the
slots, ramp units, delays and link silence times of the restored plan; the rest of what the blocks take is
ApplyHandsLanes and ApplyHandsBlocks. -/
def Obligations.RevertApplied : Prop :=
  ∀ (c : Instr) (s u : State) (p : PendingApply) (plan : Plan), MakesMark c s u →
    s.pe.pendingApply = some p → p.change = .revert → s.pe.entry 0 = some plan →
    ∃ t, exec c s = .next t ∧ t.phase = s.phase ∧ t.supply = s.supply ∧ t.draws = u.draws ∧
      t.pending = s.pending ∧
      t.time = { u.time with seconds := s.time.seconds + 1, lastMark := u.time.steps } ∧
      t.pe = { s.pe with
        active := plan
        status := .settled
        probation := none
        pendingApply := none
        history := s.pe.history.set s.pe.top.val none
        top := s.pe.top + 1
        lastApply := some
          { kind := .revert, requestedBy := p.requestedBy, applied := plan.issue
            outgoing := s.pe.active.issue, discarded := none, markTime := s.time.seconds + 1 } } ∧
      (∀ k : Fin 3, t.pe.entry k.castSucc = s.pe.entry k.succ) ∧ t.pe.entry 3 = none ∧
      (∀ q, t.told q .planReverted) ∧ t.Writes .site (fun content => content.plan = plan) ∧
      ((∀ n, (s.lane n).slot = s.pe.active.slots.get n) → ∀ n, (t.lane n).slot = plan.slots.get n) ∧
      (∀ x, (t.mixer x).rampUnit = (plan.tx.get x).rampUnit) ∧
      (∀ x, (t.seq x).driveSettle = (plan.tx.get x).driveSettle ∧
        (t.seq x).paDischarge = (plan.tx.get x).paDischarge) ∧
      (∀ q, (t.port q).linkSilence = plan.limits.linkSilence)

/-- What an apply of either kind does in the lanes, the mixers and the Input Supervisor, at its mark (R97, R99
to R101, R104, R118, R119): per slot by its change, the words, phases, shares, source and input record; a fast
mute where the source so set, or a receive LO handed over, leaves the lane on a chain that is not VERIFIED;
and a ramp from the current shares on every chain, whether or not a target has changed, with the new ramp
unit. The window in progress is void for a slot whose record is reset or whose lane enters or leaves HELD, but
at the very boundary where one has just been examined, where the next window begins as the lane then stands
(R110; for a reset record, assumption 11); it is counted as usual for a kept slot; and a visit of a kept slot
loses its cleanness where the primary synthesizer leaves VERIFIED (R116). Where the same apply makes a chain's
programmed words none, the words that use it are none (R97). That a lane keeps its transmit word where the new
plan gives its chain no LO and the programmed words stand (R100 against R15 and R22) is the model's choice
(assumption 34). In states that meet the invariants of LanesFollowPlan, ProtectionKept and CounterKept. -/
def Obligations.ApplyHandsLanes : Prop :=
  ∀ (c : Instr) (s u : State) (p : PendingApply) (plan : Plan), MakesMark c s u →
    s.pe.pendingApply = some p →
    (p.change = .commit plan ∨ (p.change = .revert ∧ s.pe.entry 0 = some plan)) →
    (∀ n, (s.lane n).slot = s.pe.active.slots.get n) → s.LevelSound → s.CounterSound →
    ∃ t, exec c s = .next t ∧ t.time.steps = u.time.steps ∧
      (∀ x, t.mixer x = { rampUnit := (plan.tx.get x).rampUnit, step := 0
                          timer := some (u.time.steps + (plan.tx.get x).rampUnit) }) ∧
      (∀ n, s.pe.active.slots.get n = none → plan.slots.get n = none →
        (t.lane n).current = (s.lane n).current ∧ { t.input n with windowVoid := true }
          = { s.input n with windowVoid := true } ∧ t.phaseOf n = u.phaseOf n ∧
        ((s.lane n).state.measured = false → t.input n = s.input n)) ∧
      (∀ n a, s.pe.active.slots.get n = some a → plan.slots.get n = none →
        t.lane n = { slot := none, state := .unassigned, primaryWord := none, fallbackWord := none
                     transmitWord := none, phaseReset := false, current := 0, target := 0, start := 0 } ∧
        t.phaseOf n = ⟨0, 0⟩ ∧ t.input n = State.reset.input n ∧ t.probe.visit ≠ some n) ∧
      ∀ n e, plan.slots.get n = some e →
        let l := t.lane n
        let word (chain : Chain) (f : Nat) (kept : Option Word) : Option Word :=
          match (t.synth chain).programmed with
          | none => none
          | some w => if (plan.lo chain).map dividerWords = some w then some (ncoWord f w) else kept
        let words (primary fallback transmit : Option Word) : Prop :=
          l.primaryWord = word (.rx e.inputChain) e.inputFrequency primary ∧
          (e.fallback = none → l.fallbackWord = none) ∧
          (∀ fb, e.fallback = some fb → l.fallbackWord = word (.rx fb.chain) fb.frequency fallback) ∧
          l.transmitWord = word (.tx e.outputChain) e.outputFrequency transmit
        let void : Bool := !(decide (s.time.lastWindow = u.time.steps) && l.state.measured)
        let fresh : Prop := (t.input n).inputState = some .livePrimary ∧ (t.input n).source = .primary ∧
          (t.input n).judgement = none ∧ (t.input n).lowCount = 0 ∧ (t.input n).goodCount = 0 ∧
          (t.input n).lastResult = none ∧ (t.input n).visitCounter = 0 ∧ (t.input n).lastVisit = none ∧
          (t.input n).windowVoid = void ∧ t.probe.visit ≠ some n
        l.slot = some e ∧ l.state = t.laneStateOf n ∧ l.target = t.targetOf n l.state ∧
        l.start = l.current ∧
        (s.pe.active.slots.get n = none →
          l.current = 0 ∧ words none none none ∧ t.phaseOf n = ⟨0, 0⟩ ∧ l.phaseReset = false ∧ fresh) ∧
        ∀ a, s.pe.active.slots.get n = some a →
          (a.outputChain ≠ e.outputChain →
            l.current = 0 ∧ words none none none ∧ t.phaseOf n = ⟨0, 0⟩ ∧ l.phaseReset = false) ∧
          (a.outputChain = e.outputChain →
            l.current = (if t.isVerified (.rx (e.sourceChain (t.input n).source)) = true
              then (s.lane n).current else 0) ∧
            words (if a.inputChain = e.inputChain then (s.lane n).primaryWord else none)
              (if a.fallback.map Fallback.chain = e.fallback.map Fallback.chain
                then (s.lane n).fallbackWord else none) (s.lane n).transmitWord ∧
            let retuned := (s.pe.active.tx.get e.outputChain).lo ≠ (plan.tx.get e.outputChain).lo
            ((s.lane n).phaseReset = true ∨ retuned →
              (l.phaseReset = true ∧ t.phaseOf n = u.phaseOf n) ∨
                (l.phaseReset = false ∧ t.phaseOf n = ⟨0, 0⟩)) ∧
            (¬((s.lane n).phaseReset = true ∨ retuned) →
              l.phaseReset = false ∧ t.phaseOf n = u.phaseOf n)) ∧
          (a.inputChain = e.inputChain ∧ a.inputFrequency = e.inputFrequency ∧ a.fallback = e.fallback →
            { t.input n with windowVoid := true } = { s.input n with windowVoid := true } ∧
            (l.state.measured ≠ (s.lane n).state.measured → (t.input n).windowVoid = void) ∧
            (l.state.measured = true → (s.lane n).state.measured = true →
              (s.lane n).state = s.laneStateOf n → a.outputChain = e.outputChain →
              (t.input n).windowVoid = (s.input n).windowVoid) ∧
            (s.probe.visit = some n →
              t.probe = { s.probe with
                clean := s.probe.clean &&
                  (!s.isVerified (.rx e.inputChain) || t.isVerified (.rx e.inputChain)) })) ∧
          (¬(a.inputChain = e.inputChain ∧ a.inputFrequency = e.inputFrequency ∧
            a.fallback = e.fallback) → fresh)

/-- What an apply of either kind does in the other blocks, at its mark: the sequencers' retune pending or
tuning LO handed over (R124, R132), the wanted LOs with the programming or power-down they start (R73 to R75),
the severities, S, levels and trip lists (R140, R141, R145, R148), the qualify and holdover expiries (R64) and
the audit timers (R84). In states that meet the invariants of ProtectionKept and of CounterKept, the sequencers'
among them. -/
def Obligations.ApplyHandsBlocks : Prop :=
  ∀ (c : Instr) (s u : State) (p : PendingApply) (plan : Plan), MakesMark c s u →
    s.pe.pendingApply = some p →
    (p.change = .commit plan ∨ (p.change = .revert ∧ s.pe.entry 0 = some plan)) →
    s.LevelSound → s.CounterSound → s.SequencersSound →
    ∃ t, exec c s = .next t ∧ t.time.steps = u.time.steps ∧
      (∀ x, let q := t.seq x
        ((s.seq x).state.live = false →
          q.handedOver = plan.tuningLo x ∧ q.retunePending = false ∧
          (t.synth (.tx x)).wanted = plan.tuningLo x) ∧
        ((s.seq x).state.live = true → q.state.live = true →
          q.retunePending = decide (plan.tuningLo x ≠ (s.synth (.tx x)).wanted) ∧
          q.handedOver = (s.seq x).handedOver ∧
          (t.synth (.tx x)).wanted = (s.synth (.tx x)).wanted) ∧
        ((s.seq x).state.live = true → q.state.live = false →
          q.handedOver = plan.tuningLo x ∧ q.retunePending = false ∧
          (t.synth (.tx x)).wanted = plan.tuningLo x)) ∧
      (∀ r, (t.synth (.rx r)).wanted = plan.rx.get r) ∧
      (∀ chain,
        let x := s.synth chain
        let y := t.synth chain
        (y.wanted = x.wanted → y.programmed = x.programmed ∧ y.attempts = x.attempts ∧
          y.transfer = x.transfer ∧ y.lost = x.lost ∧
          y.audit = (if s.pe.active.limits.auditInterval = plan.limits.auditInterval then x.audit
            else if plan.limits.auditInterval = 0 then none
            else if s.pe.active.limits.auditInterval = 0 ∧ x.state = .verified ∧ x.auditing = false
              then some (u.time.steps + 100 * plan.limits.auditInterval)
            else x.audit)) ∧
        (∀ l, y.wanted = some l → y.wanted ≠ x.wanted → x.transfer ≠ .powerDown →
          y.state = .programming ∧
          (x.state ≠ .programming →
            y.attempts = 1 ∧ y.transfer = .programming (dividerWords l) ∧ y.output = .disabled ∧
            (x.state ≠ .idle → y.audit = none ∧ y.settle = none ∧ y.retry = none)) ∧
          (x.state = .programming →
            y.attempts = 0 ∧ y.restartPending = true ∧ y.transfer = x.transfer)) ∧
        (y.wanted = none → y.wanted ≠ x.wanted → x.state ≠ .idle → x.state ≠ .programming →
          y.state = .idle ∧ y.programmed = none ∧ y.attempts = 0 ∧ y.lost = false ∧
          y.transfer = .powerDown)) ∧
      (∀ x, let b := s.protection x
        let a := t.protection x
        a.highest = highestSeverity plan.severities t.pu.device a.present ∧ a.highest ≤ a.level ∧
        b.level ≤ a.level ∧ a.trips.length ≤ max b.trips.length plan.limits.tripLimit ∧
        (b.lockedOut = true → a.lockedOut = true) ∧
        (b.level = a.level →
          a.lockedOut = b.lockedOut ∧
          a.trips = b.trips.drop (b.trips.length - plan.limits.tripLimit))) ∧
      let r := s.ref
      let old := s.pe.active.limits
      let new := plan.limits
      (r.state = .qualifying → old.qualifyTime ≠ new.qualifyTime →
        (u.time.steps < r.enteredAt + 100 * new.qualifyTime →
          t.ref = { r with qualify := some (r.enteredAt + 100 * new.qualifyTime) }) ∧
        (r.enteredAt + 100 * new.qualifyTime ≤ u.time.steps →
          t.ref.state = (if r.disciplined = true then .locked else .holdover) ∧
          t.ref.enteredAt = u.time.steps)) ∧
      (r.state = .holdover → old.holdoverAllowance ≠ new.holdoverAllowance →
        (new.holdoverAllowance = 0 → t.ref = { r with holdover := none }) ∧
        (0 < new.holdoverAllowance → u.time.steps < r.enteredAt + 6000 * new.holdoverAllowance →
          t.ref = { r with holdover := some (r.enteredAt + 6000 * new.holdoverAllowance) }) ∧
        (0 < new.holdoverAllowance → r.enteredAt + 6000 * new.holdoverAllowance ≤ u.time.steps →
          t.ref.state = .expired ∧ t.ref.enteredAt = u.time.steps)) ∧
      ((r.state = .qualifying → old.qualifyTime = new.qualifyTime) →
        (r.state = .holdover → old.holdoverAllowance = new.holdoverAllowance) → t.ref = r)

/-- The two ends of a probation. The expiry of its timer: the status becomes SETTLED without a revert (R53). A
synthesizer used by the active plan that enters FAILED (R54, R55, R78): the probation ends and a REVERT
requested by PROBATION is pending, in place of a COMMIT, which is cancelled with its notice; a pending REVERT is
left as it is. -/
def Obligations.ProbationEnds : Prop :=
  (∀ (p : Plan) (r : Rx) (x : Tx), p.uses (.rx r) = (p.rx.get r).isSome ∧
     p.uses (.tx x) = (p.tx.get x).enabled) ∧
  (∀ e : PlanEngine,
     let settled := { e with status := .settled, probation := none }
     ((∃ i q, e.pendingApply = some ⟨.revert, i, q⟩) → e.failProbation = settled) ∧
     ((∀ i q, e.pendingApply ≠ some ⟨.revert, i, q⟩) → e.failProbation = { settled with
       pendingApply := some
         { change := .revert, issue := ((e.entry 0).map Plan.issue).getD 0, requestedBy := .probation } })) ∧
  (∀ (s : State) (d : Nat), s.pe.probation = some d →
     exec .probationExpiry s = .next { s.advanceTo d with
       pe := { s.pe with status := .settled, probation := none } }) ∧
  (∀ (s : State) (r : Rx) (d : Nat), (s.synth (.rx r)).settle = some d →
     s.limits.attempts ≤ (s.synth (.rx r)).attempts → (s.pe.active.rx.get r).isSome = true →
     s.pe.status = .onProbation →
     ∃ t, exec (.settleExpiry (.rx r) false) s = .next t ∧ (∀ q, t.told q .synthFailed) ∧
       (s.pe.pendingApply = none →
         t.pe = { s.pe with
           status := .settled, probation := none
           pendingApply := some
             { change := .revert, issue := ((s.pe.entry 0).map Plan.issue).getD 0
               requestedBy := .probation } }) ∧
       (∀ plan i q, s.pe.pendingApply = some ⟨.commit plan, i, q⟩ →
         (∀ port, t.told port .commitCancelled) ∧
         t.pe = { s.pe with
           status := .settled, probation := none
           pendingApply := some
             { change := .revert, issue := ((s.pe.entry 0).map Plan.issue).getD 0
               requestedBy := .probation } }) ∧
       (∀ i q, s.pe.pendingApply = some ⟨.revert, i, q⟩ →
         t.pe = { s.pe with status := .settled, probation := none }))

/-! ## The reference -/

/-- The end of a presence window (R58 to R63, R65): the judgement of the count and the change of the
disciplined input move the state by the tables, with REFERENCE_CHANGED and the conditions of the new state;
where both act, in whichever order they are taken, the state ends ABSENT (R62; the order itself is a free
value, assumption 7). On entry into ABSENT a measurement in flight is spoiled (R89); on leaving it the head of
the queue is measured when the counter is free (R86). That a window judged absent ends a further step at a
boundary to which an expiry or a mark has moved the step count already is the model's choice (assumption 4). -/
def Obligations.PresenceWindowJudged : Prop :=
  ∀ (s : State) (edges : Nat) (level : Bool),
    (s.phase = .held → exec (.presenceWindowEnd edges level) s = .next s) ∧
    (s.phase ≠ .held →
      let present := decide (97000 ≤ edges ∧ edges ≤ 103000)
      let new : RefState :=
        if present = false then .absent
        else match s.ref.state with
          | .absent => .qualifying
          | .qualifying => .qualifying
          | .locked => if s.ref.disciplined = true ∧ level = false then .holdover else .locked
          | .holdover => if s.ref.disciplined = false ∧ level = true then .locked else .holdover
          | .expired => if s.ref.disciplined = false ∧ level = true then .locked else .expired
      ∃ t, exec (.presenceWindowEnd edges level) s = .next t ∧ t.phase = s.phase ∧
        t.supply = s.supply ∧ t.pending = s.pending ∧
        t.ref.state = new ∧ t.ref.lastCount = edges ∧ t.ref.disciplined = level ∧
        t.time.backup = s.time.backup + 1 ∧
        t.time.steps = s.time.steps + (if s.ref.state = .absent ∨ present = false then 1 else 0) ∧
        (new = s.ref.state →
          t.ref = { s.ref with lastCount := edges, disciplined := level } ∧ t.pu = s.pu ∧
            t.ports = s.ports ∧ t.pe = s.pe ∧ t.syn = s.syn ∧ t.fc = s.fc ∧ t.lanes = s.lanes ∧
            t.os = s.os ∧ t.store = s.store ∧ t.inputs = s.inputs) ∧
        (new ≠ s.ref.state →
          (∀ q, t.told q .referenceChanged) ∧ t.ref.enteredAt = t.time.steps ∧
          t.ref.qualify = (if new = .qualifying
            then some (t.time.steps + 100 * s.limits.qualifyTime) else none) ∧
          t.ref.holdover = (if new = .holdover ∧ 0 < s.limits.holdoverAllowance
            then some (t.time.steps + 6000 * s.limits.holdoverAllowance) else none) ∧
          t.pu.device = { s.pu.device with
            refAbsent := decide (new = .absent ∨ new = .qualifying)
            refHoldover := decide (new = .holdover), refExpired := decide (new = .expired) } ∧
          (new = .absent →
            (∀ m, t.fc.current = some m → m.spoiled = true) ∧
            ∀ m r, s.fc.current = some m → m.syn = .rx r →
              t.fc.current = some { m with spoiled := true }) ∧
          (s.ref.state = .absent → s.pu.device.refAbsent = true → s.pu.device.refHoldover = false →
            s.pu.device.refExpired = false →
            (∀ m, s.fc.current = some m → t.fc = s.fc) ∧
            (s.fc.queue = [] → t.fc = s.fc) ∧
            ∀ q rest, s.fc.current = none → s.fc.queue = q :: rest →
              ∃ m, t.fc = { s.fc with started := s.fc.started + 1, queue := rest, current := some m } ∧
                m.syn = q.syn ∧ m.audit = q.audit ∧ m.spoiled = false ∧ m.startedAt = 10 * t.time.steps ∧
                (q.audit = false → t.synth q.syn = { s.synth q.syn with state := .measuring }))))

/-- The expiries of the qualify and holdover timers (R60, R61, R63). -/
def Obligations.ReferenceTimersExpire : Prop :=
  ∀ (s : State) (d : Nat),
    (s.ref.qualify = some d →
      ∃ t, exec .qualifyExpiry s = .next t ∧ RefFrame (s.advanceTo d) t ∧
        t.time.steps = max s.time.steps d ∧
        t.ref.state = (if s.ref.disciplined = true then .locked else .holdover) ∧
        t.ref.qualify = none ∧
        t.ref.holdover = (if s.ref.disciplined = false ∧ 0 < s.limits.holdoverAllowance
          then some (t.time.steps + 6000 * s.limits.holdoverAllowance) else none) ∧
        (∀ q, t.told q .referenceChanged) ∧
        t.pu.device = { s.pu.device with
          refAbsent := false, refHoldover := !s.ref.disciplined, refExpired := false }) ∧
    (s.ref.holdover = some d →
      ∃ t, exec .holdoverExpiry s = .next t ∧ RefFrame (s.advanceTo d) t ∧
        t.time.steps = max s.time.steps d ∧
        t.ref.state = .expired ∧ t.ref.qualify = none ∧ t.ref.holdover = none ∧
        (∀ q, t.told q .referenceChanged) ∧
        t.pu.device = { s.pu.device with
          refAbsent := false, refHoldover := false, refExpired := true })

/-! ## Synthesizers and the counter -/

/-- PROGRAMMING_COMPLETE and POWER_DOWN_TRANSFER_END on a control line (R75, R76, R97): the three rows of
programming complete with the lanes' words taken again, and the end of a power-down with a programming that
waited for it. A restart pending with wanted LO none makes the programmed words none (R75); that the lanes'
words become none with them is the model's choice (assumption 31). -/
def Obligations.ControlLineEnds : Prop :=
  ∀ (s : State) (c : Chain),
    let x := s.synth c
    (∀ w, x.transfer = .programming w →
      ∃ t, exec (.programmingComplete c) s = .next t ∧ SynthFrame s t ∧ t.fc = s.fc ∧
        (x.restartPending = false →
          t.pu = s.pu ∧ t.synth c = { x with
            transfer := .none, output := .enabled, programmed := some w, state := .settling
            settle := some (s.time.steps + (s.limits.settle + 9) / 10) }) ∧
        (∀ l, x.restartPending = true → x.wanted = some l →
          t.pu = s.pu ∧ t.synth c = { x with
            transfer := .programming (dividerWords l), output := .disabled, programmed := some w
            state := .programming, attempts := 1, restartPending := false }) ∧
        (x.restartPending = true → x.wanted = none →
          t.synth c = { x with
            transfer := .powerDown, output := .enabled, programmed := none, state := .idle
            attempts := 0, lastVerdict := none, lastCount := none, lost := false
            restartPending := false }) ∧
        (x.restartPending = true → x.wanted = none → ∀ n e, (s.lane n).slot = some e →
          (t.lane n).primaryWord
              = (if .rx e.inputChain = c then none else (s.lane n).primaryWord) ∧
            (t.lane n).transmitWord
              = (if .tx e.outputChain = c then none else (s.lane n).transmitWord) ∧
            ∀ fb, e.fallback = some fb →
              (t.lane n).fallbackWord = (if .rx fb.chain = c then none else (s.lane n).fallbackWord)) ∧
        (x.restartPending = false ∨ x.wanted.isSome = true → x.programmed ≠ some w →
          ∀ n e, (s.lane n).slot = some e →
            let taken (chain : Chain) (f : Nat) (old : Option Word) : Option Word :=
              if chain = c ∧ (s.pe.active.lo c).map dividerWords = some w then some (ncoWord f w)
              else old
            (t.lane n).primaryWord
                = taken (.rx e.inputChain) e.inputFrequency (s.lane n).primaryWord ∧
              (t.lane n).transmitWord
                = taken (.tx e.outputChain) e.outputFrequency (s.lane n).transmitWord ∧
              ∀ fb, e.fallback = some fb →
                (t.lane n).fallbackWord
                  = taken (.rx fb.chain) fb.frequency (s.lane n).fallbackWord)) ∧
    (x.transfer = .powerDown →
      exec (.powerDownTransferEnd c) s = .next (s.setSynth c
        (if x.state = .programming then
          { x with transfer := .programming (dividerWords (x.wanted.getD 0)), output := .disabled
                   attempts := x.attempts + 1 }
        else { x with transfer := .none, output := .disabled })))

/-- The settle expiry (R77). With lock-detect asserted (R85, R86) the synthesizer joins the tail of the queue,
and its measurement starts at once, with E, T and the timeout of R28 and R29, when the counter is free and the
reference present. Deasserted (R78, R83) it is a failed attempt: a new programming below the limit, and at it
FAILED with its retry timer, SYNTH_FAILED, the probation failure of a used synthesizer, and TX_LO_UNVERIFIED
handed to the Protection Unit. -/
def Obligations.SettleExpiryExamined : Prop :=
  (∀ (s : State) (c : Chain) (d : Nat), s.CounterSound → (s.synth c).settle = some d →
     let x := s.synth c
     let g := s.limits.gateExponent
     ∃ t, exec (.settleExpiry c true) s = .next t ∧ SynthFrame (s.advanceTo d) t ∧ t.pu = s.pu ∧
       t.lanes = s.lanes ∧ (∀ other, other ≠ c → s.fc.queue = [] → t.synth other = s.synth other) ∧
       (s.fc.current.isSome = true ∨ s.ref.state = .absent →
         t.synth c = { x with settle := none, state := .queued } ∧
         t.fc = { s.fc with queue := s.fc.queue ++ [{ syn := c, audit := false }] }) ∧
       (s.fc.current = none → s.ref.state ≠ .absent → s.fc.queue = [] →
         let e := x.wanted.getD 0 / 1000 * 2 ^ g / 64
         let m : Measurement :=
           { number := s.fc.started + 1, startedAt := 10 * t.time.steps, syn := c, audit := false
             spoiled := false, expected := e
             tolerance := (e * s.limits.countTolerance + 999999) / 1000000 + 2, gateExponent := g
             timeout := s.time.backup + (2 ^ g + 59) / 10 }
         t.synth c = { x with settle := none, state := .measuring } ∧
         t.fc = { s.fc with started := s.fc.started + 1, current := some m })) ∧
  (∀ (s : State) (c : Chain) (d : Nat), (s.synth c).settle = some d →
     let x := s.synth c
     let u := s.advanceTo d
     (x.attempts < s.limits.attempts →
       exec (.settleExpiry c false) s = .next (u.setSynth c
         { x with settle := none, state := .programming, attempts := x.attempts + 1
                  transfer := .programming (dividerWords (x.wanted.getD 0)), output := .disabled })) ∧
     (s.limits.attempts ≤ x.attempts →
       let f := (u.setSynth c
         { x with settle := none, state := .failed
                  retry := some (u.time.steps + 100 * s.limits.retryHold) }).notifyBoth .synthFailed
       let g := if s.pe.active.uses c then f.probationFailure else f
       exec (.settleExpiry c false) s = .next (match c with
         | .rx _ => g
         | .tx y => g.setPresent y
             { (s.protection y).present with txLoLost := x.lost, txLoUnverified := true }) ∧
       ∀ y, c = .tx y → (s.seq y).state ≠ .driveSettle →
         ∃ t, exec (.settleExpiry c false) s = .next t ∧
           (t.protection y).present
             = { (s.protection y).present with txLoLost := x.lost, txLoUnverified := true } ∧
           (s.LevelSound → s.severities.txLoUnverified ≤ (t.protection y).level)))

/-- How a synthesizer joins the counter's queue, at its tail and once (R85), and how the head of the queue is
measured when the counter is free and the reference is present (R27 to R29, R86). RETRY_EXPIRY and AUDIT_EXPIRY
(R79, R81): a fresh cycle from FAILED, and an audit joining the queue, or measured at once where the counter is
free, nothing waits and the reference is present. -/
def Obligations.RetryAndAuditStart : Prop :=
  (∀ (s : State) (c : Chain) (audit : Bool),
    ((∃ q ∈ s.fc.queue, q.syn = c) → s.joinQueue c audit = s) ∧
    ((∀ q ∈ s.fc.queue, q.syn ≠ c) → s.joinQueue c audit = { s with
      fc := { s.fc with queue := s.fc.queue ++ [{ syn := c, audit := audit }] } })) ∧
  (∀ s : State,
    (s.fc.current.isSome = true ∨ s.ref.state = .absent ∨ s.fc.queue = [] → s.startMeasurement = s) ∧
    ∀ q rest, s.fc.current = none → s.ref.state ≠ .absent → s.fc.queue = q :: rest →
      let g := s.limits.gateExponent
      let e := (s.synth q.syn).wanted.getD 0 / 1000 * 2 ^ g / 64
      let m : Measurement :=
        { number := s.fc.started + 1, startedAt := 10 * s.time.steps, syn := q.syn, audit := q.audit
          spoiled := false, expected := e
          tolerance := (e * s.limits.countTolerance + 999999) / 1000000 + 2, gateExponent := g
          timeout := s.time.backup + (2 ^ g + 59) / 10 }
      let v : State :=
        { s with fc := { s.fc with started := s.fc.started + 1, queue := rest, current := some m } }
      s.startMeasurement = (if q.audit = true then v
        else v.setSynth q.syn { s.synth q.syn with state := .measuring })) ∧
  ∀ (s : State) (c : Chain) (d : Nat),
    let x := s.synth c
    (x.retry = some d →
      ∃ t, exec (.retryExpiry c) s = .next t ∧ SynthFrame (s.advanceTo d) t ∧ t.fc = s.fc ∧
        t.lanes = s.lanes ∧
        t.synth c = { x with
          retry := none, attempts := 1, state := .programming
          transfer := .programming (dividerWords (x.wanted.getD 0)), output := .disabled } ∧
        ∀ y, c = .tx y → (t.protection y).present
          = { (s.protection y).present with txLoLost := x.lost, txLoUnverified := false }) ∧
    (x.audit = some d →
      ∃ t, exec (.auditExpiry c) s = .next t ∧ SynthFrame (s.advanceTo d) t ∧ t.pu = s.pu ∧
        t.lanes = s.lanes ∧ (t.synth c).auditing = true ∧ (t.synth c).audit = none ∧
        ((∀ q ∈ s.fc.queue, q.syn ≠ c) → s.fc.current.isSome = true ∨ s.ref.state = .absent →
          t.fc = { s.fc with queue := s.fc.queue ++ [{ syn := c, audit := true }] } ∧
          t.synth c = { x with audit := none, auditing := true }) ∧
        (s.fc.current = none → s.ref.state ≠ .absent → s.fc.queue = [] →
          let g := s.limits.gateExponent
          let e := x.wanted.getD 0 / 1000 * 2 ^ g / 64
          let m : Measurement :=
            { number := s.fc.started + 1, startedAt := 10 * t.time.steps, syn := c, audit := true
              spoiled := false, expected := e
              tolerance := (e * s.limits.countTolerance + 999999) / 1000000 + 2, gateExponent := g
              timeout := s.time.backup + (2 ^ g + 59) / 10 }
          t.synth c = { x with audit := none, auditing := true } ∧
          t.fc = { s.fc with started := s.fc.started + 1, current := some m }))

/-- A lock drop of a VERIFIED synthesizer (R82, R83). Receive (R98, R104): SETTLING with lost and one attempt
used, no queue entry and no measurement left, every lane that draws from the chain fast-muted and HELD, no other
lane's current share touched, and a probe visit whose primary input the chain is no longer clean (R116, R117).
Transmit (R131): the same of the controller and TX_LO_LOST present, in every
state of the sequencer but a DRIVE_SETTLE that hands another LO over at the same event; on air every lane of
the chain at 0 at once, with the chain MUTED or already in PA_DISCHARGE; and in MUTED, DRIVE_SETTLE and
PA_DISCHARGE no other change than what the raised level asks (R127, R129, R130). -/
def Obligations.LockDropMutes : Prop :=
  (∀ (s : State) (r : Rx), (s.synth (.rx r)).state = .verified →
     ∃ t, exec (.lockDrop (.rx r)) s = .next t ∧ SeqFrame s t ∧
       t.synth (.rx r) = { s.synth (.rx r) with
         state := .settling, attempts := 1, settle := some (s.time.steps + (s.limits.settle + 9) / 10)
         audit := none, auditing := false, lost := true } ∧
       (∀ q ∈ t.fc.queue, q.syn ≠ .rx r) ∧ (∀ m, t.fc.current = some m → m.syn ≠ .rx r) ∧
       (∀ n e, s.probe.visit = some n → (s.lane n).slot = some e →
         t.probe = if e.inputChain = r then { s.probe with clean := false } else s.probe) ∧
       (s.probe.visit = none → t.probe = s.probe) ∧
       (∀ n e, (s.lane n).slot = some e → e.sourceChain (s.input n).source = r →
         (t.lane n).current = 0 ∧ (t.lane n).target = 0 ∧ (t.lane n).state = .held) ∧
       (∀ n e, (s.lane n).slot = some e → e.sourceChain (s.input n).source ≠ r →
         (t.lane n).current = (s.lane n).current)) ∧
  (∀ (s : State) (x : Tx), (s.synth (.tx x)).state = .verified →
     ∃ t, exec (.lockDrop (.tx x)) s = .next t ∧ ProtFrame s t ∧
       ((s.seq x).state ≠ .driveSettle ∨
           (s.synth (.tx x)).wanted = s.pe.active.tuningLo x →
         (t.protection x).present.txLoLost = true ∧
         t.synth (.tx x) = { s.synth (.tx x) with
           state := .settling, attempts := 1, settle := some (s.time.steps + (s.limits.settle + 9) / 10)
           audit := none, auditing := false, lost := true } ∧
         (∀ q ∈ t.fc.queue, q.syn ≠ .tx x) ∧ (∀ m, t.fc.current = some m → m.syn ≠ .tx x)) ∧
       (s.phase = .running → s.LevelSound → s.wantedOn x = true →
         ((s.seq x).state = .muted → (s.seq x).runDown = false →
           (t.seq x).state = if t.wantedOn x then .muted else .paDischarge) ∧
         ((s.seq x).state = .driveSettle → (s.synth (.tx x)).wanted = s.pe.active.tuningLo x →
           (t.seq x).state = if t.wantedOn x then .driveSettle
             else if (t.protection x).lockedOut then .lockedOut else .off)) ∧
       ((s.seq x).state = .paDischarge → t.seq x = s.seq x) ∧
       ((s.seq x).state = .rampUp ∨ (s.seq x).state = .onAir ∨ (s.seq x).state = .rampDown →
         ((t.seq x).state = .muted ∨ (t.seq x).state = .paDischarge) ∧
         (∀ n, s.laneOn x n = true → (t.lane n).current = 0 ∧ (t.lane n).target = 0)))

/-- The closing of the gate of the measurement in flight, 2^g ms, that is 10,000 × 2^g reference cycles, after
its start (R27, R29, R66, R80, R81, R86, R87, R89), from which the next measurement starts: the verdict of the
count, the last-measurement record, and what each verdict does to the controller. WITHIN: VERIFIED, with the
conditions withdrawn and the chain's sequencer told (R80, R83, R126 to R129), or the lanes that draw on a
receive chain leaving HELD where R95 allows (R98); or an audit's timer restarted (R81). LOW and HIGH: a new
programming while attempts are left, and at the limit FAILED with its retry timer, SYNTH_FAILED,
TX_LO_UNVERIFIED and the probation failure of a used synthesizer (R54, R78, R83); for an audit, a failed
audit, which acts as a lock drop: lanes fast-muted (R98, R104), a visit no longer clean (R116), the chain
MUTED (R82, R131). FAILED and a failed audit take a chain that stands in TUNING, DRIVE_SETTLE or MUTED off
where the level they raise is a going-off cause, and no further (R125 to R131). The chain's moves are given
for the states in which a verdict can move it: for WITHIN TUNING, DRIVE_SETTLE and MUTED, for FAILED those
three, and for a failed audit all but OFF and LOCKED_OUT. A closing that names another measurement has no
effect (R88), nor has that of a spoiled one (R89). That the step count moves to the first boundary at or after
the closing, and that a closing commanded after that boundary is taken then, is the model's choice (assumption
30). -/
def Obligations.GateCloseJudged : Prop :=
  ∀ (s : State) (m : Measurement) (count : Nat), s.CounterSound → s.fc.current = some m →
    let closing := m.startedAt + 2 ^ m.gateExponent
    let boundary := (closing + 9) / 10
    let now := if s.time.steps ≤ boundary then closing else 10 * s.time.steps
    let u := s.advanceTo boundary
    let x := s.synth m.syn
    let n := min count 2097151
    let closed := exec (.gateClose ⟨m.number, count⟩) s
    let restart : Timer := if 0 < s.limits.auditInterval
      then some (u.time.steps + 100 * s.limits.auditInterval) else none
    let within := m.expected ≤ count + m.tolerance ∧ count ≤ m.expected + m.tolerance
    let v : Verdict := if count + m.tolerance < m.expected then .low
      else if m.expected + m.tolerance < count then .high else .within
    let verified := { x with
      lastVerdict := some .within, lastCount := some n, state := .verified, attempts := 0
      lost := false, audit := restart }
    let failed := { x with
      lastVerdict := some v, lastCount := some n, state := .failed
      retry := some (u.time.steps + 100 * s.limits.retryHold) }
    let unlocked := { x with
      lastVerdict := some v, lastCount := some n, state := .settling, attempts := 1
      settle := some ((now + s.limits.settle + 9) / 10), audit := none
      auditing := false, lost := true }
    let goesOff (t : State) (y : Tx) : Prop :=
      let st := (t.seq y).state
      let down : SeqState := if (t.protection y).lockedOut then .lockedOut else .off
      ((s.seq y).state = .tuning → st = if t.wantedOn y then .tuning else down) ∧
      ((s.seq y).state = .driveSettle → x.wanted = s.pe.active.tuningLo y →
        st = if t.wantedOn y then .driveSettle else down) ∧
      ((s.seq y).state = .muted → (s.seq y).runDown = false →
        st = if t.wantedOn y then .muted else .paDischarge) ∧
      ((s.seq y).state = .paDischarge → t.seq y = s.seq y)
    (∀ k, k ≠ m.number → exec (.gateClose ⟨k, count⟩) s = .next s) ∧
    (m.spoiled = true → closed = .next s) ∧
    (m.spoiled = false →
      ∃ t, closed = .next t ∧ ProtFrame u t ∧
        t.fc.last = some
          { syn := m.syn, audit := m.audit, verdict := v, count := some n, expected := m.expected
            tolerance := m.tolerance } ∧
        (∀ next, t.fc.current = some next → next.startedAt = now) ∧
        (∀ q rest, s.fc.queue = q :: rest → s.ref.state ≠ .absent →
          ((m.audit = true ∧ within) ∨ (m.audit = false ∧ ¬within ∧ x.attempts < s.limits.attempts) ∨
            (m.audit = false ∧ ∃ r, m.syn = .rx r)) →
          t.fc.queue = rest ∧ ∃ next, t.fc.current = some next ∧ next.syn = q.syn ∧
            next.audit = q.audit ∧ next.spoiled = false ∧ next.number = s.fc.started + 1) ∧
        (∀ r, m.audit = false → within → m.syn = .rx r → t.synth m.syn = verified ∧
          t.pu = s.pu ∧ t.os = s.os ∧ t.probe = s.probe ∧
          (∀ k e, (s.lane k).slot = some e →
            (t.lane k).current = (s.lane k).current ∧
            (e.sourceChain (s.input k).source = r →
              (t.lane k).state = t.laneStateOf k ∧ (t.lane k).target = t.targetOf k (t.lane k).state) ∧
            (e.sourceChain (s.input k).source ≠ r →
              (t.lane k).state = (s.lane k).state ∧ (t.lane k).target = (s.lane k).target)) ∧
          ∀ y, (∃ k, s.laneOn y k = true ∧ (t.lane k).target ≠ (s.lane k).target) →
            t.mixer y = { s.mixer y with
              step := 0, timer := some (u.time.steps + (s.mixer y).rampUnit) }) ∧
        (∀ y, m.audit = false → within → m.syn = .tx y → s.LevelSound →
          ((s.seq y).state ≠ .driveSettle → t.synth m.syn = verified ∧
            (t.protection y).present
              = { (s.protection y).present with txLoLost := false, txLoUnverified := false } ∧
            (t.protection y).level = (s.protection y).level) ∧
          (s.phase = .running → s.wantedOn y = true → x.wanted = (s.pe.active.tx.get y).lo →
            x.wanted.isSome = true →
            ((s.seq y).state = .tuning → t.synth m.syn = verified ∧
              (t.seq y).state = .driveSettle ∧
              (t.seq y).settleTimer = some (u.time.steps + (s.seq y).driveSettle)) ∧
            ((s.seq y).state = .driveSettle → (s.seq y).driveSettled = false →
              t.synth m.syn = verified ∧ (t.seq y).state = .driveSettle) ∧
            ((s.seq y).state = .driveSettle → (s.seq y).driveSettled = true →
              t.synth m.syn = verified ∧
              ((s.protection y).level = 2 → (t.seq y).state = .muted) ∧
              ((s.protection y).level < 2 →
                (t.seq y).state = .rampUp ∨ (t.seq y).state = .onAir)) ∧
            ((s.seq y).state = .muted → (s.seq y).runDown = false → (s.protection y).level < 2 →
              (t.seq y).state = .rampUp ∨ (t.seq y).state = .onAir)) ∧
          (s.phase = .running → s.wantedOn y = false → (s.seq y).state = .driveSettle →
            (x.wanted = s.pe.active.tuningLo y → t.synth m.syn = verified) ∧
            (t.seq y).handedOver = s.pe.active.tuningLo y ∧ (t.seq y).retunePending = false ∧
            (t.seq y).state = if (t.protection y).lockedOut then .lockedOut
              else if t.wantedOn y then (if t.tuned y then .driveSettle else .tuning) else .off)) ∧
        (m.audit = false → ¬within → x.attempts < s.limits.attempts →
          t.pu = s.pu ∧ t.os = s.os ∧ t.synth m.syn = { x with
            lastVerdict := some v, lastCount := some n, state := .programming
            attempts := x.attempts + 1, transfer := .programming (dividerWords (x.wanted.getD 0))
            output := .disabled }) ∧
        (m.audit = false → ¬within → s.limits.attempts ≤ x.attempts →
          (∀ q, t.told q .synthFailed) ∧
          (s.pe.active.uses m.syn = true → s.pe.status = .onProbation → t.pe = s.pe.failProbation) ∧
          (∀ r, m.syn = .rx r → t.synth m.syn = failed ∧ t.pu = s.pu) ∧
          (∀ y, m.syn = .tx y →
            ((s.seq y).state ≠ .driveSettle ∨ x.wanted = s.pe.active.tuningLo y →
              t.synth m.syn = failed ∧
              (t.protection y).present
                = { (s.protection y).present with txLoLost := x.lost, txLoUnverified := true } ∧
              (s.LevelSound → s.severities.txLoUnverified ≤ (t.protection y).level)) ∧
            (s.phase = .running → s.LevelSound → s.wantedOn y = true → goesOff t y))) ∧
        (m.audit = true → within →
          t.pu = s.pu ∧ t.os = s.os ∧ t.synth m.syn = { x with
            auditing := false, lastVerdict := some .within, lastCount := some n, audit := restart }) ∧
        (∀ r, m.audit = true → ¬within → m.syn = .rx r → t.synth m.syn = unlocked ∧
          (∀ k e, (s.lane k).slot = some e →
            (e.sourceChain (s.input k).source = r →
              (t.lane k).current = 0 ∧ (t.lane k).target = 0 ∧ (t.lane k).state = .held) ∧
            (e.sourceChain (s.input k).source ≠ r → (t.lane k).current = (s.lane k).current)) ∧
          (∀ k e, s.probe.visit = some k → (s.lane k).slot = some e →
            t.probe = if e.inputChain = r then { s.probe with clean := false } else s.probe)) ∧
        (∀ y, m.audit = true → ¬within → m.syn = .tx y →
          ((s.seq y).state ≠ .driveSettle ∨ x.wanted = s.pe.active.tuningLo y →
            t.synth m.syn = unlocked ∧ (t.protection y).present.txLoLost = true ∧
            (s.LevelSound → s.severities.txLoLost ≤ (t.protection y).level)) ∧
          (s.phase = .running → s.LevelSound → s.wantedOn y = true → goesOff t y) ∧
          ((s.seq y).state = .rampUp ∨ (s.seq y).state = .onAir ∨ (s.seq y).state = .rampDown →
            ((t.seq y).state = .muted ∨ (t.seq y).state = .paDischarge) ∧
            ∀ k, s.laneOn y k = true → (t.lane k).current = 0 ∧ (t.lane k).target = 0)))

/-- The timeout of a measurement (R29, R80, R81, R87): UNORDERED, no count and no attempt charged; the
synthesizer asks again at the tail of the queue, where it waits while the reference is ABSENT (R89), and an
audit's result is discarded. That backup time moves up
to the timeout, over a presence window that ends there and has not been taken, is the model's choice
(assumption 4). -/
def Obligations.TimeoutUnordered : Prop :=
  ∀ (s : State) (m : Measurement), s.CounterSound → s.fc.current = some m →
    let x := s.synth m.syn
    ∃ t, exec .measurementTimeout s = .next t ∧ t.time.backup = max s.time.backup m.timeout ∧
      t.pu = s.pu ∧ t.os = s.os ∧ t.lanes = s.lanes ∧ t.ref = s.ref ∧ t.pe = s.pe ∧
      t.inputs = s.inputs ∧ t.store = s.store ∧ t.supply = s.supply ∧ t.ports = s.ports ∧
      t.pending = s.pending ∧
      t.fc.last = some
        { syn := m.syn, audit := m.audit, verdict := .unordered, count := none
          expected := m.expected, tolerance := m.tolerance } ∧
      (m.audit = false → s.fc.queue ≠ [] →
        t.synth m.syn = { x with lastVerdict := some .unordered, lastCount := none, state := .queued } ∧
        t.fc.queue.getLast? = some { syn := m.syn, audit := false }) ∧
      (m.audit = false → s.fc.queue = [] → s.ref.state ≠ .absent →
        t.synth m.syn = { x with lastVerdict := some .unordered, lastCount := none
                                 state := .measuring } ∧ t.fc.queue = []) ∧
      (m.audit = false → s.fc.queue = [] → s.ref.state = .absent →
        t.synth m.syn = { x with lastVerdict := some .unordered, lastCount := none, state := .queued } ∧
        t.fc.queue = [{ syn := m.syn, audit := false }] ∧ t.fc.current = none) ∧
      (m.audit = true →
        t.synth m.syn = { x with
          auditing := false
          audit := if 0 < s.limits.auditInterval
            then some (t.time.steps + 100 * s.limits.auditInterval) else none })

/-! ## Transmit chains -/

/-- The lane state (R95) and the target share (R31, R96) of every lane, by their tables; which lanes are on a
chain (R93), and the sum of their current shares (R102). Ramps (R96, R103). A decision of lanes gives each
lane decided that state and that target, leaves the others as they were, and starts a ramp on every chain on
which a target has changed, and on no other: step count 0, each lane's current share its start value, and the
step timer running for one ramp unit. A ramp step (R32, R33, R103): the step count rises and the timer
restarts unless it has reached 16, but for a new ramp where the sequencer's move at that step has changed a
target, and there alone; every lane on the chain moves to start + floor((target − start) × k / 16), no other
lane moves, and the sum of the currents is at most the larger of the sums of starts and targets. At the last
step every lane is at its target, and a chain in RAMP_UP with no going-off cause and a level below 2 is ON_AIR
(R128); a chain in RAMP_DOWN that has reached zero goes on to PA_DISCHARGE or MUTED (R129, R130). That a chain
whose lockout was removed in RAMP_DOWN (`runDown`) goes on to PA_DISCHARGE at zero though no going-off cause
holds is the model's choice of R133 over R129 (DESIGN CHOICE, assumption 29). -/
def Obligations.RampStepMovesShares : Prop :=
  (∀ (s : State) (n : Slot),
    ((s.lane n).slot = none → s.laneStateOf n = .unassigned ∧ ∀ st, s.targetOf n st = 0) ∧
    ∀ e, (s.lane n).slot = some e →
      let source : Rx := match (s.input n).source, e.fallback with
        | .fallback, some fb => fb.chain
        | _, _ => e.inputChain
      let chain := (s.seq e.outputChain).state
      let level := (s.protection e.outputChain).level
      let share := s.pe.active.effectiveShare n
      let held := chain ∉ [SeqState.rampUp, .onAir, .muted, .rampDown] ∨
        (s.pe.active.tx.get e.outputChain).enabled = false ∨ (s.synth (.rx source)).state ≠ .verified
      e.sourceChain (s.input n).source = source ∧
      (s.isVerified (.rx source) = true ↔ (s.synth (.rx source)).state = .verified) ∧
      (held → s.laneStateOf n = .held) ∧
      (¬held → ∀ i, (s.input n).inputState = some i → s.laneStateOf n = (match i with
        | .livePrimary => .livePrimary
        | .liveFallback => .liveFallback
        | .inputLost => .inputLost)) ∧
      ∀ st : LaneState, s.targetOf n st =
        if (st = .livePrimary ∨ st = .liveFallback) ∧ (chain = .rampUp ∨ chain = .onAir) then
          (if level = 0 then share else if level = 1 then share / 2 else 0)
        else 0) ∧
  (∀ (s : State) (x : Tx),
    (∀ n, s.laneOn x n = true ↔ ∃ e, (s.lane n).slot = some e ∧ e.outputChain = x) ∧
    s.lanesOn x = (List.finRange 16).filter (s.laneOn x) ∧
    s.currentSum x = ((s.lanesOn x).map fun n => (s.lane n).current).sum) ∧
  (∀ (s : State) (ns : List Slot) (x : Tx),
    let t := s.decideLanes ns
    let changed := ∃ n ∈ ns, s.laneOn x n = true ∧ (t.lane n).target ≠ (s.lane n).target
    (∀ n ∈ ns, (t.lane n).state = s.laneStateOf n ∧
      (t.lane n).target = s.targetOf n (s.laneStateOf n)) ∧
    (∀ n, n ∉ ns → (t.lane n).state = (s.lane n).state ∧ (t.lane n).target = (s.lane n).target) ∧
    (∀ n, (t.lane n).current = (s.lane n).current) ∧
    (changed →
      t.mixer x = { s.mixer x with step := 0, timer := some (s.time.steps + (s.mixer x).rampUnit) } ∧
      ∀ n, s.laneOn x n = true → (t.lane n).start = (s.lane n).current) ∧
    (¬changed → t.mixer x = s.mixer x ∧
      ∀ n, s.laneOn x n = true → (t.lane n).start = (s.lane n).start)) ∧
  ∀ (s : State) (x : Tx) (d : Nat), (s.mixer x).timer = some d → (s.mixer x).step < 16 →
    let k := (s.mixer x).step + 1
    let on := s.lanesOn x
    let r := (s.mixer x).rampUnit
    ∃ t, exec (.rampStepExpiry x) s = .next t ∧ SeqFrame (s.advanceTo d) t ∧
      (∀ y, y ≠ x → t.mixer y = s.mixer y) ∧
      (let stepped : Mixer :=
        { rampUnit := r, step := k, timer := if k = 16 then none else some (t.time.steps + r) }
       ((∀ n ∈ on, (t.lane n).target = (s.lane n).target) → t.mixer x = stepped) ∧
       ((t.seq x).state = (s.seq x).state → (s.seq x).state ≠ .driveSettle → t.mixer x = stepped) ∧
       ((∃ n ∈ on, (t.lane n).target ≠ (s.lane n).target) →
         t.mixer x = { rampUnit := r, step := 0, timer := some (t.time.steps + r) })) ∧
      (∀ n ∈ on, ((t.lane n).current : Int)
        = (s.lane n).start + ((s.lane n).target - (s.lane n).start : Int) * k / 16) ∧
      (∀ n, n ∉ on → (t.lane n).current = (s.lane n).current) ∧
      t.currentSum x
        ≤ max (on.map fun n => (s.lane n).start).sum (on.map fun n => (s.lane n).target).sum ∧
      (k = 16 → (∀ n ∈ on, (t.lane n).current = (s.lane n).target) ∧
        (s.phase = .running → (s.seq x).state = .rampUp → s.wantedOn x = true →
          (s.protection x).level < 2 → (t.seq x).state = .onAir)) ∧
      (s.phase = .running → (s.seq x).state = .rampDown → t.currentSum x = 0 →
        (s.wantedOn x = false ∨ (s.seq x).runDown = true → (t.seq x).state = .paDischarge ∧
          (t.seq x).dischargeTimer = some (t.time.steps + (s.seq x).paDischarge)) ∧
        (s.wantedOn x = true → (s.seq x).runDown = false → (s.protection x).level = 2 →
          (t.seq x).state = .muted))

/-- A chain's DAC stream (R97, R102): one term for each lane on the chain, in ascending order, with a current
share above 0, a receive word for its source and a transmit word, and none for any other lane; each term draws
from the source's receive chain with the word of that source, and carries its current share in 1024ths of full
scale; the terms carry together no more than the sum the mixer keeps, and exactly that sum where no lane lacks
a word. The stream is formed in every chain state and reaches the air in RAMP_UP, ON_AIR, MUTED and RAMP_DOWN
alone, the states in which the PA is on; the drive is on in the six live states (R122). -/
def Obligations.StreamHoldsLanes : Prop :=
  (∀ st : SeqState,
    (st.live = true ↔ st ∈ [SeqState.driveSettle, .rampUp, .onAir, .muted, .rampDown, .paDischarge]) ∧
    st.driveOn = st.live ∧ (st.paOn = true ↔ st ∈ [SeqState.rampUp, .onAir, .muted, .rampDown])) ∧
  ∀ (s : State) (x : Tx),
    let l (n : Slot) := s.lane n
    let receive (n : Slot) : Option Word := match (s.input n).source with
      | .primary => (l n).primaryWord
      | .fallback => (l n).fallbackWord
    let heard (n : Slot) : Prop := s.laneOn x n = true ∧ 0 < (l n).current ∧
      (receive n).isSome = true ∧ (l n).transmitWord.isSome = true
    ((s.stream x).map StreamTerm.lane).Pairwise (· < ·) ∧
    (∀ n, heard n ↔ n ∈ (s.stream x).map StreamTerm.lane) ∧
    (∀ c ∈ s.stream x, c.share = (l c.lane).current ∧ receive c.lane = some c.receiveWord ∧
      (l c.lane).transmitWord = some c.transmitWord ∧ c.phases = s.phaseOf c.lane ∧
      ∃ e, (l c.lane).slot = some e ∧ e.outputChain = x ∧ c.bandwidthClass = e.bandwidthClass ∧
        c.source = (match (s.input c.lane).source, e.fallback with
          | .fallback, some fb => fb.chain
          | _, _ => e.inputChain)) ∧
    ((s.stream x).map StreamTerm.share).sum ≤ s.currentSum x ∧
    ((∀ n, s.laneOn x n = true → (receive n).isSome = true ∧ (l n).transmitWord.isSome = true) →
      ((s.stream x).map StreamTerm.share).sum = s.currentSum x) ∧
    s.onAirStream x = (if (s.seq x).state ∈ [SeqState.rampUp, .onAir, .muted, .rampDown]
      then s.stream x else [])

/-- The drive-settle expiry (R99, R127, R128): with the synthesizer VERIFIED for the tuning LO the PA is
switched on, into RAMP_UP (or ON_AIR where no target changes and no ramp runs) at level 0 or 1 and MUTED at
level 2, and lanes waiting for a phase reset start from phase 0; otherwise the chain waits with drive settled
yes. -/
def Obligations.DriveSettleExamined : Prop :=
  ∀ (s : State) (x : Tx) (d : Nat), (s.seq x).settleTimer = some d → s.phase = .running →
    (s.seq x).state = .driveSettle → s.wantedOn x = true →
    let u := s.advanceTo d
    (s.tuned x = false →
      exec (.driveSettleExpiry x) s
        = .next (u.setSeq x { s.seq x with settleTimer := none, driveSettled := true })) ∧
    (s.tuned x = true →
      ∃ t, exec (.driveSettleExpiry x) s = .next t ∧ LaneFrame { u with os := t.os, ports := t.ports } t ∧
        (t.seq x).settleTimer = none ∧ (t.seq x).driveSettled = false ∧
        (∀ y, y ≠ x → t.seq y = s.seq y) ∧ (∀ q, t.told q .chainChanged) ∧
        ((s.protection x).level = 2 → (t.seq x).state = .muted) ∧
        ((s.protection x).level < 2 →
          ((t.seq x).state = .rampUp ∨ (t.seq x).state = .onAir) ∧
          ((t.seq x).state = .rampUp ↔ (t.mixer x).timer.isSome = true) ∧
          ((t.seq x).state = .onAir → t.mixer x = s.mixer x ∧
            ∀ n, s.laneOn x n = true → (t.lane n).target = (s.lane n).target) ∧
          ∀ n, s.laneOn x n = true →
            (t.lane n).state = t.laneStateOf n ∧ (t.lane n).target = t.targetOf n (t.lane n).state ∧
            (t.lane n).current = (s.lane n).current ∧
            ((s.lane n).phaseReset = true →
              (t.lane n).phaseReset = false ∧ t.phaseOf n = ⟨0, 0⟩)))

/-- The PA-discharge expiry (R124, R126, R130): the drive goes off, the tuning LO is handed over, and the chain
is LOCKED_OUT when it is in the lockout set; otherwise OFF, or at once TUNING or DRIVE_SETTLE when it is wanted
on. -/
def Obligations.PaDischargeEnds : Prop :=
  ∀ (s : State) (x : Tx) (d : Nat), (s.seq x).dischargeTimer = some d → s.phase = .running →
    (s.seq x).state = .paDischarge →
    ∃ t, exec (.paDischargeExpiry x) s = .next t ∧ SeqFrame (s.advanceTo d) t ∧
      (t.seq x).handedOver = s.pe.active.tuningLo x ∧ (t.seq x).retunePending = false ∧
      (t.seq x).dischargeTimer = none ∧ (t.seq x).state.paOn = false ∧
      (∀ l, s.pe.active.tuningLo x = some l → (t.synth (.tx x)).wanted = some l) ∧
      (∀ q, t.told q .chainChanged) ∧
      ((t.protection x).lockedOut = true → (t.seq x).state = .lockedOut) ∧
      ((t.protection x).lockedOut = false → t.wantedOn x = false → (t.seq x).state = .off) ∧
      ((t.protection x).lockedOut = false → t.wantedOn x = true →
        (t.seq x).state = (if t.tuned x = true then .driveSettle else .tuning))

/-! ## Protection -/

/-- S is the greatest severity of the condition kinds present for a chain, 0 when none is, and the cause that
goes with it the present kind of that severity that comes first in rank, none when no kind is present (R139,
R140, R143). The amplifier inputs (R134, R139 to R143): a change of sample makes the condition present or
withdraws it, and S follows. A rise of S above the level takes the level, stops the recovery hold and names
the cause; a rise to the level stops the hold and names the cause; below the level the level and the cause
stay, the hold starts when it was not running and restarts when S has risen, and otherwise runs on. A sample
equal to the previous one, or taken in reset, changes nothing. -/
def Obligations.AmplifierInputsSampled : Prop :=
  (∀ (v : Severities) (d : DeviceConditions) (c : ChainConditions),
    let kinds : List (Bool × Level × Condition) :=
      [(d.refAbsent, v.refAbsent, .refAbsent), (c.txLoLost, v.txLoLost, .txLoLost),
       (c.txLoUnverified, v.txLoUnverified, .txLoUnverified), (c.paFault, v.paFault, .paFault),
       (d.refExpired, v.refExpired, .refExpired), (d.supplyWarning, v.supplyWarning, .supplyWarning),
       (c.paWarning, v.paWarning, .paWarning), (d.refHoldover, v.refHoldover, .refHoldover),
       (d.linksSilent, v.linksSilent, .linksSilent)]
    let top := highestSeverity v d c
    (∀ k ∈ kinds, isPresent d c k.2.2 = k.1 ∧ v.of k.2.2 = k.2.1) ∧
    (∀ k ∈ kinds, k.1 = true → k.2.1 ≤ top) ∧
    ((∃ k ∈ kinds, k.1 = true ∧ k.2.1 = top) ∨ ((∀ k ∈ kinds, k.1 = false) ∧ top = 0)) ∧
    topCondition v d c = (kinds.find? fun k => k.1 && decide (k.2.1 = top)).map fun k => k.2.2) ∧
  ∀ (s : State) (x : Tx) (b : Bool),
    let c := s.protection x
    let decided (t : State) : Prop :=
      let top := highestSeverity s.severities s.pu.device (t.protection x).present
      let cause := topCondition s.severities s.pu.device (t.protection x).present
      let p := t.protection x
      p.highest = top ∧
      (c.level < top → p.level = top ∧ p.hold = none ∧ p.holding = false ∧ p.cause = cause) ∧
      (top = c.level → p.level = c.level ∧ p.hold = none ∧ p.holding = false ∧ p.cause = cause) ∧
      (top < c.level → p.level = c.level ∧ p.holding = true ∧ p.cause = c.cause ∧
        p.hold = (if c.highest < top ∨ (top < c.highest ∧ c.hold = none)
          then some (s.time.steps + 100 * s.limits.recoveryHold) else c.hold))
    (s.phase = .held ∨ (s.seq x).faultSample = b → exec (.paFaultInput x b) s = .next s) ∧
    (s.phase = .held ∨ (s.seq x).warningSample = b → exec (.paWarningInput x b) s = .next s) ∧
    (s.LevelSound → s.phase ≠ .held → (s.seq x).faultSample ≠ b →
      ∃ t, exec (.paFaultInput x b) s = .next t ∧ ProtFrame s t ∧ (t.seq x).faultSample = b ∧
        (t.protection x).present.paFault = b ∧
        (t.protection x).present.paWarning = (s.protection x).present.paWarning ∧
        (s.protection x).level ≤ (t.protection x).level ∧
        (b = true → s.severities.paFault ≤ (t.protection x).level) ∧
        (∀ y, y ≠ x → t.protection y = s.protection y) ∧
        (c.present.paFault ≠ b → (s.seq x).state ≠ .driveSettle →
          (t.protection x).present = { c.present with paFault := b } ∧ decided t)) ∧
    (s.LevelSound → s.phase ≠ .held → (s.seq x).warningSample ≠ b →
      ∃ t, exec (.paWarningInput x b) s = .next t ∧ ProtFrame s t ∧ (t.seq x).warningSample = b ∧
        (t.protection x).present.paWarning = b ∧
        (t.protection x).present.paFault = (s.protection x).present.paFault ∧
        (s.protection x).level ≤ (t.protection x).level ∧
        (b = true → s.severities.paWarning ≤ (t.protection x).level) ∧
        (∀ y, y ≠ x → t.protection y = s.protection y) ∧
        (c.present.paWarning ≠ b → (s.seq x).state ≠ .driveSettle →
          (t.protection x).present = { c.present with paWarning := b } ∧ decided t))

/-- A PA fault of severity 3 that takes the level into 3 is a trip (R145, R146): the entry joins the newest end
of the list, the oldest leaving a full one, and the chain is locked out when the list is full within the trip
window, with a SITE write of the new lockout set and a probation failure; a trip limit of 0 or a lockout
records nothing. The sequencer takes the level, and the lockout with it, as a going-off cause (R126, R127, R129,
R130, R133): on air the chain goes down, through RAMP_DOWN to zero; from MUTED the PA goes off at once; off the
air it goes to OFF, or to LOCKED_OUT. -/
def Obligations.FaultTripsAndLocksOut : Prop :=
  ∀ (s : State) (x : Tx), s.phase ≠ .held → (s.seq x).faultSample = false →
    (s.protection x).present.paFault = false → s.severities.paFault = 3 → (s.protection x).level < 3 →
    let c := s.protection x
    let l := s.limits
    let entry : Trip :=
      { time := s.time.seconds, faults := if c.present.txLoLost then .both else .paFault }
    let list := c.trips.drop (c.trips.length + 1 - l.tripLimit) ++ [entry]
    ∃ t, exec (.paFaultInput x true) s = .next t ∧ ProtFrame s t ∧ (t.protection x).level = 3 ∧
      (∀ q, t.told q .chainChanged) ∧
      (l.tripLimit = 0 ∨ c.lockedOut = true →
        (t.protection x).trips = c.trips ∧ (t.protection x).lockedOut = c.lockedOut ∧
        t.store = s.store ∧ t.pe = s.pe) ∧
      (0 < l.tripLimit → c.lockedOut = false →
        (t.protection x).trips = list ∧
        ((t.protection x).lockedOut = true ↔
          list.length = l.tripLimit ∧
            ∀ oldest, list.head? = some oldest → s.time.seconds - oldest.time ≤ 60 * l.tripWindow) ∧
        ((t.protection x).lockedOut = true →
          t.Writes .site (fun content =>
            content.plan = s.pe.active ∧ content.lockout.get x = true) ∧
          t.pe.status = .settled) ∧
        ((t.protection x).lockedOut = false → t.store = s.store ∧ t.pe = s.pe)) ∧
      (s.phase = .running →
        ((s.seq x).state = .off ∨ (s.seq x).state = .tuning ∨ (s.seq x).state = .driveSettle →
          (t.seq x).state = (if (t.protection x).lockedOut = true then .lockedOut else .off)) ∧
        ((s.seq x).state = .rampUp ∨ (s.seq x).state = .onAir ∨ (s.seq x).state = .rampDown →
          (t.seq x).state = (if s.currentSum x = 0 then .paDischarge else .rampDown) ∧
          ∀ n, s.laneOn x n = true →
            (t.lane n).target = 0 ∧ (t.lane n).current = (s.lane n).current) ∧
        ((s.seq x).state = .muted ∨ (s.seq x).state = .paDischarge →
          (t.seq x).state = .paDischarge) ∧
        ((s.seq x).state = .lockedOut → c.lockedOut = true → (t.seq x).state = .lockedOut) ∧
        ((t.seq x).state = .paDischarge → (s.seq x).state ≠ .paDischarge →
          (t.seq x).dischargeTimer = some (s.time.steps + (s.seq x).paDischarge)))

/-- A chain is wanted on exactly while it is enabled, its level is below 3, it is not locked out and no retune
is pending; the causes that fail, in the order of R136; and the tuning LO, and the synthesizer VERIFIED for it
(R72, R123, R125). The expiry of a recovery hold (R142 to R144): the level becomes S in one step, with its
cause, and a changed level raises CHAIN_CHANGED and reaches the chain's lanes and its sequencer. What a
sequencer makes of a changed fact, in every state (R126 to R130, R133), is SeqDecided: OFF gives way to TUNING
or DRIVE_SETTLE and MUTED to RAMP_UP when the level has fallen, a level of 2 or a going-off cause takes
RAMP_UP and ON_AIR down, and PA_DISCHARGE runs to its expiry. Its rows on `runDown` and on RAMP_DOWN at zero
below level 2 are the model's choice (assumptions 29 and 15). The expiry itself in sound states
(`State.Sound`). -/
def Obligations.RecoveryHoldLowersLevel : Prop :=
  (∀ (s : State) (x : Tx),
    let enabled := (s.pe.active.tx.get x).enabled
    let c := s.protection x
    let retune := (s.seq x).retunePending
    (s.wantedOn x = true ↔ enabled = true ∧ c.level < 3 ∧ c.lockedOut = false ∧ retune = false) ∧
    s.offCauses x = (if enabled then [] else [.notEnabled]) ++ (if c.level = 3 then [.level3] else [])
      ++ (if c.lockedOut then [.lockedOut] else []) ++ (if retune then [.retunePending] else []) ∧
    s.pe.active.tuningLo x = (if enabled then (s.pe.active.tx.get x).lo else none) ∧
    (s.tuned x = true ↔ (s.synth (.tx x)).state = .verified ∧
      (s.synth (.tx x)).wanted = s.pe.active.tuningLo x ∧ (s.synth (.tx x)).wanted.isSome = true)) ∧
  (∀ (s : State) (x : Tx), s.phase = .running →
    SeqFrame s (s.decideSeq x) ∧ SeqDecided s (s.decideSeq x) x) ∧
  ∀ (s : State) (x : Tx) (d : Nat), s.Sound → (s.protection x).hold = some d →
    let c := s.protection x
    ∃ t, exec (.recoveryHoldExpiry x) s = .next t ∧ SeqFrame (s.advanceTo d) t ∧
      (t.protection x).level = c.highest ∧ (t.protection x).trips = c.trips ∧
      (t.protection x).lockedOut = c.lockedOut ∧
      (c.highest ≠ c.level → ∀ q, t.told q .chainChanged) ∧
      (let v := (s.advanceTo d).setProtection x
        { c with
          level := c.highest, hold := none, holding := false
          cause := topCondition s.severities s.pu.device c.present }
       (c.highest = c.level → t = v) ∧
       (c.highest ≠ c.level →
         t = ((v.notifyBoth .chainChanged).decideLanes (s.lanesOn x)).decideSeq x)) ∧
      (s.phase = .running → c.highest < c.level → c.highest < 3 →
        (s.pe.active.tx.get x).enabled = true → c.lockedOut = false →
        (s.seq x).retunePending = false →
        ((s.seq x).state = .off → (t.seq x).state = (if s.tuned x = true then .driveSettle else .tuning)) ∧
        ((s.seq x).state = .muted → (s.seq x).runDown = false → c.highest < 2 → s.tuned x = true →
          (t.seq x).state = .rampUp ∨ (t.seq x).state = .onAir) ∧
        ((s.seq x).state = .rampDown → (s.seq x).runDown = false → c.highest < 2 → s.tuned x = true →
          (t.seq x).state = .rampUp ∨ (t.seq x).state = .onAir) ∧
        ((s.seq x).state = .onAir → c.highest < 2 → (t.seq x).state = .onAir) ∧
        ((s.seq x).state = .paDischarge → (t.seq x).state = .paDischarge)) ∧
      ((s.seq x).state ≠ .driveSettle →
        (t.protection x).hold = none ∧ (t.protection x).holding = false ∧
        (t.protection x).cause = topCondition s.severities s.pu.device c.present)

/-! ## Inputs and the probe -/

/-- A boundary of the input windows (R110): every slot is examined, in ascending order, and nothing else
happens but the beginning of the next windows, which are void where the lane is not measured; a void window
leaves its record as it was. The boundary is the tenth step after the previous one; that a boundary command
taken late ends the window at hand is the model's choice (assumption 11). One slot's examination (R111 to
R113): the result clamped and recorded, judged with its 3 dB band, counted, and at the count of the profile
the loss or the restoration confirmed with cleared counts, which is a change of input (InputChangeHandsOver).
That an operand above 0 dBFS is recorded as 0 is the model's choice (assumption 17). A lane is measured in
LIVE_PRIMARY, LIVE_FALLBACK and INPUT_LOST alone. -/
def Obligations.InputWindowsExamined : Prop :=
  (∀ st : LaneState, st.measured = true ↔ st ∈ [LaneState.livePrimary, .liveFallback, .inputLost]) ∧
  (∀ (s : State) (results : Vector Int 16),
    (s.phase = .held → exec (.inputWindowBoundary results) s = .next s) ∧
    (s.phase ≠ .held →
      ∃ t, exec (.inputWindowBoundary results) s = .next t ∧ t.pe = s.pe ∧ t.store = s.store ∧
        t.ref = s.ref ∧ t.supply = s.supply ∧ t.pending = s.pending ∧
        t.time.steps = max s.time.steps ((s.time.lastWindow / 10 + 1) * 10) ∧
        t.time.lastWindow = t.time.steps ∧
        (let u := s.advanceTo ((s.time.lastWindow / 10 + 1) * 10)
         let v := allSlots.foldl (fun s n => s.examineSlot n results[n.val]) u
         t = { v with time := t.time, inputs := t.inputs } ∧
           ∀ n, t.input n = { v.input n with windowVoid := !(t.lane n).state.measured }) ∧
        (∀ n, (t.input n).windowVoid = !(t.lane n).state.measured) ∧
        ∀ n, (s.input n).windowVoid = true →
          { t.input n with windowVoid := true } = s.input n)) ∧
  ∀ (s : State) (n : Slot) (result : Int) (e : SlotEntry) (st : InputState),
    (s.input n).inputState = some st → s.pe.active.slots.get n = some e →
    (s.input n).windowVoid = false →
    let r := if result < -100 then -100 else if 0 < result then 0 else result
    let held := (s.input n).judgement
    let judged : Option Judgement :=
      if r < e.threshold then some .low else if e.threshold + 3 ≤ r then some .good else held
    let i : InputRecord := { s.input n with lastResult := some r, judgement := judged }
    let cleared : InputRecord := { i with lowCount := 0, goodCount := 0, judgement := none }
    let t := s.examineSlot n result
    (judged = none → t = s.setInput n i) ∧
    (judged = some .good → st ≠ .inputLost → t = s.setInput n { i with lowCount := 0 }) ∧
    (judged = some .low → st = .inputLost → t = s.setInput n { i with goodCount := 0 }) ∧
    (judged = some .low → st ≠ .inputLost → i.lowCount + 1 < 10 * s.limits.lossConfirm →
      t = s.setInput n { i with lowCount := i.lowCount + 1 }) ∧
    (judged = some .low → st = .livePrimary → 10 * s.limits.lossConfirm ≤ i.lowCount + 1 →
      e.fallback.isSome = true →
      t = s.changeInput n { cleared with inputState := some .liveFallback, source := .fallback }) ∧
    (judged = some .low → st = .liveFallback ∨ (st = .livePrimary ∧ e.fallback = none) →
      10 * s.limits.lossConfirm ≤ i.lowCount + 1 →
      t = s.changeInput n { cleared with inputState := some .inputLost }) ∧
    (judged = some .good → st = .inputLost → i.goodCount + 1 < 10 * s.limits.restoreConfirm →
      t = s.setInput n { i with goodCount := i.goodCount + 1 }) ∧
    (judged = some .good → st = .inputLost → 10 * s.limits.restoreConfirm ≤ i.goodCount + 1 →
      t = s.changeInput n { cleared with
        inputState := some (match i.source with
          | .primary => .livePrimary
          | .fallback => .liveFallback) })

/-- A change of input state or source made by the Input Supervisor (R98, R104, R114): INPUT_CHANGEOVER on both
ports, the lane's state and target decided again, and a ramp where the target has changed. A change of source
switches the receive word and keeps the receive phase and the current share, but for a source whose
synthesizer is not VERIFIED, which fast-mutes the lane and holds it; no other lane's current share is touched.
Which changes are made: a confirmed loss, a restoration (InputWindowsExamined) and a return by the probe
(ProbeVisits). In sound states (`State.Sound`). -/
def Obligations.InputChangeHandsOver : Prop :=
  ∀ (s : State) (n : Slot) (i : InputRecord) (e : SlotEntry), s.Sound → (s.lane n).slot = some e →
    let t := s.changeInput n i
    let moved := i.source ≠ (s.input n).source
    let trusted := s.isVerified (.rx (e.sourceChain i.source)) = true
    let l := t.lane n
    SeqFrame s t ∧ (∀ q, t.told q .inputChangeover) ∧
    { t.input n with windowVoid := true } = { i with windowVoid := true } ∧
    l.slot = some e ∧ l.state = t.laneStateOf n ∧ l.target = t.targetOf n l.state ∧
    l.primaryWord = (s.lane n).primaryWord ∧ l.fallbackWord = (s.lane n).fallbackWord ∧
    l.receiveWord (t.input n).source = (match i.source with
      | .primary => (s.lane n).primaryWord
      | .fallback => (s.lane n).fallbackWord) ∧
    ((s.lane n).phaseReset = false → t.phaseOf n = s.phaseOf n) ∧
    (∀ k, k ≠ n → (t.lane k).current = (s.lane k).current) ∧
    (moved → ¬trusted → l.current = 0 ∧ l.target = 0 ∧ l.state = .held) ∧
    (¬moved ∨ trusted → l.current = (s.lane n).current ∧
      (l.target ≠ (s.lane n).target →
        l.start = (s.lane n).current ∧
        t.mixer e.outputChain = { s.mixer e.outputChain with
          step := 0, timer := some (s.time.steps + (s.mixer e.outputChain).rampUnit) }))

/-- The halves of a probe visit, DISCARD_HALF_EXPIRY and JUDGE_HALF_EXPIRY (R115 to R117): DISCARD gives way
to JUDGE; a visit during which the primary synthesizer was unverified, in either half (assumption 32), or
without a primary word is LOW; a LOW visit clears the counter; a GOOD one counts, and at restore visits
returns the slot to its primary input; the next visit is the next eligible slot of the rotation. When
a visit loses its cleanness, LockDropMutes, GateCloseJudged and ApplyHandsLanes say. -/
def Obligations.ProbeVisits : Prop :=
  (∀ i : InputRecord, i.eligible = true ↔
    i.inputState = some .liveFallback ∨ (i.inputState = some .inputLost ∧ i.source = .fallback)) ∧
  (∀ (s : State) (n : Slot),
    (s.primaryVerified n = true ↔
      ∃ e, (s.lane n).slot = some e ∧ (s.synth (.rx e.inputChain)).state = .verified) ∧
    (s.primarySound n = true ↔ s.primaryVerified n = true ∧ (s.lane n).primaryWord.isSome = true)) ∧
  ∀ (s : State) (d : Nat) (n : Slot), s.probe.timer = some d → s.probe.visit = some n →
    let u := s.advanceTo d
    (s.probe.phase = some .discard →
      exec .discardHalfExpiry s = .next { u with
        probe := { s.probe with phase := some .judge, timer := some (u.time.steps + 10)
                                clean := s.probe.clean && s.primarySound n } }) ∧
    (∀ (result : Int) (e : SlotEntry), s.probe.phase = some .judge →
      s.probe.lastVisited = some n → s.pe.active.slots.get n = some e →
      let good := s.probe.clean = true ∧ s.primarySound n = true ∧ e.threshold + 3 ≤ max (-100) (min result 0)
      let i := s.input n
      ∃ t, exec (.judgeHalfExpiry result) s = .next t ∧ SeqFrame u t ∧
        (¬good → t.input n = { i with lastVisit := some .low, visitCounter := 0 } ∧
          t.lanes = s.lanes ∧ t.ports = s.ports) ∧
        (good → i.visitCounter + 1 < s.limits.restoreVisits →
          t.input n = { i with lastVisit := some .good, visitCounter := i.visitCounter + 1 } ∧
          t.lanes = s.lanes ∧ t.ports = s.ports) ∧
        (good → s.limits.restoreVisits ≤ i.visitCounter + 1 →
          { t.input n with windowVoid := true } =
            { i with
              inputState := some .livePrimary, source := .primary, judgement := none
              lowCount := 0, goodCount := 0, visitCounter := 0, lastVisit := some .good
              windowVoid := true } ∧ ∀ q, t.told q .inputChangeover) ∧
        (t.probe.visit = none ↔ ∀ k, (t.input k).eligible = false) ∧
        ∀ m, t.probe.visit = some m →
          (t.input m).eligible = true ∧ t.probe.lastVisited = some m ∧
          t.probe.clean = t.primaryVerified m ∧ t.probe.phase = some .discard ∧
          t.probe.timer = some (u.time.steps + 10) ∧
          (∀ k, (t.input k).eligible = true → n < k → n < m ∧ m ≤ k) ∧
          ((∀ k, (t.input k).eligible = true → k ≤ n) →
            ∀ k, (t.input k).eligible = true → m ≤ k))

/-! ## The Plan Store, the supply, reset and start-up -/

/-- A SITE write requested with the active plan and the lockout set (R153); the writer, STORE_WRITE_COMPLETION
and STORE_RETRY_EXPIRY (R154, R155): when a write starts and which record goes first; the three rows of a
completion; and the retry expiry, after which the pending content may be written. That the stored bytes are
the erased ones from the start of a write, and stay so after one that failed, is the model's reading (DEDUCED,
assumption 12). -/
def Obligations.WriterFollowsTables : Prop :=
  (∀ s : State,
    let lockout : PerTx Bool := ⟨(s.protection .tx0).lockedOut, (s.protection .tx1).lockedOut,
      (s.protection .tx2).lockedOut, (s.protection .tx3).lockedOut⟩
    s.requestSite = (s.setRecord .site
      { s.record .site with
        pendingContent := some { plan := s.pe.active, lockout := lockout }
        retryUsed := false }).writerStart) ∧
  (∀ s : State,
    let ready (r : RecordName) (c : Content) :=
      s.phase = .running ∧ s.store.inFlight = none ∧ s.supply.state = .normal ∧
        (s.record r).pendingContent = some c ∧ (s.record r).retry = none
    let starts (r : RecordName) (c : Content) : State :=
      let v := s.setRecord r
        { s.record r with pendingContent := none, status := .invalid, image := erasedImage r }
      { v with store := { v.store with
                          inFlight := some { record := r, content := c
                                             retryUsed := (s.record r).retryUsed } } }
    (∀ c, ready .site c → s.writerStart = starts .site c) ∧
    (∀ c, (∀ c', ¬ready .site c') → ready .dflt c → s.writerStart = starts .dflt c) ∧
    ((∀ r c, ¬ready r c) → s.writerStart = s)) ∧
  (∀ (s : State) (w : InFlight), s.store.inFlight = some w →
    let u : State := { s with store := { s.store with inFlight := none } }
    let x := s.record w.record
    exec (.storeWriteCompletion true) s = .next ((u.setRecord w.record
      { x with image := recordImage w.record w.content, status := .valid
               retryUsed := false }).notifyBoth .storeDone).writerStart ∧
    (w.retryUsed = true →
      exec (.storeWriteCompletion false) s = .next ((u.setRecord w.record
        { x with status := .invalid, failures := min (x.failures + 1) 65535
                 retryUsed := false }).notifyBoth .storeFailed).writerStart) ∧
    (w.retryUsed = false → x.pendingContent = none →
      exec (.storeWriteCompletion false) s = .next (u.setRecord w.record
        { x with status := .invalid, failures := min (x.failures + 1) 65535
                 retry := some (s.time.steps + 100), retryUsed := true
                 pendingContent := some w.content }).writerStart) ∧
    (w.retryUsed = false → x.pendingContent.isSome = true →
      exec (.storeWriteCompletion false) s = .next (u.setRecord w.record
        { x with status := .invalid, failures := min (x.failures + 1) 65535
                 retry := some (s.time.steps + 100), retryUsed := false }).writerStart)) ∧
  ∀ (s : State) (r : RecordName) (d : Nat), (s.record r).retry = some d →
    exec (.storeRetryExpiry r) s = .next ((s.advanceTo d).setRecord r
      { s.record r with retry := none }).writerStart

/-- A supply measurement of 80.0% or more while the part is not held (R158): the state by its table with the
4% band, SUPPLY_CHANGED and SUPPLY_WARNING at each change, and the waiting write started by the return to
NORMAL: that of SITE, or that of DEFAULT where no SITE write is ready (R154), in states that meet the invariant
of ProtectionKept. -/
def Obligations.SupplyMeasured : Prop :=
  ∀ (s : State) (m : HalfPercent), s.phase ≠ .held → 160 ≤ m.val →
    let new : SupplyState := match s.supply.state with
      | .normal => if m.val < 180 then .warning else .normal
      | .warning => if 188 ≤ m.val then .normal else .warning
    (new = s.supply.state →
      exec (.supplyMeasurement m) s = .next { s with supply := { s.supply with measurement := m } }) ∧
    (new ≠ s.supply.state →
      ∃ t, exec (.supplyMeasurement m) s = .next t ∧ t.phase = s.phase ∧ t.time = s.time ∧
        t.ref = s.ref ∧ t.pending = s.pending ∧
        t.supply = { s.supply with measurement := m, state := new } ∧
        (∀ q, t.told q .supplyChanged) ∧
        t.pu.device = { s.pu.device with supplyWarning := decide (new = .warning) } ∧
        (new = .normal → s.phase = .running →
          (s.record .site).pendingContent.isSome = true → (s.record .site).retry = none →
          t.store.inFlight.isSome = true) ∧
        (new = .normal → s.phase = .running → s.LevelSound →
          let starts (r : RecordName) (c : Content) : Prop :=
            t.store.inFlight = some { record := r, content := c, retryUsed := (s.record r).retryUsed } ∧
            (t.record r).pendingContent = none ∧ (t.record r).status = .invalid
          let waits (r : RecordName) (c : Content) : Prop :=
            (s.record r).pendingContent = some c ∧ (s.record r).retry = none
          (s.store.inFlight.isSome = true → t.store = s.store) ∧
          (∀ c, s.store.inFlight = none → waits .site c → starts .site c) ∧
          (∀ c, s.store.inFlight = none → (∀ c', ¬waits .site c') → waits .dflt c → starts .dflt c) ∧
          ((∀ r c, ¬waits r c) → t.store = s.store)) ∧
        (new = .warning → (∀ x, (t.protection x).lockedOut = (s.protection x).lockedOut) →
          t.store = s.store))

/-- The three ways into reset, SUPPLY_MEASUREMENT below 80.0%, POWER_ON and RESET_PIN_ASSERT (R70, R137, R152,
R159, R164): every block as its chapter gives for reset, the lines off, no condition present and every level 0
(R151), the stored bytes kept, the failure counts and the reset-cause record kept unless the supply is below
50.0%. A part already held stays as it is, and its measurements and its pin are noted for the reset cause
(R159). What the lost record then reads (undervoltage-seen no, failure counts 0) is the model's reading
(DEDUCED, assumption 27), and so is that the bytes of a record whose write the reset cuts are the erased ones,
unchanged here (assumption 12). RESET_RELEASE of a held part (R158, R159): 85.0% or more with the reset pin
deasserted releases it, with the reset-cause record, the supply state, the record statuses and the start delay
set; any other leaves it held and is noted (assumption 13). The start delay is 100 ms or 2 s, as the strap
selects (R161). The list of the responses that stood at each reset (`beforeReset`) is the model's own record
(DESIGN CHOICE, assumption 14). -/
def Obligations.ResetHeldAndReleased : Prop :=
  (∀ (s : State) (c : Instr) (below50 below80 pin : Bool),
     (∃ m : HalfPercent, m.val < 160 ∧ c = .supplyMeasurement m ∧ s.phase ≠ .held ∧
       below50 = decide (m.val < 100) ∧ below80 = true ∧ pin = false) ∨
     (c = .powerOn ∧ below50 = true ∧ below80 = true ∧ pin = false) ∨
     (c = .resetPinAssert ∧ s.phase ≠ .held ∧ below50 = false ∧ below80 = false ∧ pin = true) →
     ∃ t, exec c s = .next t ∧ t.phase = .held ∧ t.pe = State.reset.pe ∧ t.syn = State.reset.syn ∧
       t.fc = State.reset.fc ∧ t.lanes = State.reset.lanes ∧ t.phases = State.reset.phases ∧
       t.mixers = State.reset.mixers ∧ t.inputs = State.reset.inputs ∧ t.os = State.reset.os ∧
       t.ref = State.reset.ref ∧ t.probe = State.reset.probe ∧
       t.time = { State.reset.time with startDelay := none } ∧ t.store.inFlight = none ∧
       t.pu.device = ⟨false, false, false, false, false⟩ ∧
       (∀ x, t.protection x = { present := ⟨false, false, false, false⟩, highest := 0, level := 0
                                hold := none, cause := none, holding := false, trips := []
                                lockedOut := false }) ∧
       (∀ x, (t.seq x).state.driveOn = false ∧ (t.seq x).state.paOn = false) ∧
       (∀ p, (t.port p).attention = false ∧ t.port p = { State.reset.port p with
         notices := 0
         beforeReset := if s.phase = .held then (s.port p).beforeReset
           else (s.port p).lastResponse :: (s.port p).beforeReset }) ∧
       (∀ r, (t.record r).image = (s.record r).image ∧ (t.record r).pendingContent = none ∧
         (t.record r).retryUsed = false ∧ (t.record r).retry = none ∧
         (t.record r).failures = (if below50 = true then 0 else (s.record r).failures)) ∧
       (below80 = true → below50 = false → t.supply.sawBelow80 = true) ∧
       (below50 = true → t.supply.sawBelow50 = true ∧ t.supply.undervoltageSeen = false) ∧
       (below50 = false → t.supply.undervoltageSeen = s.supply.undervoltageSeen ∧
         t.supply.lastCause = s.supply.lastCause) ∧
       (pin = true → t.supply.pinAsserted = true) ∧ t.pending = s.pending) ∧
  (∀ (s : State) (m : HalfPercent), s.phase = .held →
     let noted := { s.supply with
       measurement := m, sawBelow80 := s.supply.sawBelow80 || decide (m.val < 160) }
     (100 ≤ m.val → exec (.supplyMeasurement m) s = .next { s with supply := noted }) ∧
     (m.val < 100 → exec (.supplyMeasurement m) s = .next { s with
       supply := { noted with lastCause := .powerOn, undervoltageSeen := false, sawBelow50 := true }
       store := { s.store with
         records := ⟨{ s.store.records.site with failures := 0 },
           { s.store.records.dflt with failures := 0 }⟩ } }) ∧
     exec .resetPinAssert s = .next { s with supply := { s.supply with pinAsserted := true } }) ∧
  (∀ (s : State) (m : HalfPercent) (pin : Bool) (strap : Strap), s.phase = .held →
     (170 ≤ m.val → pin = false →
       ∃ t, exec (.resetRelease m pin strap) s = .next t ∧ t.phase = .startDelay ∧
         t.time = { State.reset.time with
           startDelay := some (match strap with | .short => 10 | .long => 200) } ∧
         t.supply = { s.supply with
           state := if m.val < 180 then .warning else .normal
           measurement := m
           lastCause := if s.supply.sawBelow50 then .powerOn
             else if s.supply.sawBelow80 then .undervoltage else .pin
           undervoltageSeen := if s.supply.sawBelow50 then false
             else if s.supply.sawBelow80 then true else s.supply.undervoltageSeen
           sawBelow50 := false, sawBelow80 := false, pinAsserted := false } ∧
         (∀ r, (t.record r).image = (s.record r).image ∧
           (t.record r).status = imageStatus r (s.record r).image ∧
           (t.record r).failures = (s.record r).failures ∧ (t.record r).pendingContent = none ∧
           t.store.startStatuses.get r = (t.record r).status) ∧ t.store.inFlight = none ∧
         t.pu.device = { refAbsent := true, refExpired := false, refHoldover := false
                         linksSilent := true, supplyWarning := decide (m.val < 180) } ∧
         t.pu.chains = State.reset.pu.chains ∧ t.os = State.reset.os ∧ t.syn = State.reset.syn ∧
         t.fc = State.reset.fc ∧ t.lanes = State.reset.lanes ∧ t.phases = State.reset.phases ∧
         t.mixers = State.reset.mixers ∧ t.inputs = State.reset.inputs ∧ t.probe = State.reset.probe ∧
         (∀ p, t.port p = { State.reset.port p with beforeReset := (s.port p).beforeReset }) ∧
         t.pe = State.reset.pe ∧ t.ref = State.reset.ref ∧ t.pending = s.pending) ∧
     (m.val < 170 ∨ pin = true →
       ∃ t, exec (.resetRelease m pin strap) s = .next t ∧ t.phase = .held ∧
         t.supply.measurement = m ∧ t.supply.pinAsserted = pin ∧
         t.supply.sawBelow80 = (s.supply.sawBelow80 || decide (m.val < 160)) ∧
         (∀ r, (t.record r).image = (s.record r).image) ∧ t.pe = s.pe ∧ t.os = s.os))

/-- The empty plan with every default (R1, R3, R7, R8). Start-up selection (R35, R94, R137, R161, R162): the
plan by its table, the last issued number, the loaded lockout set with its chains LOCKED_OUT, every lane HELD
on its slot, the receive LOs taken, and no apply, write or ramp: the mixers take their ramp units and their
timers stay as they are. The chains are still OFF at level 3 and the target shares 0, as they are from reset
release. -/
def Obligations.StartUpLoadsPlan : Prop :=
  (Plan.empty.issue = 0 ∧ Plan.empty.origin = .empty ∧ (∀ r, Plan.empty.rx.get r = none) ∧
    (∀ n, Plan.empty.slots.get n = none) ∧
    (∀ x, Plan.empty.tx.get x =
      { enabled := false, lo := none, rampUnit := 10, driveSettle := 20, paDischarge := 50 }) ∧
    Plan.empty.severities =
      { refAbsent := 3, txLoLost := 2, txLoUnverified := 3, paFault := 3, refExpired := 3
        supplyWarning := 1, paWarning := 1, refHoldover := 0, linksSilent := 0 } ∧
    Plan.empty.limits =
      { recoveryHold := 10, tripLimit := 3, tripWindow := 10, holdoverAllowance := 240, qualifyTime := 10
        lossConfirm := 5, restoreConfirm := 30, restoreVisits := 3, attempts := 3, settle := 20
        gateExponent := 3, countTolerance := 50, auditInterval := 300, retryHold := 120, probation := 120
        linkSilence := 5 }) ∧
  ∀ (s : State) (d : Nat), s.phase = .startDelay → s.time.startDelay = some d → s.LanesSound →
    (∀ x, (s.seq x).state = .off ∧ (s.protection x).level = 3) → (∀ n, (s.lane n).target = 0) →
    let site := s.store.records.site
    let dflt := s.store.records.dflt
    let plan : Plan :=
      if site.status = .valid then { storedPlan site.image with origin := .storeSite }
      else if dflt.status = .valid then { storedPlan dflt.image with origin := .storeDefault }
      else Plan.empty
    let lockout : PerTx Bool :=
      if site.status = .valid then storedLockout site.image else ⟨false, false, false, false⟩
    let issue (r : StoredRecord) : Nat := if r.status = .valid then (storedPlan r.image).issue else 0
    ∃ t, exec .startUpSelection s = .next t ∧ t.phase = .running ∧ t.time.startDelay = none ∧
      t.pe = { s.pe with active := plan, lastIssued := max (issue site) (issue dflt) } ∧
      t.store.startSource = plan.origin ∧ t.store.records = s.store.records ∧
      t.supply = s.supply ∧ t.pending = s.pending ∧
      t.store.inFlight = s.store.inFlight ∧
      (∀ x, (t.protection x).lockedOut = lockout.get x ∧
        (t.seq x).state = (if lockout.get x = true then .lockedOut else .off) ∧
        (t.seq x).handedOver = plan.tuningLo x ∧ (t.seq x).driveSettle = (plan.tx.get x).driveSettle ∧
        (t.seq x).paDischarge = (plan.tx.get x).paDischarge ∧
        t.mixer x = { s.mixer x with rampUnit := (plan.tx.get x).rampUnit }) ∧
      (∀ n, (t.lane n).slot = plan.slots.get n) ∧
      (∀ n e, plan.slots.get n = some e → (t.lane n).state = .held ∧ (t.lane n).current = 0 ∧
        (t.input n).inputState = some .livePrimary ∧ (t.input n).source = .primary) ∧
      (∀ r l, plan.rx.get r = some l → (t.synth (.rx r)).wanted = some l) ∧
      (∀ p, (t.port p).linkSilence = plan.limits.linkSilence)
end

