-- ==== Sys2Proof/Laws/State.lean ====
section
/-! SUPPORT. What each write of one register leaves unchanged, and what it is read back as: one lemma per
update, with one equation per field, all true by rfl. -/

namespace Sys2Proof.Machine

/-! ## Containers -/

@[simp] theorem PerPort.get_put_same {α : Type} (v : PerPort α) (k : Port) (x : α) : (v.put k x).get k = x := by
  cases k <;> rfl

theorem PerPort.get_put_other {α : Type} (v : PerPort α) {k j : Port} (x : α) (h : j ≠ k) :
    (v.put k x).get j = v.get j := by
  cases k <;> cases j <;> first | rfl | exact absurd rfl h

theorem PerPort.get_put {α : Type} (v : PerPort α) (k j : Port) (x : α) :
    (v.put k x).get j = if j = k then x else v.get j := by
  split
  · next h => subst h; simp
  · next h => exact v.get_put_other x h

@[simp] theorem PerRx.get_put_same {α : Type} (v : PerRx α) (k : Rx) (x : α) : (v.put k x).get k = x := by
  cases k <;> rfl

theorem PerRx.get_put_other {α : Type} (v : PerRx α) {k j : Rx} (x : α) (h : j ≠ k) :
    (v.put k x).get j = v.get j := by
  cases k <;> cases j <;> first | rfl | exact absurd rfl h

theorem PerRx.get_put {α : Type} (v : PerRx α) (k j : Rx) (x : α) :
    (v.put k x).get j = if j = k then x else v.get j := by
  split
  · next h => subst h; simp
  · next h => exact v.get_put_other x h

@[simp] theorem PerTx.get_put_same {α : Type} (v : PerTx α) (k : Tx) (x : α) : (v.put k x).get k = x := by
  cases k <;> rfl

theorem PerTx.get_put_other {α : Type} (v : PerTx α) {k j : Tx} (x : α) (h : j ≠ k) :
    (v.put k x).get j = v.get j := by
  cases k <;> cases j <;> first | rfl | exact absurd rfl h

theorem PerTx.get_put {α : Type} (v : PerTx α) (k j : Tx) (x : α) :
    (v.put k x).get j = if j = k then x else v.get j := by
  split
  · next h => subst h; simp
  · next h => exact v.get_put_other x h

@[simp] theorem PerChain.get_put_same {α : Type} (v : PerChain α) (k : Chain) (x : α) : (v.put k x).get k = x := by
  rcases k with (_ | _) | (_ | _ | _ | _) <;> rfl

theorem PerChain.get_put_other {α : Type} (v : PerChain α) {k j : Chain} (x : α) (h : j ≠ k) :
    (v.put k x).get j = v.get j := by
  (rcases k with (_ | _) | (_ | _ | _ | _)) <;> (rcases j with (_ | _) | (_ | _ | _ | _)) <;> first | rfl | exact absurd rfl h

theorem PerChain.get_put {α : Type} (v : PerChain α) (k j : Chain) (x : α) :
    (v.put k x).get j = if j = k then x else v.get j := by
  split
  · next h => subst h; simp
  · next h => exact v.get_put_other x h

@[simp] theorem PerRecord.get_put_same {α : Type} (v : PerRecord α) (k : RecordName) (x : α) : (v.put k x).get k = x := by
  cases k <;> rfl

theorem PerRecord.get_put_other {α : Type} (v : PerRecord α) {k j : RecordName} (x : α) (h : j ≠ k) :
    (v.put k x).get j = v.get j := by
  cases k <;> cases j <;> first | rfl | exact absurd rfl h

theorem PerRecord.get_put {α : Type} (v : PerRecord α) (k j : RecordName) (x : α) :
    (v.put k x).get j = if j = k then x else v.get j := by
  split
  · next h => subst h; simp
  · next h => exact v.get_put_other x h

@[simp] theorem PerSlot.get_put_same {α : Type} (v : PerSlot α) (n : Slot) (x : α) :
    PerSlot.get (PerSlot.put v n x) n = x := by
  simp [PerSlot.get, PerSlot.put]

theorem PerSlot.get_put_other {α : Type} (v : PerSlot α) {n m : Slot} (x : α) (h : m ≠ n) :
    PerSlot.get (PerSlot.put v n x) m = PerSlot.get v m := by
  have : n.val ≠ m.val := fun e => h (Fin.ext e.symm)
  simp [PerSlot.get, PerSlot.put, Vector.getElem_set_ne, this]

theorem PerSlot.get_put {α : Type} (v : PerSlot α) (n m : Slot) (x : α) :
    PerSlot.get (PerSlot.put v n x) m = if m = n then x else PerSlot.get v m := by
  split
  · next h => subst h; simp
  · next h => exact PerSlot.get_put_other v x h

/-! ## One write leaves every other component as it was -/

@[simp] theorem State.setLane_keeps (s : State) (n : Slot) (x : Lane) :
    (s.setLane n x).phase = s.phase ∧
      (s.setLane n x).time = s.time ∧
      (s.setLane n x).ref = s.ref ∧
      (s.setLane n x).pe = s.pe ∧
      (s.setLane n x).syn = s.syn ∧
      (s.setLane n x).fc = s.fc ∧
      (s.setLane n x).phases = s.phases ∧
      (s.setLane n x).mixers = s.mixers ∧
      (s.setLane n x).inputs = s.inputs ∧
      (s.setLane n x).probe = s.probe ∧
      (s.setLane n x).os = s.os ∧
      (s.setLane n x).pu = s.pu ∧
      (s.setLane n x).store = s.store ∧
      (s.setLane n x).supply = s.supply ∧
      (s.setLane n x).ports = s.ports ∧
      (s.setLane n x).draws = s.draws ∧
      (s.setLane n x).pending = s.pending := by
  refine ⟨rfl, rfl, rfl, rfl, rfl, rfl, rfl, rfl, rfl, rfl, rfl, rfl, rfl, rfl, rfl, rfl, rfl⟩

@[simp] theorem State.setPhase_keeps (s : State) (n : Slot) (x : Phases) :
    (s.setPhase n x).phase = s.phase ∧
      (s.setPhase n x).time = s.time ∧
      (s.setPhase n x).ref = s.ref ∧
      (s.setPhase n x).pe = s.pe ∧
      (s.setPhase n x).syn = s.syn ∧
      (s.setPhase n x).fc = s.fc ∧
      (s.setPhase n x).lanes = s.lanes ∧
      (s.setPhase n x).mixers = s.mixers ∧
      (s.setPhase n x).inputs = s.inputs ∧
      (s.setPhase n x).probe = s.probe ∧
      (s.setPhase n x).os = s.os ∧
      (s.setPhase n x).pu = s.pu ∧
      (s.setPhase n x).store = s.store ∧
      (s.setPhase n x).supply = s.supply ∧
      (s.setPhase n x).ports = s.ports ∧
      (s.setPhase n x).draws = s.draws ∧
      (s.setPhase n x).pending = s.pending := by
  refine ⟨rfl, rfl, rfl, rfl, rfl, rfl, rfl, rfl, rfl, rfl, rfl, rfl, rfl, rfl, rfl, rfl, rfl⟩

@[simp] theorem State.setInput_keeps (s : State) (n : Slot) (x : InputRecord) :
    (s.setInput n x).phase = s.phase ∧
      (s.setInput n x).time = s.time ∧
      (s.setInput n x).ref = s.ref ∧
      (s.setInput n x).pe = s.pe ∧
      (s.setInput n x).syn = s.syn ∧
      (s.setInput n x).fc = s.fc ∧
      (s.setInput n x).lanes = s.lanes ∧
      (s.setInput n x).phases = s.phases ∧
      (s.setInput n x).mixers = s.mixers ∧
      (s.setInput n x).probe = s.probe ∧
      (s.setInput n x).os = s.os ∧
      (s.setInput n x).pu = s.pu ∧
      (s.setInput n x).store = s.store ∧
      (s.setInput n x).supply = s.supply ∧
      (s.setInput n x).ports = s.ports ∧
      (s.setInput n x).draws = s.draws ∧
      (s.setInput n x).pending = s.pending := by
  refine ⟨rfl, rfl, rfl, rfl, rfl, rfl, rfl, rfl, rfl, rfl, rfl, rfl, rfl, rfl, rfl, rfl, rfl⟩

@[simp] theorem State.setSynth_keeps (s : State) (c : Chain) (x : SynContext) :
    (s.setSynth c x).phase = s.phase ∧
      (s.setSynth c x).time = s.time ∧
      (s.setSynth c x).ref = s.ref ∧
      (s.setSynth c x).pe = s.pe ∧
      (s.setSynth c x).fc = s.fc ∧
      (s.setSynth c x).lanes = s.lanes ∧
      (s.setSynth c x).phases = s.phases ∧
      (s.setSynth c x).mixers = s.mixers ∧
      (s.setSynth c x).inputs = s.inputs ∧
      (s.setSynth c x).probe = s.probe ∧
      (s.setSynth c x).os = s.os ∧
      (s.setSynth c x).pu = s.pu ∧
      (s.setSynth c x).store = s.store ∧
      (s.setSynth c x).supply = s.supply ∧
      (s.setSynth c x).ports = s.ports ∧
      (s.setSynth c x).draws = s.draws ∧
      (s.setSynth c x).pending = s.pending := by
  refine ⟨rfl, rfl, rfl, rfl, rfl, rfl, rfl, rfl, rfl, rfl, rfl, rfl, rfl, rfl, rfl, rfl, rfl⟩

@[simp] theorem State.setSeq_keeps (s : State) (t : Tx) (x : Sequencer) :
    (s.setSeq t x).phase = s.phase ∧
      (s.setSeq t x).time = s.time ∧
      (s.setSeq t x).ref = s.ref ∧
      (s.setSeq t x).pe = s.pe ∧
      (s.setSeq t x).syn = s.syn ∧
      (s.setSeq t x).fc = s.fc ∧
      (s.setSeq t x).lanes = s.lanes ∧
      (s.setSeq t x).phases = s.phases ∧
      (s.setSeq t x).mixers = s.mixers ∧
      (s.setSeq t x).inputs = s.inputs ∧
      (s.setSeq t x).probe = s.probe ∧
      (s.setSeq t x).pu = s.pu ∧
      (s.setSeq t x).store = s.store ∧
      (s.setSeq t x).supply = s.supply ∧
      (s.setSeq t x).ports = s.ports ∧
      (s.setSeq t x).draws = s.draws ∧
      (s.setSeq t x).pending = s.pending := by
  refine ⟨rfl, rfl, rfl, rfl, rfl, rfl, rfl, rfl, rfl, rfl, rfl, rfl, rfl, rfl, rfl, rfl, rfl⟩

@[simp] theorem State.setMixer_keeps (s : State) (t : Tx) (x : Mixer) :
    (s.setMixer t x).phase = s.phase ∧
      (s.setMixer t x).time = s.time ∧
      (s.setMixer t x).ref = s.ref ∧
      (s.setMixer t x).pe = s.pe ∧
      (s.setMixer t x).syn = s.syn ∧
      (s.setMixer t x).fc = s.fc ∧
      (s.setMixer t x).lanes = s.lanes ∧
      (s.setMixer t x).phases = s.phases ∧
      (s.setMixer t x).inputs = s.inputs ∧
      (s.setMixer t x).probe = s.probe ∧
      (s.setMixer t x).os = s.os ∧
      (s.setMixer t x).pu = s.pu ∧
      (s.setMixer t x).store = s.store ∧
      (s.setMixer t x).supply = s.supply ∧
      (s.setMixer t x).ports = s.ports ∧
      (s.setMixer t x).draws = s.draws ∧
      (s.setMixer t x).pending = s.pending := by
  refine ⟨rfl, rfl, rfl, rfl, rfl, rfl, rfl, rfl, rfl, rfl, rfl, rfl, rfl, rfl, rfl, rfl, rfl⟩

@[simp] theorem State.setProtection_keeps (s : State) (t : Tx) (x : ChainProtection) :
    (s.setProtection t x).phase = s.phase ∧
      (s.setProtection t x).time = s.time ∧
      (s.setProtection t x).ref = s.ref ∧
      (s.setProtection t x).pe = s.pe ∧
      (s.setProtection t x).syn = s.syn ∧
      (s.setProtection t x).fc = s.fc ∧
      (s.setProtection t x).lanes = s.lanes ∧
      (s.setProtection t x).phases = s.phases ∧
      (s.setProtection t x).mixers = s.mixers ∧
      (s.setProtection t x).inputs = s.inputs ∧
      (s.setProtection t x).probe = s.probe ∧
      (s.setProtection t x).os = s.os ∧
      (s.setProtection t x).store = s.store ∧
      (s.setProtection t x).supply = s.supply ∧
      (s.setProtection t x).ports = s.ports ∧
      (s.setProtection t x).draws = s.draws ∧
      (s.setProtection t x).pending = s.pending := by
  refine ⟨rfl, rfl, rfl, rfl, rfl, rfl, rfl, rfl, rfl, rfl, rfl, rfl, rfl, rfl, rfl, rfl, rfl⟩

@[simp] theorem State.setRecord_keeps (s : State) (r : RecordName) (x : StoredRecord) :
    (s.setRecord r x).phase = s.phase ∧
      (s.setRecord r x).time = s.time ∧
      (s.setRecord r x).ref = s.ref ∧
      (s.setRecord r x).pe = s.pe ∧
      (s.setRecord r x).syn = s.syn ∧
      (s.setRecord r x).fc = s.fc ∧
      (s.setRecord r x).lanes = s.lanes ∧
      (s.setRecord r x).phases = s.phases ∧
      (s.setRecord r x).mixers = s.mixers ∧
      (s.setRecord r x).inputs = s.inputs ∧
      (s.setRecord r x).probe = s.probe ∧
      (s.setRecord r x).os = s.os ∧
      (s.setRecord r x).pu = s.pu ∧
      (s.setRecord r x).supply = s.supply ∧
      (s.setRecord r x).ports = s.ports ∧
      (s.setRecord r x).draws = s.draws ∧
      (s.setRecord r x).pending = s.pending := by
  refine ⟨rfl, rfl, rfl, rfl, rfl, rfl, rfl, rfl, rfl, rfl, rfl, rfl, rfl, rfl, rfl, rfl, rfl⟩

@[simp] theorem State.setPort_keeps (s : State) (p : Port) (x : PortState) :
    (s.setPort p x).phase = s.phase ∧
      (s.setPort p x).time = s.time ∧
      (s.setPort p x).ref = s.ref ∧
      (s.setPort p x).pe = s.pe ∧
      (s.setPort p x).syn = s.syn ∧
      (s.setPort p x).fc = s.fc ∧
      (s.setPort p x).lanes = s.lanes ∧
      (s.setPort p x).phases = s.phases ∧
      (s.setPort p x).mixers = s.mixers ∧
      (s.setPort p x).inputs = s.inputs ∧
      (s.setPort p x).probe = s.probe ∧
      (s.setPort p x).os = s.os ∧
      (s.setPort p x).pu = s.pu ∧
      (s.setPort p x).store = s.store ∧
      (s.setPort p x).supply = s.supply ∧
      (s.setPort p x).draws = s.draws ∧
      (s.setPort p x).pending = s.pending := by
  refine ⟨rfl, rfl, rfl, rfl, rfl, rfl, rfl, rfl, rfl, rfl, rfl, rfl, rfl, rfl, rfl, rfl, rfl⟩

/-! ## A write is read back -/

@[simp] theorem State.lane_setLane_same (s : State) (n : Slot) (x : Lane) : (s.setLane n x).lane n = x :=
  PerSlot.get_put_same ..

theorem State.lane_setLane (s : State) (n : Slot) (x : Lane) (j : Slot) :
    (s.setLane n x).lane j = if j = n then x else s.lane j :=
  PerSlot.get_put ..

@[simp] theorem State.phaseOf_setPhase_same (s : State) (n : Slot) (x : Phases) : (s.setPhase n x).phaseOf n = x :=
  PerSlot.get_put_same ..

theorem State.phaseOf_setPhase (s : State) (n : Slot) (x : Phases) (j : Slot) :
    (s.setPhase n x).phaseOf j = if j = n then x else s.phaseOf j :=
  PerSlot.get_put ..

@[simp] theorem State.input_setInput_same (s : State) (n : Slot) (x : InputRecord) : (s.setInput n x).input n = x :=
  PerSlot.get_put_same ..

theorem State.input_setInput (s : State) (n : Slot) (x : InputRecord) (j : Slot) :
    (s.setInput n x).input j = if j = n then x else s.input j :=
  PerSlot.get_put ..

@[simp] theorem State.synth_setSynth_same (s : State) (c : Chain) (x : SynContext) : (s.setSynth c x).synth c = x :=
  PerChain.get_put_same ..

theorem State.synth_setSynth (s : State) (c : Chain) (x : SynContext) (j : Chain) :
    (s.setSynth c x).synth j = if j = c then x else s.synth j :=
  PerChain.get_put ..

@[simp] theorem State.seq_setSeq_same (s : State) (t : Tx) (x : Sequencer) : (s.setSeq t x).seq t = x :=
  PerTx.get_put_same ..

theorem State.seq_setSeq (s : State) (t : Tx) (x : Sequencer) (j : Tx) :
    (s.setSeq t x).seq j = if j = t then x else s.seq j :=
  PerTx.get_put ..

@[simp] theorem State.mixer_setMixer_same (s : State) (t : Tx) (x : Mixer) : (s.setMixer t x).mixer t = x :=
  PerTx.get_put_same ..

theorem State.mixer_setMixer (s : State) (t : Tx) (x : Mixer) (j : Tx) :
    (s.setMixer t x).mixer j = if j = t then x else s.mixer j :=
  PerTx.get_put ..

@[simp] theorem State.protection_setProtection_same (s : State) (t : Tx) (x : ChainProtection) : (s.setProtection t x).protection t = x :=
  PerTx.get_put_same ..

theorem State.protection_setProtection (s : State) (t : Tx) (x : ChainProtection) (j : Tx) :
    (s.setProtection t x).protection j = if j = t then x else s.protection j :=
  PerTx.get_put ..

@[simp] theorem State.record_setRecord_same (s : State) (r : RecordName) (x : StoredRecord) : (s.setRecord r x).record r = x :=
  PerRecord.get_put_same ..

theorem State.record_setRecord (s : State) (r : RecordName) (x : StoredRecord) (j : RecordName) :
    (s.setRecord r x).record j = if j = r then x else s.record j :=
  PerRecord.get_put ..

@[simp] theorem State.port_setPort_same (s : State) (p : Port) (x : PortState) : (s.setPort p x).port p = x :=
  PerPort.get_put_same ..

theorem State.port_setPort (s : State) (p : Port) (x : PortState) (j : Port) :
    (s.setPort p x).port j = if j = p then x else s.port j :=
  PerPort.get_put ..

/-! ## The Protection Unit's and the Plan Store's other fields -/

@[simp] theorem State.setProtection_device (s : State) (t : Tx) (x : ChainProtection) :
    (s.setProtection t x).pu.device = s.pu.device := rfl

@[simp] theorem State.setRecord_rest (s : State) (r : RecordName) (x : StoredRecord) :
    (s.setRecord r x).store.inFlight = s.store.inFlight ∧
      (s.setRecord r x).store.startSource = s.store.startSource ∧
      (s.setRecord r x).store.startStatuses = s.store.startStatuses := ⟨rfl, rfl, rfl⟩

end Sys2Proof.Machine
end

