-- ==== Sys2Proof/Laws/Frames.lean ====
section
/-! SUPPORT. The frame of each shared operation: what it can change, said once, so that later proofs cite it
and never unfold the operation. -/

namespace Sys2Proof.Machine

/-! ## Frames compose -/

theorem LaneFrame.refl (s : State) : LaneFrame s s := by constructor <;> rfl

theorem LaneFrame.trans {s t u : State} (a : LaneFrame s t) (b : LaneFrame t u) : LaneFrame s u := by
  constructor
  exacts [b.phase.trans a.phase, b.time.trans a.time, b.ref.trans a.ref, b.pe.trans a.pe,
    b.syn.trans a.syn, b.fc.trans a.fc, b.probe.trans a.probe, b.os.trans a.os, b.pu.trans a.pu,
    b.store.trans a.store, b.supply.trans a.supply, b.ports.trans a.ports, b.draws.trans a.draws,
    b.pending.trans a.pending]

theorem SynthFrame.refl (s : State) : SynthFrame s s := by constructor <;> rfl

theorem SynthFrame.trans {s t u : State} (a : SynthFrame s t) (b : SynthFrame t u) :
    SynthFrame s u := by
  constructor
  exacts [b.phase.trans a.phase, b.time.trans a.time, b.ref.trans a.ref, b.pe.trans a.pe,
    b.phases.trans a.phases, b.mixers.trans a.mixers, b.inputs.trans a.inputs, b.probe.trans a.probe,
    b.os.trans a.os, b.store.trans a.store, b.supply.trans a.supply, b.ports.trans a.ports,
    b.draws.trans a.draws, b.pending.trans a.pending]

theorem SeqFrame.refl (s : State) : SeqFrame s s := by constructor <;> rfl

theorem SeqFrame.trans {s t u : State} (a : SeqFrame s t) (b : SeqFrame t u) : SeqFrame s u := by
  constructor
  exacts [b.phase.trans a.phase, b.time.trans a.time, b.ref.trans a.ref, b.pe.trans a.pe,
    b.store.trans a.store, b.supply.trans a.supply, b.draws.trans a.draws, b.pending.trans a.pending]

theorem LaneFrame.toSeq {s t : State} (a : LaneFrame s t) : SeqFrame s t :=
  ⟨a.phase, a.time, a.ref, a.pe, a.store, a.supply, a.draws, a.pending⟩

theorem SynthFrame.toSeq {s t : State} (a : SynthFrame s t) : SeqFrame s t :=
  ⟨a.phase, a.time, a.ref, a.pe, a.store, a.supply, a.draws, a.pending⟩

theorem ProtFrame.refl (s : State) : ProtFrame s s :=
  ⟨rfl, rfl, rfl, rfl, rfl, rfl, .inl rfl⟩

/-- Once a probation failure has been taken the status is SETTLED, so no second one is (R55). -/
theorem failProbation_settled (e : PlanEngine) : e.failProbation.status = .settled := rfl

theorem ProtFrame.trans {s t u : State} (a : ProtFrame s t) (b : ProtFrame t u) : ProtFrame s u := by
  refine ⟨b.phase.trans a.phase, b.time.trans a.time, b.ref.trans a.ref, b.supply.trans a.supply,
    b.draws.trans a.draws, b.pending.trans a.pending, ?_⟩
  rcases a.pe with ha | ⟨hs, ha⟩
  · rcases b.pe with hb | ⟨hs, hb⟩
    · exact .inl (hb.trans ha)
    · exact .inr ⟨ha ▸ hs, ha ▸ hb⟩
  · rcases b.pe with hb | ⟨hs', _⟩
    · exact .inr ⟨hs, hb.trans ha⟩
    · rw [ha] at hs'; cases hs'

theorem SeqFrame.toProt {s t : State} (a : SeqFrame s t) : ProtFrame s t :=
  ⟨a.phase, a.time, a.ref, a.supply, a.draws, a.pending, .inl a.pe⟩

theorem ProtFrame.toRef {s t : State} (a : ProtFrame s t) : RefFrame s t :=
  ⟨a.phase, a.time, a.supply, a.draws, a.pending, a.pe⟩

theorem RefFrame.refl (s : State) : RefFrame s s := (ProtFrame.refl s).toRef

theorem RefFrame.trans {s t u : State} (a : RefFrame s t) (b : RefFrame t u) : RefFrame s u := by
  refine ⟨b.phase.trans a.phase, b.time.trans a.time, b.supply.trans a.supply, b.draws.trans a.draws,
    b.pending.trans a.pending, ?_⟩
  rcases a.pe with ha | ⟨hs, ha⟩
  · rcases b.pe with hb | ⟨hs, hb⟩
    · exact .inl (hb.trans ha)
    · exact .inr ⟨ha ▸ hs, ha ▸ hb⟩
  · rcases b.pe with hb | ⟨hs', _⟩
    · exact .inr ⟨hs, hb.trans ha⟩
    · rw [ha] at hs'; cases hs'

theorem TimeFrame.refl (s : State) : TimeFrame s s := by constructor <;> rfl

/-- A reflexive and transitive relation that one call keeps is kept by a fold of calls. -/
theorem foldl_related {α : Type} {R : State → State → Prop} (refl : ∀ s, R s s)
    (trans : ∀ {s t u}, R s t → R t u → R s u) {f : State → α → State} (h : ∀ s a, R s (f s a))
    (l : List α) (s : State) : R s (l.foldl f s) := by
  induction l generalizing s with
  | nil => exact refl s
  | cons a l ih => exact trans (h s a) (ih (f s a))

/-! ## Single writes -/

theorem setLane_frame (s : State) (n : Slot) (x : Lane) : LaneFrame s (s.setLane n x) := by
  constructor <;> rfl

theorem setPhase_frame (s : State) (n : Slot) (x : Phases) : LaneFrame s (s.setPhase n x) := by
  constructor <;> rfl

theorem setInput_frame (s : State) (n : Slot) (x : InputRecord) : LaneFrame s (s.setInput n x) := by
  constructor <;> rfl

theorem setMixer_frame (s : State) (t : Tx) (x : Mixer) : LaneFrame s (s.setMixer t x) := by
  constructor <;> rfl

theorem setSynth_frame (s : State) (c : Chain) (x : SynContext) : SynthFrame s (s.setSynth c x) := by
  constructor <;> rfl

theorem setProtection_frame (s : State) (t : Tx) (x : ChainProtection) :
    SynthFrame s (s.setProtection t x) := by
  constructor <;> rfl

theorem setSeq_frame (s : State) (t : Tx) (x : Sequencer) : SeqFrame s (s.setSeq t x) := by
  constructor <;> rfl

theorem setPort_frame (s : State) (p : Port) (x : PortState) : SeqFrame s (s.setPort p x) := by
  constructor <;> rfl

theorem notify_frame (s : State) (p : Port) (n : Notice) : SeqFrame s (s.notify p n) := by
  constructor <;> rfl

theorem notifyBoth_frame (s : State) (n : Notice) : SeqFrame s (s.notifyBoth n) := by
  constructor <;> rfl

/-- A notice on both ports adds one bit to each notice set and changes nothing else (R170). -/
theorem notifyBoth_eq (s : State) (n : Notice) :
    s.notifyBoth n =
      { s with ports :=
          ⟨{ s.ports.a with notices := s.ports.a.notices.add n },
           { s.ports.b with notices := s.ports.b.notices.add n }⟩ } := rfl

/-! ## Time -/

theorem passReference_frame (s : State) (k : Nat) : TimeFrame s (s.passReference k) := by
  constructor <;> rfl

theorem passBackup_frame (s : State) (k : Nat) : TimeFrame s (s.passBackup k) := by
  constructor <;> rfl

theorem advanceTo_frame (s : State) (d : Nat) : TimeFrame s (s.advanceTo d) := by
  unfold State.advanceTo
  dsimp only
  split
  · exact .refl s
  · split
    · constructor <;> rfl
    · constructor <;> rfl

/-- After an advance the step count is the one due, unless it was already passed (R66). -/
theorem advanceTo_steps (s : State) (d : Nat) :
    (s.advanceTo d).time.steps = max s.time.steps d := by
  unfold State.advanceTo
  dsimp only
  split
  · omega
  · split
    · show s.time.steps + (d - s.time.steps) = _
      omega
    · show s.time.steps + (d - s.time.steps) = _
      omega

/-- In reference states other than ABSENT an advance draws no free value. -/
theorem advanceTo_draws (s : State) (d : Nat) (h : s.ref.state ≠ .absent) :
    (s.advanceTo d).draws = s.draws := by
  unfold State.advanceTo
  dsimp only
  split
  · rfl
  · rfl

/-! ## Lanes and mixers -/

theorem markWindow_frame (s : State) (n : Slot) : LaneFrame s (s.markWindow n) :=
  setInput_frame ..

theorem decideLane_frame (s : State) (n : Slot) : LaneFrame s (s.decideLane n) := by
  unfold State.decideLane
  dsimp only
  split
  · exact setLane_frame ..
  · exact (setLane_frame ..).trans (markWindow_frame ..)

theorem startRamp_frame (s : State) (t : Tx) : LaneFrame s (s.startRamp t) :=
  (foldl_related .refl .trans (fun s n => setLane_frame s n _) _ s).trans (setMixer_frame ..)

theorem decideLanes_frame (s : State) (ns : List Slot) : LaneFrame s (s.decideLanes ns) :=
  (foldl_related .refl .trans decideLane_frame ns s).trans
    (foldl_related .refl .trans startRamp_frame _ _)

theorem fastMute_frame (s : State) (n : Slot) : LaneFrame s (s.fastMute n) := setLane_frame ..

theorem fastMuteChain_frame (s : State) (t : Tx) : LaneFrame s (s.fastMuteChain t) :=
  foldl_related .refl .trans fastMute_frame _ s

theorem stepRamp_frame (s : State) (t : Tx) : LaneFrame s (s.stepRamp t) :=
  (foldl_related .refl .trans (fun s n => setLane_frame s n _) _ s).trans (setMixer_frame ..)

theorem refreshLane_frame (s : State) (c : Chain) (n : Slot) :
    LaneFrame s (s.refreshLane c n) ∧ (s.refreshLane c n).phases = s.phases ∧
      (s.refreshLane c n).mixers = s.mixers ∧ (s.refreshLane c n).inputs = s.inputs := by
  unfold State.refreshLane
  split
  · exact ⟨.refl s, rfl, rfl, rfl⟩
  · exact ⟨setLane_frame .., rfl, rfl, rfl⟩

/-- A change of programmed words reaches the words of the lanes and nothing else (R97). -/
theorem refreshWords_frame (s : State) (c : Chain) :
    LaneFrame s (s.refreshWords c) ∧ (s.refreshWords c).phases = s.phases ∧
      (s.refreshWords c).mixers = s.mixers ∧ (s.refreshWords c).inputs = s.inputs := by
  refine foldl_related (R := fun s t => LaneFrame s t ∧ t.phases = s.phases ∧ t.mixers = s.mixers ∧
    t.inputs = s.inputs) (fun s => ⟨.refl s, rfl, rfl, rfl⟩) ?_ (fun s n => refreshLane_frame s c n) _ s
  rintro s t u ⟨a, a1, a2, a3⟩ ⟨b, b1, b2, b3⟩
  exact ⟨a.trans b, b1.trans a1, b2.trans a2, b3.trans a3⟩

theorem clearPhases_frame (s : State) (t : Tx) : LaneFrame s (s.clearPhases t) :=
  foldl_related .refl .trans (fun s n => (setLane_frame s n _).trans (setPhase_frame ..)) _ s

/-! ## Synthesizer controllers and counter -/

theorem joinQueue_frame (s : State) (c : Chain) (audit : Bool) : SynthFrame s (s.joinQueue c audit) := by
  unfold State.joinQueue
  split
  · exact .refl s
  · constructor <;> rfl

theorem leaveCounter_frame (s : State) (c : Chain) : SynthFrame s (s.leaveCounter c) := by
  constructor <;> rfl

theorem startMeasurement_frame (s : State) : SynthFrame s s.startMeasurement := by
  unfold State.startMeasurement
  split
  · exact .refl s
  · split
    · exact .refl s
    · dsimp only
      split <;> constructor <;> rfl

theorem spoilMeasurement_frame (s : State) : SynthFrame s s.spoilMeasurement := by
  constructor <;> rfl

theorem decideProtection_frame (s : State) (t : Tx) : SynthFrame s (s.decideProtection t) :=
  setProtection_frame ..

theorem withdrawSynth_frame (s : State) (c : Chain) : SynthFrame s (s.withdrawSynth c) := by
  unfold State.withdrawSynth
  split
  · exact .refl s
  · dsimp only
    split
    · exact .refl s
    · exact (setProtection_frame ..).trans (decideProtection_frame ..)

theorem startProgramming_frame (s : State) (c : Chain) : SynthFrame s (s.startProgramming c) :=
  setSynth_frame ..

theorem refreshWords_synth (s : State) (c : Chain) : SynthFrame s (s.refreshWords c) := by
  obtain ⟨a, h1, h2, h3⟩ := refreshWords_frame s c
  exact ⟨a.phase, a.time, a.ref, a.pe, h1, h2, h3, a.probe, a.os, a.store, a.supply, a.ports, a.draws,
    a.pending⟩

theorem goIdle_frame (s : State) (c : Chain) : SynthFrame s (s.goIdle c) :=
  ((setSynth_frame ..).trans (refreshWords_synth ..)).trans (withdrawSynth_frame ..)

theorem dropCycle_frame (s : State) (c : Chain) : SynthFrame s (s.dropCycle c) :=
  (leaveCounter_frame ..).trans (setSynth_frame ..)

theorem takeLo_frame (s : State) (c : Chain) (lo : Nat) : SynthFrame s (s.takeLo c lo) := by
  have dropped : SynthFrame s (((((s.dropCycle c).setSynth c
      { (s.dropCycle c).synth c with wanted := some lo, attempts := 0 }).startProgramming
      c).withdrawSynth c).startMeasurement) :=
    ((((dropCycle_frame s c).trans (setSynth_frame ..)).trans (startProgramming_frame ..)).trans
      (withdrawSynth_frame ..)).trans (startMeasurement_frame _)
  unfold State.takeLo
  dsimp only
  split
  · split
    · exact setSynth_frame ..
    · exact (setSynth_frame ..).trans (startProgramming_frame ..)
  · split <;> exact setSynth_frame ..
  all_goals exact dropped

theorem takeNone_frame (s : State) (c : Chain) : SynthFrame s (s.takeNone c) := by
  have dropped : SynthFrame s (((s.dropCycle c).goIdle c).startMeasurement) :=
    ((dropCycle_frame s c).trans (goIdle_frame ..)).trans (startMeasurement_frame _)
  unfold State.takeNone
  dsimp only
  split
  · exact setSynth_frame ..
  · split <;> exact setSynth_frame ..
  all_goals exact dropped

theorem takeWanted_frame (s : State) (c : Chain) (lo : Option Nat) :
    SynthFrame s (s.takeWanted c lo) := by
  unfold State.takeWanted
  split
  · exact .refl s
  · split
    · exact takeLo_frame ..
    · exact takeNone_frame ..

/-! ## Sequencers -/

theorem handOver_frame (s : State) (t : Tx) : SeqFrame s (s.handOver t) :=
  (setSeq_frame ..).trans (takeWanted_frame ..).toSeq

theorem moveSeq_frame (s : State) (t : Tx) (st : SeqState) : SeqFrame s (s.moveSeq t st) := by
  unfold State.moveSeq
  dsimp only
  refine SeqFrame.trans ?_ (decideLanes_frame ..).toSeq
  have base : SeqFrame s ((s.setSeq t (s.enterSeq t st)).notifyBoth .chainChanged) :=
    (setSeq_frame ..).trans (notifyBoth_frame ..)
  split
  · refine SeqFrame.trans ?_ (clearPhases_frame ..).toSeq
    split
    · exact base.trans (handOver_frame ..)
    · exact base
  · split
    · exact base.trans (handOver_frame ..)
    · exact base

theorem settleSeq_frame (fuel : Nat) (s : State) (t : Tx) : SeqFrame s (State.settleSeq fuel s t) := by
  induction fuel generalizing s with
  | zero => exact .refl s
  | succ fuel ih =>
    unfold State.settleSeq
    split
    · exact .refl s
    · exact (moveSeq_frame ..).trans (ih _)

theorem decideSeq_frame (s : State) (t : Tx) : SeqFrame s (s.decideSeq t) := by
  unfold State.decideSeq
  split
  · exact settleSeq_frame ..
  · exact .refl s

theorem seqSynthLost_frame (s : State) (t : Tx) : SeqFrame s (s.seqSynthLost t) := by
  unfold State.seqSynthLost
  dsimp only
  split
  · exact ((fastMuteChain_frame ..).toSeq.trans (moveSeq_frame ..)).trans (decideSeq_frame ..)
  · exact .refl s

theorem decideAllSeq_frame (s : State) : SeqFrame s s.decideAllSeq :=
  foldl_related .refl .trans decideSeq_frame _ s

/-! ## The writer -/

/-- `t` differs from `s` in the store's records and writer alone. -/
theorem startWrite_eq (s : State) (r : RecordName) :
    s.startWrite r = { s with store := (s.startWrite r).store } := by
  unfold State.startWrite
  split <;> rfl

theorem writerStart_eq (s : State) : s.writerStart = { s with store := s.writerStart.store } := by
  unfold State.writerStart
  split
  · split
    · exact startWrite_eq ..
    · split
      · exact startWrite_eq ..
      · rfl
  · rfl

theorem requestWrite_eq (s : State) (r : RecordName) (c : Content) :
    s.requestWrite r c = { s with store := (s.requestWrite r c).store } := by
  unfold State.requestWrite
  rw [writerStart_eq]
  rfl

/-- A SITE write request reaches the store and nothing else (R153). -/
theorem requestSite_eq (s : State) : s.requestSite = { s with store := s.requestSite.store } :=
  requestWrite_eq ..

theorem requestWrite_frame (s : State) (r : RecordName) (c : Content) :
    ProtFrame s (s.requestWrite r c) := by
  rw [requestWrite_eq]
  exact ⟨rfl, rfl, rfl, rfl, rfl, rfl, .inl rfl⟩

theorem writerStart_frame (s : State) : ProtFrame s s.writerStart := by
  rw [writerStart_eq]
  exact ⟨rfl, rfl, rfl, rfl, rfl, rfl, .inl rfl⟩

/-! ## Protection -/

theorem probationFailure_frame (s : State) : ProtFrame s s.probationFailure := by
  unfold State.probationFailure
  split
  · next h =>
    dsimp only
    split <;> exact ⟨rfl, rfl, rfl, rfl, rfl, rfl, .inr ⟨h, rfl⟩⟩
  · exact .refl s

theorem tellChange_frame (s : State) (b : Bool) : SeqFrame s (s.tellChange b) := by
  unfold State.tellChange
  split
  · exact notifyBoth_frame ..
  · exact .refl s

theorem tellLockout_frame (s : State) (b : Bool) : ProtFrame s (s.tellLockout b) := by
  unfold State.tellLockout
  split
  · exact (requestWrite_frame ..).trans (probationFailure_frame _)
  · exact .refl s

theorem tellChain_frame (s : State) (t : Tx) (b : Bool) : SeqFrame s (s.tellChain t b) := by
  unfold State.tellChain
  split
  · exact (decideLanes_frame ..).toSeq.trans (decideSeq_frame ..)
  · exact .refl s

theorem handProtection_frame (b s : State) (t : Tx) : ProtFrame s (State.handProtection b s t) :=
  ((tellChange_frame ..).toProt.trans (tellLockout_frame ..)).trans (tellChain_frame ..).toProt

theorem protect_frame (s : State) (t : Tx) : ProtFrame s (s.protect t) :=
  (decideProtection_frame ..).toSeq.toProt.trans (handProtection_frame ..)

theorem setDevice_frame (s : State) (d : DeviceConditions) : ProtFrame s (s.setDevice d) := by
  unfold State.setDevice
  split
  · exact .refl s
  · refine ProtFrame.trans ?_ (foldl_related .refl .trans protect_frame _ _)
    exact ⟨rfl, rfl, rfl, rfl, rfl, rfl, .inl rfl⟩

theorem setPresent_frame (s : State) (t : Tx) (c : ChainConditions) :
    ProtFrame s (s.setPresent t c) := by
  unfold State.setPresent
  split
  · exact .refl s
  · exact (setProtection_frame ..).toSeq.toProt.trans (protect_frame ..)

theorem reportSynth_frame (s : State) (c : Chain) : ProtFrame s (s.reportSynth c) := by
  unfold State.reportSynth
  split
  · exact .refl s
  · exact setPresent_frame ..

theorem soilProbe_frame (s : State) (r : Rx) : SeqFrame s (s.soilProbe r) := by
  unfold State.soilProbe
  split
  · exact .refl s
  · split
    · constructor <;> rfl
    · exact .refl s

theorem leftVerified_frame (s : State) (c : Chain) : SeqFrame s (s.leftVerified c) := by
  unfold State.leftVerified
  split
  · exact (((foldl_related .refl .trans fastMute_frame _ s).toSeq.trans (soilProbe_frame ..)).trans
      (decideLanes_frame ..).toSeq).trans (decideAllSeq_frame _)
  · exact seqSynthLost_frame ..

theorem enteredVerified_frame (s : State) (c : Chain) : SeqFrame s (s.enteredVerified c) := by
  unfold State.enteredVerified
  split
  · exact (decideLanes_frame ..).toSeq
  · exact decideSeq_frame ..

theorem takeRxLo_frame (s : State) (r : Rx) : SeqFrame s (s.takeRxLo r) := by
  unfold State.takeRxLo
  dsimp only
  split
  · exact (takeWanted_frame ..).toSeq.trans (leftVerified_frame ..)
  · exact (takeWanted_frame ..).toSeq

theorem enterFailed_frame (s : State) (c : Chain) : ProtFrame s (s.enterFailed c) := by
  unfold State.enterFailed
  dsimp only
  refine ProtFrame.trans ?_ (reportSynth_frame ..)
  split
  · exact ((setSynth_frame ..).toSeq.trans (notifyBoth_frame ..)).toProt.trans
      (probationFailure_frame _)
  · exact ((setSynth_frame ..).toSeq.trans (notifyBoth_frame ..)).toProt

theorem failedAttempt_frame (s : State) (c : Chain) : ProtFrame s (s.failedAttempt c) := by
  unfold State.failedAttempt
  split
  · exact (startProgramming_frame ..).toSeq.toProt
  · exact enterFailed_frame ..

/-- A change of reference state sets the Reference Monitor's context and hands the rest on (R61, R63). -/
theorem setReference_frame (s : State) (st : RefState) :
    RefFrame s (s.setReference st) ∧ (s.setReference st).ref = s.enterReference st := by
  unfold State.setReference
  dsimp only
  have h0 : RefFrame s ({ s with ref := s.enterReference st }.notifyBoth .referenceChanged) :=
    ⟨rfl, rfl, rfl, rfl, rfl, .inl rfl⟩
  have h1 (u : State) (hu : ProtFrame ({ s with ref := s.enterReference st }.notifyBoth
      .referenceChanged) u) : RefFrame s u ∧ u.ref = s.enterReference st :=
    ⟨h0.trans hu.toRef, hu.ref⟩
  apply h1
  have h2 : ProtFrame ({ s with ref := s.enterReference st }.notifyBoth .referenceChanged)
      (if st = .absent then
        ({ s with ref := s.enterReference st }.notifyBoth .referenceChanged).spoilMeasurement
       else { s with ref := s.enterReference st }.notifyBoth .referenceChanged) := by
    split
    · exact (spoilMeasurement_frame _).toSeq.toProt
    · exact .refl _
  split
  · exact (h2.trans (setDevice_frame ..)).trans (startMeasurement_frame _).toSeq.toProt
  · exact h2.trans (setDevice_frame ..)

end Sys2Proof.Machine
end

