-- ==== Sys2Proof/Laws/Blocks.lean ====
section
/-! SUPPORT. The frames of the operations behind the events: the Input Supervisor, the apply, start-up, the
counter's verdicts, the Reference Monitor and the ports. -/

namespace Sys2Proof.Machine

/-! ## Input Supervisor -/

theorem startVisit_frame (s : State) : SeqFrame s s.startVisit := by
  unfold State.startVisit
  split
  · exact .refl s
  · split
    · exact .refl s
    · constructor <;> rfl

theorem abandonVisit_frame (s : State) (n : Slot) : SeqFrame s (s.abandonVisit n) := by
  unfold State.abandonVisit
  split
  · constructor <;> rfl
  · exact .refl s

theorem changeInput_frame (s : State) (n : Slot) (i : InputRecord) : SeqFrame s (s.changeInput n i) := by
  unfold State.changeInput
  dsimp only
  refine SeqFrame.trans ?_ (startVisit_frame _)
  have h0 : SeqFrame s ((s.setInput n i).notifyBoth .inputChangeover) :=
    (setInput_frame ..).toSeq.trans (notifyBoth_frame ..)
  have h1 (u : State) (b : Bool) (h : SeqFrame s u) : SeqFrame s (if b = true then u.markWindow n else u) := by
    split
    · exact h.trans (markWindow_frame ..).toSeq
    · exact h
  have h2 (u : State) (b : Bool) (h : SeqFrame s u) : SeqFrame s (if b = true then u.fastMute n else u) := by
    split
    · exact h.trans (fastMute_frame ..).toSeq
    · exact h
  have h3 (u : State) (b : Bool) (h : SeqFrame s u) : SeqFrame s (if b = true then u.decideAllSeq else u) := by
    split
    · exact h.trans (decideAllSeq_frame _)
    · exact h
  exact h3 _ _ ((h2 _ _ (h1 _ _ h0)).trans (decideLanes_frame ..).toSeq)

theorem countLow_frame (s : State) (n : Slot) (i : InputRecord) (live : InputState) (fb : Bool) :
    SeqFrame s (s.countLow n i live fb) := by
  unfold State.countLow
  split
  · exact (setInput_frame ..).toSeq
  · exact (setInput_frame ..).toSeq
  · dsimp only
    split
    · exact (setInput_frame ..).toSeq
    · split <;> exact changeInput_frame ..

theorem countGood_frame (s : State) (n : Slot) (i : InputRecord) : SeqFrame s (s.countGood n i) := by
  unfold State.countGood
  split
  · exact (setInput_frame ..).toSeq
  · exact (setInput_frame ..).toSeq
  · dsimp only
    split
    · exact (setInput_frame ..).toSeq
    · exact changeInput_frame ..

theorem examineSlot_frame (s : State) (n : Slot) (r : Int) : SeqFrame s (s.examineSlot n r) := by
  unfold State.examineSlot
  dsimp only
  split
  · split
    · exact .refl s
    · split
      · exact countLow_frame ..
      · exact countLow_frame ..
      · exact countGood_frame ..
  · exact .refl s

theorem beginWindow_frame (s : State) (n : Slot) : LaneFrame s (s.beginWindow n) := setInput_frame ..

theorem endVisit_frame (s : State) (n : Slot) (r : VisitResult) : SeqFrame s (s.endVisit n r) := by
  unfold State.endVisit
  dsimp only
  split
  · exact (setInput_frame ..).toSeq
  · split
    · exact (setInput_frame ..).toSeq
    · exact changeInput_frame ..

/-! ## Apply -/

theorem applyInput_frame (s : State) (n : Slot) (a b : Option SlotEntry) :
    SeqFrame s (s.applyInput n a b) := by
  unfold State.applyInput
  split
  · exact .refl s
  · exact (setInput_frame ..).toSeq.trans (abandonVisit_frame ..)
  · exact (setInput_frame ..).toSeq.trans (abandonVisit_frame ..)
  · split
    · exact .refl s
    · exact (setInput_frame ..).toSeq.trans (abandonVisit_frame ..)

theorem applyLane_frame (s : State) (p : Plan) (n : Slot) : LaneFrame s (s.applyLane p n) := by
  unfold State.applyLane
  dsimp only
  split
  · exact .refl s
  · exact (setLane_frame ..).trans (setPhase_frame ..)
  · exact (setLane_frame ..).trans (setPhase_frame ..)
  · split
    · exact setLane_frame ..
    · exact (setLane_frame ..).trans (setPhase_frame ..)

theorem muteUnverified_frame (s : State) (n : Slot) : LaneFrame s (s.muteUnverified n) := by
  unfold State.muteUnverified
  split
  · exact fastMute_frame ..
  · exact .refl s

theorem applySlots_frame (s : State) (p : Plan) : SeqFrame s (s.applySlots p) := by
  unfold State.applySlots
  dsimp only
  refine SeqFrame.trans ?_ (startVisit_frame _)
  refine SeqFrame.trans ?_ (foldl_related .refl .trans startRamp_frame _ _).toSeq
  refine SeqFrame.trans ?_ (foldl_related .refl .trans markWindow_frame _ _).toSeq
  refine SeqFrame.trans ?_ (decideLanes_frame ..).toSeq
  refine SeqFrame.trans ?_ (foldl_related .refl .trans (fun s t => setMixer_frame s t _) _ _).toSeq
  refine SeqFrame.trans ?_ (foldl_related .refl .trans muteUnverified_frame _ _).toSeq
  refine SeqFrame.trans ?_ (foldl_related .refl .trans (fun s n => applyLane_frame s p n) _ _).toSeq
  exact foldl_related .refl .trans (fun s n => applyInput_frame s n _ _) _ _

theorem applySeq_frame (s : State) (t : Tx) : SeqFrame s (s.applySeq t) := by
  unfold State.applySeq
  refine SeqFrame.trans ?_ (decideSeq_frame ..)
  split
  · exact .refl s
  · exact handOver_frame ..

theorem takeSeqFields_frame (s : State) (t : Tx) : SeqFrame s (s.takeSeqFields t) := setSeq_frame ..

theorem applyAudit_frame (s : State) (a b : Nat) (c : Chain) : SynthFrame s (s.applyAudit a b c) := by
  unfold State.applyAudit
  dsimp only
  split
  · exact .refl s
  · split
    · exact setSynth_frame ..
    · split
      · exact setSynth_frame ..
      · exact .refl s

theorem applySynths_frame (s : State) (p : Plan) : SynthFrame s (s.applySynths p) :=
  foldl_related .refl .trans (fun s c => applyAudit_frame s _ _ c) _ s

theorem applyProtection_frame (s : State) (p : Plan) : ProtFrame s (s.applyProtection p) := by
  unfold State.applyProtection
  dsimp only
  have h := (foldl_related SynthFrame.refl .trans (f := fun s t => s.setProtection t
    ((s.protection t).cut s.limits)) (fun s t => setProtection_frame s t _) allTx s).toSeq.toProt
  split
  · exact h
  · exact h.trans (foldl_related .refl .trans protect_frame _ _)

theorem applyReference_frame (s : State) (p : Plan) : RefFrame s (s.applyReference p) := by
  have set (r : RefMonitor) : RefFrame s { s with ref := r } := ⟨rfl, rfl, rfl, rfl, rfl, .inl rfl⟩
  unfold State.applyReference
  dsimp only
  repeat' split
  all_goals first
    | exact .refl s
    | exact (setReference_frame ..).1
    | exact set _

theorem applyPorts_frame (s : State) : SeqFrame s s.applyPorts :=
  (setPort_frame ..).trans (setPort_frame ..)

theorem takeRxLos_frame (s : State) : SeqFrame s ((s.takeRxLo .rx0).takeRxLo .rx1) :=
  (takeRxLo_frame ..).trans (takeRxLo_frame ..)

/-- What an apply hands over reaches neither time, supply nor the Plan Engine, but for a probation failure
that a block's own decision brings (R49, R55). -/
theorem handPlan_frame (s : State) (p : Plan) : RefFrame s (s.handPlan p) := by
  unfold State.handPlan
  dsimp only
  refine RefFrame.trans ?_ (applyPorts_frame _).toProt.toRef
  refine RefFrame.trans ?_ (applyReference_frame ..)
  refine RefFrame.trans ?_ (applySynths_frame ..).toSeq.toProt.toRef
  refine RefFrame.trans ?_ (foldl_related .refl .trans applySeq_frame _ _).toProt.toRef
  refine RefFrame.trans ?_ (takeRxLos_frame _).toProt.toRef
  refine RefFrame.trans ?_ (applyProtection_frame ..).toRef
  refine RefFrame.trans ?_ (applySlots_frame ..).toProt.toRef
  exact (foldl_related .refl .trans takeSeqFields_frame _ _).toProt.toRef

theorem applied_frame (s : State) (p : Plan) (n : Notice) : RefFrame s (s.applied p n) :=
  ((notifyBoth_frame s n).toProt.trans (requestWrite_frame ..)).toRef.trans (handPlan_frame ..)

/-! ## Start-up -/

theorem startSlot_frame (s : State) (n : Slot) : LaneFrame s (s.startSlot n) := by
  unfold State.startSlot
  split
  · exact .refl s
  · exact (setInput_frame ..).trans (setLane_frame ..)

theorem startSeq_frame (s : State) (t : Tx) : SeqFrame s (s.startSeq t) := by
  unfold State.startSeq
  dsimp only
  refine SeqFrame.trans ?_ (decideSeq_frame ..)
  refine SeqFrame.trans ?_ (handOver_frame ..)
  split
  · exact moveSeq_frame ..
  · exact .refl s

theorem loadLockouts_frame (s : State) (v : PerTx Bool) : SeqFrame s (s.loadLockouts v) := by
  have h := (foldl_related SynthFrame.refl .trans (f := fun s t => s.loadLockout v t)
    (fun s t => setProtection_frame s t _) allTx s).toSeq
  unfold State.loadLockouts
  dsimp only
  split
  · exact h.trans (notifyBoth_frame ..)
  · exact h

/-- After the plan is loaded, start-up reaches the blocks as an apply does (R162). -/
theorem startUp_frame (s : State) : RefFrame s.loadPlan s.startUp := by
  unfold State.startUp
  dsimp only
  refine RefFrame.trans ?_ (applyPorts_frame _).toProt.toRef
  refine RefFrame.trans ?_ (applyReference_frame ..)
  refine RefFrame.trans ?_ (applySynths_frame ..).toSeq.toProt.toRef
  refine RefFrame.trans ?_ (foldl_related .refl .trans startSeq_frame _ _).toProt.toRef
  refine RefFrame.trans ?_ (takeRxLos_frame _).toProt.toRef
  refine RefFrame.trans ?_ (applyProtection_frame ..).toRef
  refine RefFrame.trans ?_ (decideLanes_frame ..).toSeq.toProt.toRef
  refine RefFrame.trans ?_ (foldl_related .refl .trans (fun s t => setMixer_frame s t _) _ _).toSeq.toProt.toRef
  refine RefFrame.trans ?_ (foldl_related .refl .trans startSlot_frame _ _).toSeq.toProt.toRef
  refine RefFrame.trans ?_ (foldl_related .refl .trans takeSeqFields_frame _ _).toProt.toRef
  exact (loadLockouts_frame ..).toProt.toRef

/-! ## Synthesizer events -/

theorem endProgramming_frame (s : State) (c : Chain) (w : DividerWords) :
    SynthFrame s (s.endProgramming c w) := by
  unfold State.endProgramming
  dsimp only
  split
  · exact setSynth_frame ..
  · exact (setSynth_frame ..).trans (refreshWords_synth ..)

theorem afterProgramming_frame (s : State) (c : Chain) : SynthFrame s (s.afterProgramming c) := by
  unfold State.afterProgramming
  dsimp only
  split
  · split
    · exact (setSynth_frame ..).trans (startProgramming_frame ..)
    · exact goIdle_frame ..
  · exact setSynth_frame ..

theorem enterQueued_frame (s : State) (c : Chain) : SynthFrame s (s.enterQueued c) :=
  ((setSynth_frame ..).trans (joinQueue_frame ..)).trans (startMeasurement_frame _)

theorem freshCycle_frame (s : State) (c : Chain) : SynthFrame s (s.freshCycle c) :=
  ((setSynth_frame ..).trans (startProgramming_frame ..)).trans (withdrawSynth_frame ..)

theorem startAudit_frame (s : State) (c : Chain) : SynthFrame s (s.startAudit c) :=
  ((setSynth_frame ..).trans (joinQueue_frame ..)).trans (startMeasurement_frame _)

theorem loseLock_frame (s : State) (c : Chain) (now : Nat) : ProtFrame s (s.loseLock c now) :=
  (((((leaveCounter_frame s c).trans (setSynth_frame ..)).trans
    (startMeasurement_frame _)).toSeq.trans (leftVerified_frame ..)).toProt).trans (reportSynth_frame ..)

theorem enterVerified_frame (s : State) (c : Chain) : ProtFrame s (s.enterVerified c) :=
  ((setSynth_frame ..).toSeq.toProt.trans (reportSynth_frame ..)).trans
    (enteredVerified_frame ..).toProt

theorem takeVerdict_frame (s : State) (c : Chain) (v : Verdict) (n : Option Nat) :
    ProtFrame s (s.takeVerdict c v n) := by
  have h := (setSynth_frame s c
    { s.synth c with lastVerdict := some v, lastCount := n }).toSeq.toProt
  unfold State.takeVerdict
  dsimp only
  split
  · exact h.trans (enterVerified_frame ..)
  · exact h.trans (failedAttempt_frame ..)
  · exact h.trans (failedAttempt_frame ..)
  · exact h.trans ((setSynth_frame ..).trans (joinQueue_frame ..)).toSeq.toProt

theorem takeAudit_frame (s : State) (c : Chain) (v : Verdict) (n : Option Nat) (now : Nat) :
    ProtFrame s (s.takeAudit c v n now) := by
  have h := setSynth_frame s c { s.synth c with auditing := false }
  unfold State.takeAudit
  dsimp only
  split
  · exact ((h.trans (setSynth_frame ..)).trans (setSynth_frame ..)).toSeq.toProt
  · exact (h.trans (setSynth_frame ..)).toSeq.toProt
  · exact (h.trans (setSynth_frame ..)).toSeq.toProt.trans (loseLock_frame ..)
  · exact (h.trans (setSynth_frame ..)).toSeq.toProt.trans (loseLock_frame ..)

theorem dateMeasurement_frame (s : State) (now : Nat) : SynthFrame s (s.dateMeasurement now) := by
  constructor <;> rfl

theorem endMeasurement_frame (s : State) (m : Measurement) (v : Verdict) (n : Option Nat) (now : Nat) :
    ProtFrame s (s.endMeasurement m v n now) := by
  unfold State.endMeasurement
  dsimp only
  refine ProtFrame.trans ?_ ((startMeasurement_frame _).trans (dateMeasurement_frame ..)).toSeq.toProt
  split
  · refine ProtFrame.trans ?_ (takeAudit_frame ..)
    exact ⟨rfl, rfl, rfl, rfl, rfl, rfl, .inl rfl⟩
  · refine ProtFrame.trans ?_ (takeVerdict_frame ..)
    exact ⟨rfl, rfl, rfl, rfl, rfl, rfl, .inl rfl⟩

/-! ## Reference, ports, supply and owners -/

theorem moveReference_frame (s : State) (st : RefState) : RefFrame s (s.moveReference st) := by
  unfold State.moveReference
  split
  · exact .refl s
  · exact (setReference_frame ..).1

theorem moveReference_state (s : State) (st : RefState) : (s.moveReference st).ref.state = st := by
  unfold State.moveReference
  split
  · next h => exact h.symm
  · rw [(setReference_frame ..).2]; rfl

/-- One presence window's judgement: at most one free value is drawn, for the order of R62, and the reference
state is as after the two changes in one of their orders. -/
theorem judgeWindow_frame (s : State) (present previous sample : Bool) :
    ∃ d, s.draws ≤ d ∧ d ≤ s.draws + 1 ∧
      RefFrame { s with draws := d } (s.judgeWindow present previous sample) := by
  unfold State.judgeWindow
  dsimp only
  split
  · refine ⟨s.draws + 1, by omega, by omega, RefFrame.trans ?_ (setReference_frame ..).1⟩
    split
    · exact (setReference_frame ..).1
    · exact .refl _
  · exact ⟨s.draws, by omega, by omega, (moveReference_frame ..).trans (moveReference_frame ..)⟩

theorem clockOut_frame (s : State) (p : Port) (n : Nat) : SeqFrame s (s.clockOut p n) := setPort_frame ..

theorem clockOutCut_frame (s : State) (p : Port) (resets n : Nat) :
    SeqFrame s (s.clockOutCut p resets n) := setPort_frame ..

theorem respond_frame (s : State) (p : Port) (r : Response) : SeqFrame s (s.respond p r) :=
  setPort_frame ..

theorem heard_frame (s : State) (p : Port) : ProtFrame s (s.heard p) := by
  unfold State.heard
  dsimp only
  split
  · exact ((setPort_frame ..).trans (notify_frame ..)).toProt.trans (setDevice_frame ..)
  · exact (setPort_frame ..).toProt

theorem answer_frame (s : State) (k : RequestKind) (p : Port) (tag : Byte) (r : Reply) :
    SeqFrame s (s.answer k p tag r) := by
  unfold State.answer
  split
  · exact .refl s
  · exact respond_frame ..

theorem frameFailed_frame (s : State) (p : Port) (n : Nat) (k tag : Byte) :
    SeqFrame s (s.frameFailed p n k tag) :=
  (clockOut_frame ..).trans (respond_frame ..)

/-- An ACTIVE port that hears a valid frame restarts its silence timer, and nothing else changes (R168). -/
theorem heard_active (s : State) (p : Port) (h : (s.port p).link = .active) :
    s.heard p = s.setPort p
      { s.port p with silence := s.afterSeconds (s.port p).linkSilence } := by
  unfold State.heard
  simp [h]

theorem restore_frame (s : State) (t : Tx) : ProtFrame s (s.restore t) := by
  unfold State.restore
  dsimp only
  split
  · exact (((setProtection_frame ..).toSeq.toProt.trans (requestWrite_frame ..)).trans
      (notifyBoth_frame ..).toProt).trans ((setSeq_frame ..).trans (decideSeq_frame ..)).toProt
  · exact (setProtection_frame ..).toSeq.toProt

theorem measure_frame (s : State) (c : Chain) : SynthFrame s (s.measure c).1 := by
  unfold State.measure
  dsimp only
  split
  · dsimp only
    split
    · exact .refl s
    · exact startAudit_frame ..
  · exact freshCycle_frame ..
  all_goals exact .refl s

theorem silenced_frame (s : State) (p : Port) (h : s.pe.grant ≠ some p) : ProtFrame s (s.silenced p) := by
  unfold State.silenced
  dsimp only
  have h0 : SeqFrame s ((s.setPort p { s.port p with link := .silent, silence := none }).notify p.other
      .peerSilent) := (setPort_frame ..).trans (notify_frame ..)
  have hg : ((s.setPort p { s.port p with link := .silent, silence := none }).notify p.other
      .peerSilent).pe.grant ≠ some p := by rw [h0.pe]; exact h
  simp only [hg, if_false]
  split
  · exact h0.toProt.trans (setDevice_frame ..)
  · exact h0.toProt

/-! ## A chain's stream -/

/-- What a lane contributes, said once: the terms of a lane with a slot entry, a receive word for its source, a
transmit word and a current share above 0, and nothing of any other. -/
theorem contribution_eq_some (s : State) (n : Slot) (c : StreamTerm) :
    s.contribution n = some c ↔
      ∃ e r w, (s.lane n).slot = some e ∧ (s.lane n).receiveWord (s.input n).source = some r ∧
        (s.lane n).transmitWord = some w ∧ (s.lane n).current ≠ 0 ∧
        c = { lane := n, source := e.sourceChain (s.input n).source, receiveWord := r, transmitWord := w
              phases := s.phaseOf n, bandwidthClass := e.bandwidthClass, share := (s.lane n).current } := by
  unfold State.contribution
  split
  · rename_i e r w he hr hw
    by_cases h0 : (s.lane n).current = 0
    · simp [h0]
    · simp [h0, he, hr, hw, eq_comm]
  · rename_i none_missing
    constructor
    · exact nofun
    · rintro ⟨e, r, w, he, hr, hw, _⟩
      exact absurd hw (none_missing e r w he hr)

end Sys2Proof.Machine
end

