-- ==== Sys2Proof/WellFormed.lean ====
section
/-! DEFINITION. Well-formed commands: operands that the hardware lines and frames can carry. `exec` is total
on the others too. -/

namespace Sys2Proof

/-- A payload a frame can carry: at most 48 bytes (R166, R174). -/
def payloadFits (sent : Sent) : Bool := decide (sent.payload.length ≤ 48)

/-- A power result: at most 0 dBFS, the full scale of the receive ADC (R110). -/
def resultFits (r : Int) : Bool := decide (r ≤ 0)

/-- Whether the bytes of a transaction fail the framing check (R166). -/
def framingFails (bytes : List Byte) : Bool :=
  match Machine.checkFrame bytes with
  | .bad _ _ => true
  | .good _ _ _ => false

/-- Well-formedness of a command. -/
def Instr.wellFormed : Instr → Bool
  | .nop _ _ payload => payloadFits payload
  | .readStatus _ _ payload => payloadFits payload
  | .readPlan _ _ payload => payloadFits payload
  | .readNotices _ _ payload => payloadFits payload
  | .takeEdit _ _ payload => payloadFits payload
  | .releaseEdit _ _ payload => payloadFits payload
  | .setChain _ _ payload => payloadFits payload
  | .setSlot _ _ payload => payloadFits payload
  | .clearSlot _ _ payload => payloadFits payload
  | .setProfile _ _ payload => payloadFits payload
  | .commit _ _ payload => payloadFits payload
  | .cancelCommit _ _ payload => payloadFits payload
  | .revert _ _ payload => payloadFits payload
  | .restoreChain _ _ payload => payloadFits payload
  | .measure _ _ payload => payloadFits payload
  | .storeDefault _ _ payload => payloadFits payload
  | .clearResetCause _ _ payload => payloadFits payload
  | .frameError _ bytes => !bytes.isEmpty && framingFails bytes
  | .unknownRequest _ kind _ payload =>
    payloadFits payload && (Machine.RequestKind.ofCode kind).isNone
  | .frameDiscarded _ sent => !sent.bytes.isEmpty
  | .silenceExpiry _ => true
  | .secondMark => true
  | .ppsEdge => true
  | .substitutedMark => true
  | .probationExpiry => true
  | .presenceWindowEnd _ _ => true
  | .qualifyExpiry => true
  | .holdoverExpiry => true
  | .programmingComplete _ => true
  | .powerDownTransferEnd _ => true
  | .settleExpiry _ _ => true
  | .retryExpiry _ => true
  | .auditExpiry _ => true
  | .lockDrop _ => true
  | .gateClose _ => true
  | .measurementTimeout => true
  | .rampStepExpiry _ => true
  | .driveSettleExpiry _ => true
  | .paDischargeExpiry _ => true
  | .paFaultInput _ _ => true
  | .paWarningInput _ _ => true
  | .recoveryHoldExpiry _ => true
  | .inputWindowBoundary results => results.toList.all resultFits
  | .discardHalfExpiry => true
  | .judgeHalfExpiry result => resultFits result
  | .storeWriteCompletion _ => true
  | .storeRetryExpiry _ => true
  | .supplyMeasurement _ => true
  | .powerOn => true
  | .resetPinAssert => true
  | .resetRelease _ _ _ => true
  | .startUpSelection => true

end Sys2Proof
end

