-- ==== Sys2Proof/Tests/Slice0.lean ====
section
/-! SUPPORT. The model's own tests: the checks of WellFormed, figures that the manual works out, and for every
statement with hypotheses a concrete state and operands that meet them. -/

namespace Sys2Proof.Tests

-- One theorem at a time: a worker thread for each of them would pass the memory limit of a check.
set_option Elab.async false

open Sys2Proof Sys2Proof.Machine

/-! ## WellFormed -/

def allKinds : List RequestKind :=
  [.nop, .readStatus, .readPlan, .readNotices, .takeEdit, .releaseEdit, .setChain, .setSlot, .clearSlot,
   .setProfile, .commit, .cancelCommit, .revert, .restoreChain, .measure, .storeDefault, .clearResetCause]

/-- A request with a payload of 48 bytes is well formed, and of 49 is not. -/
theorem test_wellFormed_payload_length :
    (allKinds.all fun k => (k.command .a 0 ⟨List.replicate 48 0, 3⟩).wellFormed) = true ∧
    (allKinds.all fun k => !(k.command .b 0 ⟨List.replicate 49 0, 0⟩).wellFormed) = true := by decide

theorem test_wellFormed_unknown_kind :
    (Instr.unknownRequest .a 17 0 ⟨[], 0⟩).wellFormed = true ∧
    (Instr.unknownRequest .a 16 0 ⟨[], 0⟩).wellFormed = false ∧
    (Instr.unknownRequest .a 17 0 ⟨List.replicate 49 0, 0⟩).wellFormed = false := by decide

theorem test_wellFormed_frame_error :
    (Instr.frameError .a [0, 3, 7, 0, 0]).wellFormed = true ∧
    (Instr.frameError .a []).wellFormed = false ∧
    (Instr.frameError .a (requestBytes 3 7 [])).wellFormed = false := by decide +kernel

theorem test_wellFormed_discarded :
    (Instr.frameDiscarded .a ⟨[0], 0⟩).wellFormed = true ∧
    (Instr.frameDiscarded .a ⟨[], 1⟩).wellFormed = false := by decide

theorem test_wellFormed_results :
    (Instr.judgeHalfExpiry 0).wellFormed = true ∧ (Instr.judgeHalfExpiry 1).wellFormed = false ∧
    (Instr.inputWindowBoundary (Vector.replicate 16 0)).wellFormed = true ∧
    (Instr.inputWindowBoundary ((Vector.replicate 16 0).set 3 1)).wellFormed = false := by decide +kernel

/-! ## Figures -/

/-- The ASCII digits 1 to 9, over which the two CRCs have known check values. -/
def digits : List Byte := [0x31, 0x32, 0x33, 0x34, 0x35, 0x36, 0x37, 0x38, 0x39]

/-- The CRC-16 of R174. -/
theorem test_crc16_check_value : crc16 digits = 0x29B1 := by decide +kernel

/-- The CRC-32 of R176. -/
theorem test_crc32_check_value : crc32 digits = 0xCBF43926 := by decide +kernel

/-- The worked figures of section 2.7: the divider words of 687,250,000 Hz. -/
theorem test_dividerWords_worked : dividerWords 687250000 = ⟨68, 12163482⟩ := by decide

/-- The expected count and tolerance of 687,250,000 Hz at gate exponent 3 and 50 ppm (section 2.7). -/
theorem test_count_worked : expectedCount 687250000 3 = 85906 ∧ countTolerance 85906 50 = 7 := by decide

/-- The shares 512, 400 and 300 sum to 1,212 and scale to 432, 337 and 253 (section 2.7). -/
theorem test_shares_worked :
    [scaleShare 512 1212, scaleShare 400 1212, scaleShare 300 1212] = [432, 337, 253] := by decide

/-- The NCO words of section 2.7 and of section 3.10, the third a tie that takes the even word. -/
theorem test_ncoWords_worked :
    ncoInteger 690000000 ⟨68, 12163482⟩ = 180223984 ∧
    ncoInteger 697500000 ⟨68, 12163482⟩ = 671743984 ∧
    ncoInteger 601088000 (dividerWords 600088000) = 65535980 := by decide

/-- Step 1 of the ramp from 432, 337 and 253 to 216, 168 and 126 (section 2.7). -/
theorem test_ramp_worked :
    [rampValue 432 216 1, rampValue 337 168 1, rampValue 253 126 1] = [418, 326, 245] := by decide

/-- A value at a half rounds to the even integer (R20, R23). -/
theorem test_roundDiv_ties :
    [roundDiv 1 2, roundDiv 3 2, roundDiv (-1) 2, roundDiv (-3) 2] = [0, 2, 0, -2] := by decide

/-- No row of the table gives bits, so no word spells a command. -/
theorem test_no_word_spells_a_command :
    decodeTableWord 8 0 = none ∧ State.reset.withFetchWord 8 1 = State.reset := by decide +kernel

/-! ## Small states -/

/-- A plan with one slot on TX1, as in section 2.7. -/
def plan : Plan :=
  { Plan.empty with
    issue := 42
    origin := .a
    rx := ⟨some 600000000, none⟩
    tx := { Plan.empty.tx with
      tx1 := { TxSettings.default with enabled := true, lo := some 687250000 } }
    slots := Plan.empty.slots.set 0 (some
      { inputChain := .rx0, inputFrequency := 600000000, outputChain := .tx1
        outputFrequency := 690000000, bandwidthClass := 7, share := 512, threshold := -80
        fallback := none }) }

/-- A running part with `plan` active, the reference in HOLDOVER, and Port A the holder of the grant. -/
def live : State :=
  { State.reset with
    phase := .running
    time := { State.reset.time with steps := 1000, lastMark := 900, seconds := 9, startDelay := none }
    ref := { State.reset.ref with state := .holdover }
    pe := { State.reset.pe with
      active := plan, grant := some .a, staged := some { plan with issue := 43 }, lastIssued := 42 }
    lanes := State.reset.lanes.set 0 { Lane.reset with slot := plan.slots.get 0, state := .held }
    inputs := State.reset.inputs.set 0 { InputRecord.reset with inputState := some .livePrimary } }

/-- `live` with no condition present, and TX1 ON_AIR with its lane live. -/
def air : State :=
  let calm : ChainProtection :=
    { ChainProtection.reset with highest := 0, level := 0, cause := none }
  let up : SynContext := { SynContext.reset with state := .verified, output := .enabled }
  { live with
    pu := { device := ⟨false, false, false, false, false⟩, chains := ⟨calm, calm, calm, calm⟩ }
    syn := { live.syn with
      rx0 := { up with wanted := some 600000000, programmed := some ⟨60, 0⟩ }
      tx1 := { up with wanted := some 687250000, programmed := some ⟨68, 12163482⟩ } }
    os := { live.os with
      tx1 := { Sequencer.reset with state := .onAir, handedOver := some 687250000 } }
    lanes := State.reset.lanes.set 0
      { Lane.reset with
        slot := plan.slots.get 0, state := .livePrimary, primaryWord := some 0#32
        transmitWord := some 180223984#32, current := 512, target := 512, start := 512 } }

/-- A state with a synthesizer context replaced. -/
def withSynth (s : State) (c : Chain) (f : SynContext → SynContext) : State := s.setSynth c (f (s.synth c))

/-- A state with a sequencer context replaced. -/
def withSeq (s : State) (x : Tx) (f : Sequencer → Sequencer) : State := s.setSeq x (f (s.seq x))

/-- `air` with its plan on probation after the empty plan, and that plan in the history. -/
def onProbation : State :=
  { air with
    pe := { air.pe with
      status := .onProbation, probation := some 9000
      history := air.pe.history.set 0 (some Plan.empty) } }

/-- The state after a command; the state itself where the command does not answer one. -/
def after (c : Instr) (s : State) : State :=
  match exec c s with
  | .next t => t
  | _ => s

theorem forall_port {P : Port → Prop} (a : P .a) (b : P .b) : ∀ p, P p
  | .a => a
  | .b => b

theorem forall_tx {P : Tx → Prop} (a : P .tx0) (b : P .tx1) (c : P .tx2) (d : P .tx3) : ∀ x, P x
  | .tx0 => a
  | .tx1 => b
  | .tx2 => c
  | .tx3 => d

/-! ## Effects on small states -/

/-- TAKE_EDIT by the other port while A holds the grant (R36). -/
theorem test_takeEdit_held_by_other :
    ((after (.takeEdit .b 5 ⟨[], 0⟩) live).port .b).lastResponse = ⟨4, 5, .heldByOther, []⟩ := by decide +kernel

/-- COMMIT issues the next number and answers it with two empty lists (R42). -/
theorem test_commit_issues :
    ((after (.commit .a 5 ⟨[], 0⟩) live).port .a).lastResponse = ⟨0x0A, 5, .ok, [0, 0, 0, 43, 0, 0]⟩ ∧
    (after (.commit .a 5 ⟨[], 0⟩) live).pe.lastIssued = 43 := by decide +kernel

/-- The mark applies a committed plan, pushes the old one and puts the new one on probation (R46 to R48). -/
theorem test_mark_applies :
    (after .secondMark (after (.commit .a 5 ⟨[], 0⟩) live)).pe.active.issue = 43 ∧
    (after .secondMark (after (.commit .a 5 ⟨[], 0⟩) live)).pe.entry 0 = some plan ∧
    (after .secondMark (after (.commit .a 5 ⟨[], 0⟩) live)).pe.probation = some 13000 := by decide +kernel

/-- The first of the sixteen steps down of a chain muted at level 2 leaves 480 of 512 (R32, R131). -/
theorem test_level2_ramps_down :
    let s := after (.paWarningInput .tx1 true)
      { air with pe := { air.pe with
          active := { plan with severities := { plan.severities with paWarning := 2 } } } }
    (s.seq .tx1).state = .rampDown ∧ ((after (.rampStepExpiry .tx1) s).lane 0).current = 480 := by
  decide +kernel

/-- A PA fault at severity 3 takes the chain down through RAMP_DOWN and is a trip (section 9.9, at 7000.42). -/
theorem test_pa_fault_trips :
    let s := after (.paFaultInput .tx1 true) air
    (s.seq .tx1).state = .rampDown ∧ (s.protection .tx1).level = 3 ∧
      (s.protection .tx1).cause = some .paFault ∧
      (s.protection .tx1).trips = [⟨9, .paFault⟩] := by decide +kernel

/-- The fault withdrawn starts the recovery hold of 10 s, the cause held (section 9.9, at 7003.15). -/
theorem test_pa_fault_withdrawn_holds :
    let s := after (.paFaultInput .tx1 false) (after (.paFaultInput .tx1 true) air)
    (s.protection .tx1).level = 3 ∧ (s.protection .tx1).hold = some 2000 ∧
      (s.protection .tx1).holding = true := by decide +kernel

/-- The counts of section 2.7 against E = 85,906 and T = 7: both ends of the window and two mis-locks. -/
theorem test_counts_judged :
    [85899, 85913, 84656, 87156].map (judgeCount · 85906 7) = [.within, .within, .low, .high] := by decide

/-- A transaction of five bytes clocks out five of the six bytes of the response given at reset (R164, R165). -/
theorem test_response_clocked_out :
    (((after (.nop .a 0 ⟨[], 0⟩) live).port .a).dataOut.map List.length) = some 5 ∧
    ((after (.nop .a 0 ⟨[], 3⟩) live).port .a).dataOut = some (live.port .a).lastResponse.bytes ∧
    (live.port .a).lastResponse.bytes.length = 6 := by decide +kernel

/-! ## Witnesses: the machine as a whole -/

/-- `air` with commands waiting. -/
def queued (s : State) (cs : List Instr) : State := { s with pending := cs }

theorem witness_TimePasses :
    live.pending = [] ∧ live.phase ≠ .held ∧ live.ref.state ≠ .absent ∧
    State.reset.pending = [] ∧ State.reset.ref.state = .absent := by decide +kernel

theorem witness_GrantAndProbationKept :
    let s := queued live [.releaseEdit .a 5 ⟨[], 0⟩]
    s.GrantSound ∧ s.ProbationSound ∧ ∃ t, step s = .next t :=
  ⟨rfl, ⟨nofun, nofun⟩, _, rfl⟩

theorem witness_StepNeverStops : onProbation.HistorySound ∧ onProbation.RevertSound := by
  unfold State.HistorySound State.RevertSound
  decide +kernel

/-- A measurement of the synthesizer of TX1 in flight. -/
def counting : Measurement :=
  { number := 1, startedAt := 10000, syn := .tx .tx1, audit := false, spoiled := false, expected := 85906
    tolerance := 7, gateExponent := 3, timeout := 6 }

/-- Gates of 2^3 and of 2^7 ms, begun 10,000 ms after reset release (R27). -/
theorem test_gate_lengths :
    [3, 7].map (fun g => { counting with gateExponent := g }.gateEnd) = [10008, 10128] := by decide

/-- `air` with the synthesizer of TX1 under its first measurement. -/
def measuring : State :=
  let s := withSynth air (.tx .tx1) fun x => { x with state := .measuring, attempts := 1 }
  { s with fc := { s.fc with current := some counting } }

theorem forall_chain {P : Chain → Prop} (h0 : P (.rx .rx0)) (h1 : P (.rx .rx1)) (h2 : ∀ x, P (.tx x)) :
    ∀ c, P c
  | .rx .rx0 => h0
  | .rx .rx1 => h1
  | .tx x => h2 x

/-- A context with no timer running, no audit outstanding and an idle control line is sound. -/
theorem still_sound (x : SynContext) (h : x.settle = none ∧ x.retry = none ∧ x.audit = none ∧
    x.auditing = false ∧ x.transfer = .none) : x.Sound := by
  obtain ⟨h1, h2, h3, h4, h5⟩ := h
  constructor <;> simp [h1, h2, h3, h4, h5]

/-- A state whose counter rests and whose synthesizers have no timer running is sound. -/
theorem resting_sound (s : State)
    (still : ∀ c, (s.synth c).settle = none ∧ (s.synth c).retry = none ∧ (s.synth c).audit = none ∧
      (s.synth c).auditing = false ∧ (s.synth c).transfer = .none)
    (queue : s.fc.queue = []) (current : s.fc.current = none) : s.CounterSound where
  contexts := fun c => still_sound _ (still c)
  nodup := by unfold State.QueueSound; rw [queue]; exact List.nodup_nil
  queued := by
    intro q h
    rw [queue] at h
    cases h
  measured := by
    intro m h
    rw [current] at h
    cases h

/-- The sequencers' invariant from its clauses for each chain, which a concrete state decides. -/
theorem sequencers_sound (s : State)
    (h : ∀ x, (((s.seq x).settleTimer.isSome → (s.seq x).state = .driveSettle) ∧
      ((s.seq x).driveSettled = true → (s.seq x).state = .driveSettle ∧ (s.seq x).settleTimer = none) ∧
      ((s.seq x).state = .driveSettle → (s.seq x).driveSettled = false → (s.seq x).settleTimer.isSome) ∧
      ((s.seq x).dischargeTimer.isSome ↔ (s.seq x).state = .paDischarge) ∧
      ((s.seq x).retunePending = true → (s.seq x).state.live = true) ∧
      ((s.seq x).runDown = true → (s.seq x).state = .rampDown ∨ (s.seq x).state = .muted)) ∧
      (s.seq x).handedOver = (s.synth (.tx x)).wanted) : s.SequencersSound := fun x =>
  let ⟨⟨h1, h2, h3, h4, h5, h6⟩, h7⟩ := h x
  ⟨⟨h1, h2, h3, h4, h5, h6⟩, h7⟩

/-- The invariants of a running state together, from those with names of their own and from the clauses of the
others, which a concrete state decides. -/
theorem sound (s : State) (counter : s.CounterSound) (sequencers : s.SequencersSound) (level : s.LevelSound)
    (chains : ∀ x, (s.protection x).trips.length ≤ s.limits.tripLimit ∧
      (s.synth (.tx x)).conditions (s.protection x).present = (s.protection x).present)
    (rest : s.phase = .running ∧ s.pe.grant.isSome = s.pe.staged.isSome ∧
      (s.pe.status = .onProbation ↔ s.pe.probation.isSome) ∧
      (∀ k : Fin 3, s.pe.entry k.castSucc = none → s.pe.entry k.succ = none) ∧
      (s.pe.status = .onProbation → (s.pe.entry 0).isSome) ∧
      (s.pe.pendingPlan = none → s.pe.pendingApply = none) ∧
      ∀ n, (s.lane n).slot = s.pe.active.slots.get n) : s.Sound :=
  let ⟨running, grant, probation, history, top, pending, lanes⟩ := rest
  { grant, probation, history, revert := ⟨top, pending⟩, counter, sequencers, level
    off := fun h => absurd running h
    trips := fun x => (chains x).1
    conditions := fun x => (chains x).2
    lanes := ⟨lanes, fun h => absurd running h⟩ }

theorem measuring_sound : measuring.CounterSound where
  contexts := forall_chain (still_sound _ (by decide +kernel)) (still_sound _ (by decide +kernel))
    (forall_tx (still_sound _ (by decide +kernel)) (still_sound _ (by decide +kernel))
      (still_sound _ (by decide +kernel)) (still_sound _ (by decide +kernel)))
  nodup := List.nodup_nil
  queued := by
    intro q h
    cases h
  measured := by
    intro m h
    have hm : counting = m := Option.some.inj h
    subst hm
    exact ⟨rfl, by intro q h; cases h⟩

theorem witness_CounterKept :
    let s := queued measuring [.gateClose ⟨1, 85906⟩]
    s.CounterSound ∧ s.SequencersSound ∧ s.SequencersOff ∧ ∃ t, step s = .next t :=
  ⟨⟨measuring_sound.contexts, measuring_sound.nodup, measuring_sound.queued, measuring_sound.measured⟩,
    sequencers_sound _ (forall_tx (by decide +kernel) (by decide +kernel) (by decide +kernel)
      (by decide +kernel)), fun h => absurd rfl h, _, rfl⟩

theorem air_levels : air.LevelSound := by
  unfold State.LevelSound
  exact forall_tx (by decide +kernel) (by decide +kernel) (by decide +kernel) (by decide +kernel)

theorem air_sequencers : air.SequencersSound :=
  sequencers_sound _ (forall_tx (by decide +kernel) (by decide +kernel) (by decide +kernel) (by decide +kernel))

theorem air_counter : air.CounterSound :=
  resting_sound _ (forall_chain ⟨rfl, rfl, rfl, rfl, rfl⟩ ⟨rfl, rfl, rfl, rfl, rfl⟩
    (forall_tx ⟨rfl, rfl, rfl, rfl, rfl⟩ ⟨rfl, rfl, rfl, rfl, rfl⟩ ⟨rfl, rfl, rfl, rfl, rfl⟩
      ⟨rfl, rfl, rfl, rfl, rfl⟩)) rfl rfl

theorem air_sound : air.Sound :=
  sound _ air_counter air_sequencers air_levels
    (forall_tx (by decide +kernel) (by decide +kernel) (by decide +kernel) (by decide +kernel))
    (by decide +kernel)

theorem measuring_levels : measuring.LevelSound := air_levels

theorem witness_ProtectionKept :
    air.TripsSound ∧ air.LevelSound ∧ air.CounterSound ∧ air.ConditionsSound ∧ ∃ t, step air = .next t :=
  ⟨air_sound.trips, air_levels, air_counter, air_sound.conditions, _, rfl⟩

theorem witness_LanesFollowPlan : air.LanesSound ∧ ∃ t, step air = .next t :=
  ⟨by unfold State.LanesSound; decide +kernel, _, rfl⟩

/-- `air` with TX3 locked out. -/
def locked : State :=
  (withSeq air .tx3 fun x => { x with state := .lockedOut }).setProtection .tx3
    { air.protection .tx3 with lockedOut := true }

theorem not_resets_mark : ¬Resets .secondMark := by
  rintro (⟨_, _, h⟩ | h | h | ⟨_, _, _, h⟩) <;> cases h

theorem not_restore_mark : ¬CarriesRestore .secondMark := by
  rintro (⟨_, _, _, h⟩ | ⟨_, _, _, _, h⟩ | ⟨_, _, h⟩) <;> cases h

theorem witness_LockoutAndIssueKept :
    ¬Resets .secondMark ∧ (.secondMark : Instr) ≠ .startUpSelection ∧ ¬CarriesRestore .secondMark ∧
      (locked.protection .tx3).lockedOut = true ∧ ∃ t, exec .secondMark locked = .next t :=
  ⟨not_resets_mark, nofun, not_restore_mark, rfl, _, rfl⟩

/-- `air` with TX1 waiting in DRIVE_SETTLE, drive settled. -/
def settled : State :=
  withSeq air .tx1 fun x => { x with state := .driveSettle, driveSettled := true }

/-- One decision, and a step that takes the drive-settle expiry. -/
theorem witness_PaSwitchedOnOnlyVerified :
    (settled.seq .tx1).state.paOn = false ∧ ((settled.decideSeq .tx1).seq .tx1).state.paOn = true ∧
    (let s := queued (withSeq air .tx1 fun x => { x with state := .driveSettle, settleTimer := some 1005 })
       [.driveSettleExpiry .tx1]
     s.Sound ∧ (s.seq .tx1).state.paOn = false ∧ ∃ t, step s = .next t ∧ (t.seq .tx1).state.paOn = true) :=
  ⟨by decide +kernel, by decide +kernel, sound _
    ⟨air_counter.contexts, air_counter.nodup, air_counter.queued, air_counter.measured⟩
    (sequencers_sound _ (forall_tx (by decide +kernel) (by decide +kernel) (by decide +kernel)
      (by decide +kernel))) air_levels
    (forall_tx (by decide +kernel) (by decide +kernel) (by decide +kernel) (by decide +kernel))
    (by decide +kernel), by decide +kernel, _, rfl, by decide +kernel⟩

/-! ## Witnesses: frames and reads -/

/-- `live` with Port A ACTIVE, its silence timer running. -/
def linked : State :=
  live.setPort .a { live.port .a with link := .active, silence := some 1500 }

/-- `live` after a COMMIT, reset, released and reset again. -/
def resetTwice : State :=
  after .resetPinAssert (after (.resetRelease 200 false .short)
    (after .resetPinAssert (after (.commit .a 5 ⟨[], 0⟩) live)))

/-- A transaction that began before both resets goes on with the response to the COMMIT, and one that began
between them with the response that stands at reset (R165). -/
theorem test_transaction_across_resets :
    ((after (.frameDiscarded .a ⟨[0, 0, 0], 2⟩) resetTwice).port .a).dataOut = some [6, 0x0A, 5] ∧
    ((after (.frameDiscarded .a ⟨[0, 0, 0], 1⟩) resetTwice).port .a).dataOut = some [0, 0, 0] := by
  decide +kernel

theorem witness_FramesHeardOrDiscarded :
    (resetTwice.port .a).beforeReset[1]?
      = some { kind := 0x0A, tag := 5, status := .ok, payload := [0, 0, 0, 43, 0, 0] } ∧
    ((resetTwice.port .a).beforeReset[0]?).isSome = true ∧
    live.phase = .running ∧ (List.replicate 48 (0 : Byte)).length ≤ 48 ∧
    (linked.port .a).link = .active ∧ linked.phase = .running ∧ (live.port .a).link = .silent ∧
    State.reset.phase ≠ .running ∧ ([0] : List Byte) ≠ [] := by
  decide +kernel

/-- The three ways of R166 (four bytes, a length of 49, and a wrong CRC); no grant; a payload of a wrong length,
for a request of the holder and for another. -/
theorem witness_FramesRefused :
    live.phase = .running ∧
    ([0, 3, 7, 0] : List Byte).length < byteAt [0, 3, 7, 0] 0 + 5 ∧
    48 < byteAt (List.replicate 54 49) 0 ∧
    (crc16 (([0, 3, 7, 0, 0] : List Byte).take (byteAt [0, 3, 7, 0, 0] 0 + 3))).toNat
      ≠ field2 [0, 3, 7, 0, 0] (byteAt [0, 3, 7, 0, 0] 0 + 3) ∧
    live.pe.grant ≠ some .b ∧ State.reset.pe.grant ≠ some .a ∧ ([] : List Byte).length ≤ 48 ∧
    17 ≤ (17 : Byte).toNat ∧ live.pe.grant = some .a ∧
    ([0] : List Byte).length ≠ RequestKind.commit.payloadLength ∧
    RequestKind.readNotices.holderOnly = false ∧
    ([0] : List Byte).length ≠ RequestKind.readNotices.payloadLength := by decide +kernel

theorem witness_FramesReadBack :
    live.phase = .running ∧ (List.replicate 48 (0 : Byte)).length ≤ 48 ∧ 17 ≤ (17 : Byte).toNat ∧
    48 < (List.replicate 49 (0 : Byte)).length := by decide +kernel

theorem witness_SilenceReleasesGrant :
    (linked.port .a).silence = some 1500 ∧ linked.pe.grant = some .a ∧
    (linked.port (Port.a).other).link = .silent ∧
    (let s := (linked.setPort .b { linked.port .b with link := .active, silence := some 1400 })
     (s.port .b).silence = some 1400 ∧ s.pe.grant ≠ some .b ∧ (s.port (Port.b).other).link = .active) := by
  decide +kernel

theorem witness_StatusAndNoticesRead :
    live.phase = .running ∧ ((statusParts (live.framed .a 5) .a .store)[0]?).isSome = true ∧
    (statusParts (live.framed .a 5) .a (.slot 15)).length ≤ (255 : Byte).toNat := by decide +kernel

/-- Item 5, and chain 6 of item 1: the first and the second check of READ_STATUS. -/
theorem witness_StatusAndNoticesRead_fields :
    FailsAt [(5 : Byte).toNat ≤ 4, True] 1 ∧
    FailsAt [(1 : Byte).toNat ≤ 4, 2 ≤ (6 : Byte).toNat ∧ (6 : Byte).toNat ≤ 5] 2 :=
  ⟨⟨[], _, _, rfl, by simp, by decide, rfl⟩, ⟨[_], _, [], rfl, by simp, by decide, rfl⟩⟩

theorem witness_StatusPartsHoldWholeFields :
    (∀ f ∈ ([List.replicate 48 0, [1]] : List (List Byte)), f.length ≤ 48) ∧
    (∀ f ∈ statusFields live .a .store, f.length ≤ 48) ∧
    ∀ f ∈ statusFields live .a (.slot 0), f.length ≤ 48 := by decide +kernel

theorem witness_ReadPlanAnswers :
    let u := live.framed .a 5
    live.phase = .running ∧ u.pe.grant = some .a ∧ u.pe.staged = some { plan with issue := 43 } ∧
      u.pe.pendingApply = none ∧ u.pe.entry 3 = none ∧ (u.record .site).status ≠ .valid := by decide +kernel

/-- Source 6, history entry 4, item 4 and profile part 2: the four checks of READ_PLAN. -/
theorem witness_ReadPlanAnswers_fields :
    ¬(6 : Byte).toNat ≤ 5 ∧ ¬((3 : Byte) = 3 → (4 : Byte).toNat ≤ 3) ∧ ¬(4 : Byte).toNat ≤ 3 ∧
    ¬((3 : Byte) = 3 → (2 : Byte).toNat ≤ 1) := by decide

/-! ## Witnesses: requests -/

/-- `live` with a REVERT pending to the empty plan. -/
def reverting : State :=
  { live with
    pe := { live.pe with
      history := live.pe.history.set 0 (some Plan.empty)
      pendingApply := some { change := .revert, issue := 0, requestedBy := .a } } }

/-- `live` with a COMMIT of issue 43 pending. -/
def committing : State :=
  { live with
    pe := { live.pe with
      pendingApply := some
        { change := .commit { plan with issue := 43 }, issue := 43, requestedBy := .a } } }

theorem witness_EditGrantMoves :
    live.phase = .running ∧ (live.framed .a 5).pe.grant = some .a ∧ live.pe.grant = some .a ∧
    (live.framed .a 5).pe.staged = some { plan with issue := 43 } ∧
    (live.framed .b 5).pe.grant = some (Port.b).other ∧
    (let s := { committing with pe := { committing.pe with grant := none, staged := none } }
     s.phase = .running ∧ (s.framed .b 5).pe.grant = none ∧ (s.framed .b 5).pe.pendingApply.isSome = true) ∧
    (let s := { live with pe := { live.pe with grant := none, staged := none } }
     s.phase = .running ∧ (s.framed .b 5).pe.grant = none ∧ (s.framed .b 5).pe.pendingApply = none) := by
  decide +kernel

theorem legalLo_ends : legalLo 50000000 ∧ legalLo 1000000000 := by
  unfold legalLo
  decide

theorem witness_EditsTaken :
    live.phase = .running ∧ live.pe.grant = some .a ∧
    (live.framed .a 5).pe.staged = some { plan with issue := 43 } ∧
    (List.replicate 13 (9 : Byte)).length = 13 := by
  decide +kernel

theorem witness_EditsTaken_tx : TxSettings.default.Legal := by
  refine ⟨nofun, ?_⟩
  decide

/-- A slot entry with its share and threshold at an end of their ranges, and a fallback. -/
def edgeSlot : SlotEntry :=
  { inputChain := .rx0, inputFrequency := 600000000, outputChain := .tx1, outputFrequency := 690000000
    bandwidthClass := 7, share := 1024, threshold := -100, fallback := some ⟨.rx1, 605000000⟩ }

theorem witness_EditsTaken_slot : edgeSlot.Legal := by
  refine ⟨⟨by decide, by decide, by decide, by decide, by decide, ?_⟩, by decide⟩
  intro fb h
  cases h
  decide

theorem witness_EditsTaken_limits : Limits.default.Legal := by
  simp [Limits.Legal, Limits.ranges, Limits.default]

/-- The first check of each of the four edits fails: chain 6, slot 16, slot 16, part 2. -/
theorem witness_EditsRefused :
    let setChain : List Byte := [6, 0, 0, 0, 0, 0, 1, 1, 1]
    let setSlot : List Byte := 16 :: List.replicate 20 0
    let setProfile : List Byte := 2 :: List.replicate 22 0
    live.phase = .running ∧ live.pe.grant = some .a ∧ setChain.length = 9 ∧ ¬byteAt setChain 0 ≤ 5 ∧
      setSlot.length = 21 ∧ ¬byteAt setSlot 0 ≤ 15 ∧ ¬byteAt [16] 0 ≤ 15 ∧ setProfile.length = 23 ∧
      ¬byteAt setProfile 0 ≤ 1 := by decide +kernel

/-- A severity of 4 in the first field, a recovery hold of 0, and a link silence of 0 after fields in range. -/
theorem witness_EditsRefused_profile :
    let silent : List Byte := (1 :: limitBytes { Limits.default with linkSilence := 0 })
    FailsAt (True :: (List.range 9).map fun k => byteAt (0 :: 4 :: List.replicate 21 0) (k + 1) ≤ 3) 2 ∧
    FailsAt (True :: (limitsAt (1 :: List.replicate 22 0) 1).ranges) 2 ∧
    silent.length = 23 ∧ FailsAt (True :: (limitsAt silent 1).ranges) 17 :=
  ⟨⟨[True], _, _, rfl, by simp, by decide, rfl⟩, ⟨[True], _, _, rfl, by simp, by decide, rfl⟩, by decide,
    ⟨[True, _, _, _, _, _, _, _, _, _, _, _, _, _, _, _], _, [], rfl,
      by
        simp only [List.forall_mem_cons, List.not_mem_nil, false_implies, implies_true]
        and_intros <;> decide +kernel,
      by decide +kernel, rfl⟩⟩

/-- A receive SET_CHAIN whose LO is off the raster, at position 3, with an enabled byte that is not examined; a
transmit one with a PA discharge of 0, at position 6. -/
theorem witness_EditsRefused_chain :
    let checks (b : List Byte) : List Prop :=
      [byteAt b 0 ≤ 5, 2 ≤ byteAt b 0 → byteAt b 1 ≤ 1, field4 b 2 = 0 ∨ legalLo (field4 b 2),
        2 ≤ byteAt b 0 → 1 ≤ byteAt b 6 ∧ byteAt b 6 ≤ 64, 2 ≤ byteAt b 0 → 1 ≤ byteAt b 7,
        2 ≤ byteAt b 0 → 1 ≤ byteAt b 8]
    FailsAt (checks [0, 7, 0, 0, 0, 1, 0, 0, 0]) 3 ∧ FailsAt (checks [5, 1, 0, 0, 0, 0, 64, 1, 0]) 6 := by
  refine ⟨⟨[_, _], _, _, rfl, ?_, by unfold legalLo; decide +kernel, rfl⟩,
    ⟨[_, _, _, _, _], _, [], rfl, ?_, by decide +kernel, rfl⟩⟩ <;>
    simp only [List.forall_mem_cons, List.not_mem_nil, false_implies, implies_true, legalLo] <;> decide +kernel

/-- A SET_SLOT whose fields fail from the threshold on, at position 8, and one whose fallback chain fails, at
10. -/
theorem witness_EditsRefused_slot :
    let checks (b : List Byte) : List Prop :=
      [byteAt b 0 ≤ 15, byteAt b 1 ≤ 1, True, 2 ≤ byteAt b 6 ∧ byteAt b 6 ≤ 5, True,
        byteAt b 11 ≤ 7, 1 ≤ field2 b 12 ∧ field2 b 12 ≤ 1024,
        -100 ≤ signedAt b 14 ∧ signedAt b 14 ≤ -20, byteAt b 15 ≤ 1,
        byteAt b 15 = 1 → byteAt b 16 ≤ 1, True]
    FailsAt (checks [15, 1, 0, 0, 0, 0, 5, 0, 0, 0, 0, 7, 4, 0, 0, 2, 2, 0, 0, 0, 0]) 8 ∧
    FailsAt (checks [0, 0, 0, 0, 0, 0, 2, 0, 0, 0, 0, 0, 0, 1, 0xEC, 1, 2, 0, 0, 0, 0]) 10 := by
  refine ⟨⟨[_, _, _, _, _, _, _], _, _, rfl, ?_, by decide +kernel, rfl⟩,
    ⟨[_, _, _, _, _, _, _, _, _], _, _, rfl, ?_, by decide +kernel, rfl⟩⟩ <;>
    simp only [List.forall_mem_cons, List.not_mem_nil, false_implies, implies_true] <;> decide +kernel

theorem witness_CommitExamined :
    live.phase = .running ∧ live.pe.grant = some .a ∧ (live.framed .a 5).pe.pendingApply = none ∧
    ({ plan with issue := 43 } : Plan).validate (live.framed .a 5).pe.lastIssued = none ∧
    (committing.framed .a 5).pe.pendingApply.isSome = true ∧
    (plan.validate 4294967295).isSome = true := by decide +kernel

theorem witness_PendingMovedByHolder :
    live.phase = .running ∧ live.pe.grant = some .a ∧ (live.framed .a 5).pe.pendingApply = none ∧
    committing.pe.grant = some .a ∧ (committing.framed .a 5).pe.pendingApply.isSome = true ∧
    (∀ k, (live.framed .a 5).pe.entry k = none) ∧ (onProbation.framed .a 5).pe.entry 0 = some Plan.empty ∧
    (onProbation.framed .a 5).pe.pendingApply = none ∧ onProbation.phase = .running ∧
    onProbation.pe.grant = some .a ∧ (reverting.framed .a 5).pe.entry 0 = some Plan.empty ∧
    (reverting.framed .a 5).pe.pendingApply.isSome = true := by decide +kernel

/-- `air` with TX1 locked out in a sequencer state. -/
def lockedIn (st : SeqState) : State :=
  (withSeq air .tx1 fun x => { x with state := st }).setProtection .tx1
    { air.protection .tx1 with lockedOut := true }

/-- Levels, chains in and out of the lockout set, and a locked-out chain in LOCKED_OUT, enabled or not, in
RAMP_DOWN above zero and at zero, and in PA_DISCHARGE. -/
theorem witness_RestoreChainClears :
    let restored (s : State) := ((after (.restoreChain .a 5 ⟨[3], 0⟩) s).seq .tx1).state
    let silent := (lockedIn .rampDown).setLane 0 { air.lane 0 with current := 0, target := 0 }
    locked.phase = .running ∧ locked.pe.grant = some .a ∧ (1 : Byte).toNat < 2 ∧ 5 < (6 : Byte).toNat ∧
    ((locked.framed .a 6).protection .tx0).lockedOut = false ∧
    ((locked.framed .a 6).protection .tx3).lockedOut = true ∧
    ((after (.restoreChain .a 5 ⟨[5], 0⟩) locked).seq .tx3).state = .off ∧
    (∀ st, (((lockedIn st).framed .a 6).protection .tx1).lockedOut = true ∧ (lockedIn st).phase = .running ∧
      (lockedIn st).pe.grant = some .a ∧ (((lockedIn st).framed .a 6).seq .tx1).state = st) ∧
    restored (lockedIn .lockedOut) = .driveSettle ∧ restored (lockedIn .rampDown) = .rampDown ∧
    restored silent = .paDischarge ∧ restored (lockedIn .paDischarge) = .paDischarge :=
  ⟨by decide +kernel, by decide +kernel, by decide +kernel, by decide +kernel, by decide +kernel,
    by decide +kernel, by decide +kernel, fun _ => ⟨rfl, rfl, rfl, rfl⟩, by decide +kernel⟩

/-- `air` with the synthesizer of TX3 FAILED and an audit of RX0 outstanding. -/
def mixedSynths : State :=
  withSynth (withSynth air (.tx .tx3) fun x =>
      { x with state := .failed, wanted := some 500000000, retry := some 9000 })
    (.rx .rx0) fun x => { x with auditing := true }

theorem witness_MeasureServed :
    let u := mixedSynths.framed .b 5
    mixedSynths.phase = .running ∧ 5 < (6 : Byte).toNat ∧ (u.synth (.tx .tx1)).state = .verified ∧
      (u.synth (.tx .tx1)).auditing = false ∧ (u.synth (.rx .rx0)).state = .verified ∧
      (u.synth (.rx .rx0)).auditing = true ∧ (u.synth (.tx .tx3)).state = .failed ∧
      (u.synth (.rx .rx1)).state ≠ .verified ∧ (u.synth (.rx .rx1)).state ≠ .failed := by decide +kernel

theorem witness_StoreAndCauseRequested :
    air.phase = .running ∧ air.pe.grant = some .a ∧ ((air.framed .a 5).seq .tx1).state ≠ .off ∧
    ((air.framed .a 5).seq .tx1).state ≠ .lockedOut ∧
    ∀ x, ((live.framed .a 5).seq x).state = .off ∨ ((live.framed .a 5).seq x).state = .lockedOut := by
  refine ⟨by decide +kernel, by decide +kernel, by decide +kernel, by decide +kernel, forall_tx ?_ ?_ ?_ ?_⟩ <;>
    decide +kernel

/-! ## Witnesses: arithmetic and records -/

theorem witness_StoredRecordsReadBack : plan.Fits := by
  refine ⟨by decide, ?_, forall_tx ?_ ?_ ?_ ?_, ?_, by unfold Limits.Fits; decide⟩
  · intro r l h
    cases r <;> cases h
    decide
  · exact ⟨nofun, by decide⟩
  · refine ⟨?_, by decide⟩
    intro l h
    cases h
    decide
  · exact ⟨nofun, by decide⟩
  · exact ⟨nofun, by decide⟩
  · intro n e
    match n with
    | ⟨0, _⟩ =>
      intro h
      cases h
      exact ⟨by decide, by decide, by decide, by decide, by decide, nofun⟩
    | ⟨k + 1, hk⟩ =>
      intro h
      have : ∀ m : Fin 15, plan.slots.get m.succ = none := by decide +kernel
      exact absurd ((this ⟨k, by omega⟩).symm.trans h) nofun

theorem witness_DividerWordsNearNominal : legalLo 50000000 ∧ legalLo 1000000000 := legalLo_ends

theorem witness_NcoWordsInRange :
    2 * ((690000000 : Int) * 2 ^ 24 - 10000000 * (2 ^ 24 * 68 + 12163482)).natAbs + bandwidth 7 * 2 ^ 24
      ≤ 28000000 * 2 ^ 24 := by decide

/-- A chain at its share of 512, and one oversubscribed at 1,536. -/
theorem witness_EffectiveSharesFit :
    (plan.slots.get 0).isSome = true ∧ plan.shareSum .tx1 = 512 ∧
    ({ plan with slots := plan.slots.set 1 (some edgeSlot) } : Plan).shareSum .tx1 = 1536 := by decide +kernel

/-! ## Witnesses: timers, marks and applies -/

theorem witness_StoppedTimersDoNothing :
    live.pe.probation = none ∧ live.ref.qualify = none ∧ live.ref.holdover = none ∧ live.fc.current = none ∧
    live.probe.timer = none ∧ live.store.inFlight = none ∧ live.time.startDelay = none ∧
    (live.synth (.rx .rx0)).transfer = .none ∧ (live.synth (.rx .rx0)).state ≠ .verified ∧
    (live.synth (.rx .rx0)).settle = none ∧ (live.mixer .tx0).timer = none ∧
    (live.seq .tx0).settleTimer = none ∧ (live.seq .tx0).dischargeTimer = none ∧
    (live.protection .tx0).hold = none ∧ (live.record .site).retry = none ∧
    (live.port .a).silence = none := by decide +kernel

/-- A state with the reference LOCKED. -/
def locking (s : State) : State := { s with ref := { s.ref with state := .locked } }

theorem witness_MarkWithNothingPending :
    (∃ u, MakesMark .secondMark live u) ∧ (∃ u, MakesMark .ppsEdge (locking live) u) ∧
    (∃ u, MakesMark .substitutedMark (locking live) u) ∧ live.pe.pendingApply = none ∧
    (locking live).ref.state = .locked ∧ live.ref.state ≠ .locked ∧
    (let s := { live with ref := { live.ref with leftLocked := 1000 } }
     s.time.lastMark + 100 ≤ s.ref.leftLocked ∧ (after .secondMark s).time.lastMark = 1001) ∧
    State.reset.time.steps < State.reset.time.lastMark + 50 :=
  ⟨⟨_, .inl ⟨rfl, nofun, nofun, rfl⟩⟩, ⟨_, .inr (.inl ⟨rfl, nofun, rfl, by decide, rfl⟩)⟩,
    ⟨_, .inr (.inr ⟨rfl, nofun, rfl, _, rfl, rfl⟩)⟩, rfl, rfl, nofun, by decide +kernel, by decide⟩

theorem committing_sound : committing.Sound :=
  sound _ (resting_sound _ (forall_chain ⟨rfl, rfl, rfl, rfl, rfl⟩ ⟨rfl, rfl, rfl, rfl, rfl⟩
      (forall_tx ⟨rfl, rfl, rfl, rfl, rfl⟩ ⟨rfl, rfl, rfl, rfl, rfl⟩ ⟨rfl, rfl, rfl, rfl, rfl⟩
        ⟨rfl, rfl, rfl, rfl, rfl⟩)) rfl rfl)
    (sequencers_sound _ (forall_tx (by decide +kernel) (by decide +kernel) (by decide +kernel)
      (by decide +kernel)))
    (by
      unfold State.LevelSound
      exact forall_tx (by decide +kernel) (by decide +kernel) (by decide +kernel) (by decide +kernel))
    (forall_tx (by decide +kernel) (by decide +kernel) (by decide +kernel) (by decide +kernel))
    (by decide +kernel)

/-- A commit applied at a second mark, with the default probation of 120 s, and no chain locked out by it. -/
theorem witness_CommitApplied :
    (∃ u, MakesMark .secondMark committing u) ∧
    committing.pe.pendingApply
      = some { change := .commit { plan with issue := 43 }, issue := 43, requestedBy := .a } ∧
    committing.Sound ∧ (∀ n, (committing.lane n).slot = committing.pe.active.slots.get n) ∧
    ∀ x, ((after .secondMark committing).protection x).lockedOut = false :=
  ⟨⟨_, .inl ⟨rfl, nofun, nofun, rfl⟩⟩, rfl, committing_sound, by decide +kernel,
    forall_tx (by decide +kernel) (by decide +kernel) (by decide +kernel) (by decide +kernel)⟩

/-- `air` with a PA fault of TX1 at severity 2, and a COMMIT pending that gives it severity 3 with a trip limit
of 1. -/
def tripping : State :=
  let strict : Plan :=
    { plan with issue := 43, limits := { plan.limits with tripLimit := 1 } }
  let s : State :=
    { air with
      pe := { air.pe with
        active := { plan with severities := { plan.severities with paFault := 2 } }
        pendingApply := some { change := .commit strict, issue := 43, requestedBy := .a } } }
  s.setProtection .tx1
    { s.protection .tx1 with
      present := { (s.protection .tx1).present with paFault := true }
      highest := 2, level := 2, cause := some .paFault }

/-- A commit that locks a chain out as it is applied: the new plan's probation fails at once. -/
theorem witness_CommitApplied_lockout :
    (∃ u, MakesMark .secondMark tripping u) ∧ tripping.Sound ∧
    (tripping.protection .tx1).lockedOut = false ∧
    ((after .secondMark tripping).protection .tx1).lockedOut = true ∧
    (after .secondMark tripping).pe.active.limits.probation ≠ 0 ∧
    (after .secondMark tripping).pe.pendingApply
      = some { change := .revert, issue := 42, requestedBy := .probation } := by
  refine ⟨⟨_, .inl ⟨rfl, nofun, nofun, rfl⟩⟩, ?_, by decide +kernel⟩
  refine sound _ ⟨air_counter.contexts, air_counter.nodup, air_counter.queued, air_counter.measured⟩
    air_sequencers ?_
    (forall_tx (by decide +kernel) (by decide +kernel) (by decide +kernel) (by decide +kernel))
    (by decide +kernel)
  unfold State.LevelSound
  exact forall_tx (by decide +kernel) (by decide +kernel) (by decide +kernel) (by decide +kernel)

theorem witness_RevertApplied :
    (∃ u, MakesMark .ppsEdge (locking reverting) u) ∧
    reverting.pe.pendingApply = some { change := .revert, issue := 0, requestedBy := .a } ∧
    (locking reverting).pe.entry 0 = some Plan.empty ∧
    ∀ n, (reverting.lane n).slot = reverting.pe.active.slots.get n :=
  ⟨⟨_, .inr (.inl ⟨rfl, nofun, rfl, by decide, rfl⟩)⟩, rfl, rfl, by decide +kernel⟩

/-- `air` with a COMMIT pending. -/
def applying (p : Plan) : State :=
  { air with
    pe := { air.pe with pendingApply := some { change := .commit p, issue := 43, requestedBy := .a } } }

theorem applying_sound (p : Plan) : (applying p).CounterSound :=
  resting_sound _ (forall_chain ⟨rfl, rfl, rfl, rfl, rfl⟩ ⟨rfl, rfl, rfl, rfl, rfl⟩
    (forall_tx ⟨rfl, rfl, rfl, rfl, rfl⟩ ⟨rfl, rfl, rfl, rfl, rfl⟩ ⟨rfl, rfl, rfl, rfl, rfl⟩
      ⟨rfl, rfl, rfl, rfl, rfl⟩)) rfl rfl

/-- `plan` with slot 0 moved to TX2. -/
def movedPlan : Plan :=
  { plan with
    tx := { plan.tx with tx2 := { TxSettings.default with enabled := true, lo := some 687250000 } }
    slots := plan.slots.set 0 ((plan.slots.get 0).map fun e => { e with outputChain := .tx2 }) }

/-- `plan` with TX1 retuned, slot 1 present, and slot 0 on another input frequency. -/
def changedPlan : Plan :=
  { plan with
    tx := { plan.tx with tx1 := { plan.tx.tx1 with lo := some 688000000 } }
    slots := (plan.slots.set 0 ((plan.slots.get 0).map fun e => { e with inputFrequency := 601000000 })).set 1
      (some edgeSlot) }

/-- One plan for each clause: slots that stay, come, go, move to another chain, change inputs, and a chain
that is retuned; an apply of either kind; and the lanes that the plans reach. -/
theorem witness_ApplyHandsLanes :
    (∀ p, ∃ u, MakesMark .secondMark (applying p) u) ∧ (∃ u, MakesMark .ppsEdge (locking reverting) u) ∧
    (∀ p, (applying p).LevelSound ∧ (applying p).CounterSound) ∧
    ((locking reverting).LevelSound ∧ (locking reverting).CounterSound) ∧
    reverting.pe.entry 0 = some Plan.empty ∧
    (∀ n, (reverting.lane n).slot = reverting.pe.active.slots.get n) ∧
    (∀ n, (air.lane n).slot = air.pe.active.slots.get n) ∧
    (plan.slots.get 1 = none ∧ Plan.empty.slots.get 0 = none ∧ (plan.slots.get 0).isSome = true ∧
      changedPlan.slots.get 1 = some edgeSlot ∧
      ((plan.slots.get 0).map SlotEntry.outputChain ≠ (movedPlan.slots.get 0).map SlotEntry.outputChain) ∧
      ((plan.slots.get 0).map SlotEntry.inputFrequency
        ≠ (changedPlan.slots.get 0).map SlotEntry.inputFrequency) ∧
      (plan.tx.get .tx1).lo ≠ (changedPlan.tx.get .tx1).lo) ∧
    ((after .secondMark (applying plan)).lane 0).current = 512 ∧
    ((after .secondMark (applying movedPlan)).lane 0).current = 0 ∧
    ((after .secondMark (applying changedPlan)).lane 0).phaseReset = true := by
  refine ⟨fun p => ⟨_, .inl ⟨rfl, nofun, nofun, rfl⟩⟩, ⟨_, .inr (.inl ⟨rfl, nofun, rfl, by decide, rfl⟩)⟩,
    fun p => ⟨air_levels, applying_sound p⟩, ⟨?_, resting_sound _ ?_ rfl rfl⟩, rfl, by decide +kernel,
    by decide +kernel, by decide +kernel, by decide +kernel, by decide +kernel, by decide +kernel⟩
  · unfold State.LevelSound
    exact forall_tx (by decide +kernel) (by decide +kernel) (by decide +kernel) (by decide +kernel)
  · exact forall_chain (by decide +kernel) (by decide +kernel)
      (forall_tx (by decide +kernel) (by decide +kernel) (by decide +kernel) (by decide +kernel))

/-- `air` with the probe visiting slot 0, whose primary input is RX0. -/
def airVisited : State :=
  { air with probe := { visit := some 0, phase := some .judge, timer := some 1003, lastVisited := some 0
                        clean := true } }

/-- The window in progress of a kept slot, and of a reset one off the boundary and at it; a visit of the kept
slot. -/
theorem witness_ApplyHandsLanes_windows :
    let t (p : Plan) (boundary : Bool) : State :=
      let s := applying p
      let s := s.setInput 0 { s.input 0 with windowVoid := false }
      let s := { s with probe := { airVisited.probe with timer := some 2000 } }
      after .secondMark { s with
        time := { s.time with lastWindow := if boundary then s.time.lastMark + 100 else 990 } }
    ((t plan false).input 0).windowVoid = false ∧ (t plan false).probe.clean = true ∧
    ((t changedPlan false).input 0).windowVoid = true ∧ ((t changedPlan true).input 0).windowVoid = false ∧
    (t changedPlan false).probe.visit = none := by decide +kernel

/-- `applying changedPlan` with the receive synthesizer of RX0 wanting another LO, and with the reference
QUALIFYING or in HOLDOVER, and a plan with other times. -/
theorem witness_ApplyHandsBlocks :
    let timed : Plan :=
      { plan with limits := { plan.limits with qualifyTime := 1, holdoverAllowance := 1, auditInterval := 0 } }
    let qualifying : State :=
      { applying timed with
        ref := { air.ref with state := .qualifying, enteredAt := 950, qualify := some 2000 } }
    (applying changedPlan).LevelSound ∧ (applying changedPlan).CounterSound ∧
    (applying changedPlan).SequencersSound ∧ qualifying.LevelSound ∧ qualifying.CounterSound ∧
    qualifying.SequencersSound ∧ (locking reverting).SequencersSound ∧
    ((after .secondMark (applying changedPlan)).seq .tx1).retunePending = true ∧
    (after .secondMark (applying changedPlan)).synth (.tx .tx1) ≠ SynContext.reset ∧
    qualifying.limits.qualifyTime ≠ 1 ∧ air.ref.state = .holdover ∧ air.limits.holdoverAllowance ≠ 1 ∧
    air.limits.auditInterval ≠ 0 ∧ (after .secondMark qualifying).ref.qualify = some 1050 ∧
    ((after .secondMark (locking reverting)).synth (.rx .rx0)).wanted = none ∧
    ((after .secondMark (applying Plan.empty)).synth (.rx .rx0)).state = .idle :=
  ⟨air_levels, applying_sound _, air_sequencers, air_levels, ⟨(applying_sound plan).contexts,
    (applying_sound plan).nodup, (applying_sound plan).queued, (applying_sound plan).measured⟩, air_sequencers,
    sequencers_sound _ (forall_tx (by decide +kernel) (by decide +kernel) (by decide +kernel)
      (by decide +kernel)), by decide +kernel⟩

/-- `onProbation` with the receive synthesizer of RX0 at its last attempt's settle expiry. -/
def lastAttempt : State :=
  withSynth onProbation (.rx .rx0) fun x => { x with state := .settling, attempts := 3, settle := some 1002 }

theorem witness_ProbationEnds :
    onProbation.pe.probation = some 9000 ∧
    (lastAttempt.synth (.rx .rx0)).settle = some 1002 ∧
    lastAttempt.limits.attempts ≤ (lastAttempt.synth (.rx .rx0)).attempts ∧
    (lastAttempt.pe.active.rx.get .rx0).isSome = true ∧ lastAttempt.pe.status = .onProbation ∧
    lastAttempt.pe.pendingApply = none ∧
    (∀ r, let s := { lastAttempt with pe := { lastAttempt.pe with pendingApply := r } }
      s.limits.attempts ≤ (s.synth (.rx .rx0)).attempts ∧ s.pe.pendingApply = r) ∧
    committing.pe.pendingApply = some ⟨.commit { plan with issue := 43 }, 43, .a⟩ ∧
    reverting.pe.pendingApply = some ⟨.revert, 0, .a⟩ :=
  ⟨rfl, rfl, by decide +kernel, rfl, rfl, rfl, fun _ => ⟨Nat.le_refl 3, rfl⟩, rfl, rfl⟩

/-! ## Witnesses: the reference, synthesizers and the counter -/

/-- The two edges of the presence range, in each state of the reference; a held part. -/
theorem witness_PresenceWindowJudged :
    live.phase ≠ .held ∧ (live.enterHold).phase = .held ∧
    [96999, 97000, 103000, 103001].map (fun edges => decide (97000 ≤ edges ∧ edges ≤ 103000))
      = [false, true, true, false] ∧
    (after (.presenceWindowEnd 97000 false) State.reset).ref.state = .qualifying ∧
    (after (.presenceWindowEnd 96999 false) live).ref.state = .absent := by decide +kernel

/-- A receive measurement in flight as the reference is lost; a queue that waits as it returns, with the counter
free and with a spoiled measurement still running. -/
theorem witness_PresenceWindowJudged_counter :
    let rx : Measurement := { counting with syn := .rx .rx0 }
    let losing : State := { live with fc := { live.fc with current := some rx } }
    let waiting : State := { State.reset with fc := { State.reset.fc with queue := [⟨.rx .rx0, false⟩] } }
    losing.fc.current = some rx ∧ rx.syn = .rx .rx0 ∧ losing.phase ≠ .held ∧
    waiting.ref.state = .absent ∧ waiting.phase ≠ .held ∧ waiting.pu.device.refAbsent = true ∧
    waiting.pu.device.refHoldover = false ∧ waiting.pu.device.refExpired = false ∧
    waiting.fc.current = none ∧ waiting.fc.queue = [⟨.rx .rx0, false⟩] ∧ State.reset.fc.queue = [] ∧
    (after (.presenceWindowEnd 97000 false) waiting).fc.current.isSome = true ∧
    (after (.presenceWindowEnd 96999 false) losing).fc.current = some { rx with spoiled := true } := by
  decide +kernel

/-- `live` with the qualify and the holdover timer running. -/
def timedReference : State := { live with ref := { live.ref with qualify := some 1000, holdover := some 1001 } }

theorem witness_ReferenceTimersExpire :
    timedReference.ref.qualify = some 1000 ∧ timedReference.ref.holdover = some 1001 ∧
    timedReference.ref.disciplined = false ∧ 0 < timedReference.limits.holdoverAllowance := by decide +kernel

/-- `air` with TX1 being programmed, for a wanted LO and with a restart pending. -/
def programming (restart : Bool) (wanted : Option Nat) : State :=
  withSynth air (.tx .tx1) fun x =>
    { x with
      state := .programming, attempts := 1, wanted := wanted, programmed := none, restartPending := restart
      transfer := .programming ⟨68, 12163482⟩, output := .disabled }

theorem witness_ControlLineEnds :
    ((programming false (some 687250000)).synth (.tx .tx1)).transfer = .programming ⟨68, 12163482⟩ ∧
    ((programming true none).synth (.tx .tx1)).wanted = none ∧
    ((programming true (some 688000000)).synth (.tx .tx1)).restartPending = true ∧
    ((programming false (some 687250000)).synth (.tx .tx1)).programmed ≠ some ⟨68, 12163482⟩ ∧
    ((withSynth air (.tx .tx0) fun x => { x with transfer := .powerDown }).synth (.tx .tx0)).transfer
      = .powerDown ∧
    ((programming true none).lane 0).transmitWord.isSome = true ∧
    ((after (.programmingComplete (.tx .tx1)) (programming true none)).lane 0).transmitWord = none := by
  decide +kernel

/-- `air` with the synthesizer of TX1 at its settle expiry. -/
def settling (attempts : Nat) : State :=
  withSynth air (.tx .tx1) fun x => { x with state := .settling, attempts := attempts, settle := some 1002 }

theorem settling_sound : (settling 1).CounterSound where
  contexts := forall_chain (still_sound _ (by decide +kernel)) (still_sound _ (by decide +kernel))
    (forall_tx (still_sound _ (by decide +kernel))
      ⟨fun _ => rfl, nofun, nofun, nofun, by rintro ⟨_, h⟩; cases h⟩
      (still_sound _ (by decide +kernel)) (still_sound _ (by decide +kernel)))
  nodup := List.nodup_nil
  queued := by
    intro q h
    cases h
  measured := nofun

theorem witness_SettleExpiryExamined :
    (settling 1).CounterSound ∧ ((settling 1).synth (.tx .tx1)).settle = some 1002 ∧
    (settling 1).fc.current = none ∧ (settling 1).ref.state ≠ .absent ∧ (settling 1).fc.queue = [] ∧
    ((settling 2).synth (.tx .tx1)).attempts < (settling 2).limits.attempts ∧
    (settling 3).limits.attempts ≤ ((settling 3).synth (.tx .tx1)).attempts :=
  ⟨settling_sound, rfl, rfl, nofun, rfl, by decide +kernel, by decide +kernel⟩

/-- The same in ABSENT, where the synthesizer waits. -/
theorem witness_SettleExpiryExamined_waits :
    let s := { settling 1 with ref := { (settling 1).ref with state := .absent } }
    s.CounterSound ∧ s.ref.state = .absent ∧ (s.synth (.tx .tx1)).settle = some 1002 :=
  ⟨⟨settling_sound.contexts, settling_sound.nodup, settling_sound.queued, settling_sound.measured⟩, rfl, rfl⟩

theorem witness_RetryAndAuditStart :
    (mixedSynths.synth (.tx .tx3)).retry = some 9000 ∧
    ((withSynth measuring (.rx .rx0) fun x => { x with audit := some 9000 }).synth (.rx .rx0)).audit
      = some 9000 ∧
    (∀ q ∈ measuring.fc.queue, q.syn ≠ .rx .rx0) ∧ measuring.fc.current.isSome = true ∧
    (let s := withSynth air (.rx .rx0) fun x => { x with audit := some 9000 }
     (s.synth (.rx .rx0)).audit = some 9000 ∧ s.fc.current = none ∧ s.ref.state ≠ .absent ∧
       s.fc.queue = [] ∧
       (after (.auditExpiry (.rx .rx0)) s).fc.current.map (fun m => (m.syn, m.audit))
         = some (.rx .rx0, true)) := by decide +kernel

/-- The transmit rows on air, with the drive off, and in a DRIVE_SETTLE that hands no other LO over. -/
theorem witness_LockDropMutes_transmit :
    [SeqState.onAir, .off, .tuning, .driveSettle].all (fun st =>
      let s := withSeq air .tx1 fun x => { x with state := st }
      let t := after (.lockDrop (.tx .tx1)) s
      (s.synth (.tx .tx1)).wanted == s.pe.active.tuningLo .tx1 && (t.synth (.tx .tx1)).lost &&
        (t.synth (.tx .tx1)).attempts == 1 && (t.protection .tx1).present.txLoLost) = true := by decide +kernel

/-- A visit loses its cleanness with the chain of its primary input and with no other; MUTED and DRIVE_SETTLE.
-/
theorem witness_LockDropMutes_visit :
    (after (.lockDrop (.rx .rx0)) airVisited).probe.clean = false ∧
    ((airVisited.lane 0).slot.map SlotEntry.inputChain) = some .rx0 ∧ air.probe.visit = none ∧
    air.LevelSound ∧ air.phase = .running ∧
    [SeqState.muted, .driveSettle].all (fun st =>
      let s := withSeq air .tx1 fun x => { x with state := st }
      let t := after (.lockDrop (.tx .tx1)) s
      s.wantedOn .tx1 && t.wantedOn .tx1 && (t.seq .tx1).state == st) = true :=
  ⟨by decide +kernel, by decide +kernel, rfl, air_levels, rfl, by decide +kernel⟩

theorem witness_LockDropMutes :
    (air.synth (.rx .rx0)).state = .verified ∧ (air.lane 0).slot = plan.slots.get 0 ∧
    (air.synth (.tx .tx1)).state = .verified ∧ (air.seq .tx1).state = .onAir ∧
    air.laneOn .tx1 0 = true := by decide +kernel

/-- The first measurement of TX1's synthesizer: its counts, another number, a spoiled one, and the chain's
states in which a WITHIN verdict moves it. -/
theorem witness_GateCloseJudged :
    let at_ (st : SeqState) : State := withSeq measuring .tx1 fun x => { x with state := st }
    measuring.CounterSound ∧ measuring.fc.current = some counting ∧ counting.spoiled = false ∧
      counting.audit = false ∧ 2 ≠ counting.number ∧ { counting with spoiled := true }.spoiled = true ∧
      measuring.LevelSound ∧
      (∀ st, ((at_ st).seq .tx1).state = st ∧ ((at_ st).seq .tx1).driveSettled = false ∧
        ((at_ st).seq .tx1).runDown = false) ∧
      (at_ .tuning).wantedOn .tx1 = true ∧
      (measuring.synth (.tx .tx1)).wanted = (measuring.pe.active.tx.get .tx1).lo ∧
      measuring.phase = .running ∧ (measuring.protection .tx1).level < 2 ∧
      (counting.expected ≤ 85899 + counting.tolerance ∧ 85913 ≤ counting.expected + counting.tolerance) ∧
      ¬counting.expected ≤ 84656 + counting.tolerance ∧ ¬87156 ≤ counting.expected + counting.tolerance ∧
      (measuring.synth (.tx .tx1)).attempts < measuring.limits.attempts ∧
      ((after (.gateClose ⟨1, 85906⟩) (at_ .tuning)).seq .tx1).state = .driveSettle :=
  ⟨measuring_sound, rfl, rfl, rfl, by decide, rfl, measuring_levels, fun _ => ⟨rfl, rfl, rfl⟩,
    by decide +kernel⟩

/-- The last attempt, for a used synthesizer of a plan on probation; a chain waiting in DRIVE_SETTLE with its
drive settled, at level 1 and at level 2; and a measurement of a receive synthesizer. -/
theorem witness_GateCloseJudged_ends :
    let last := withSynth measuring (.tx .tx1) fun x => { x with attempts := 3 }
    let waiting (level : Level) : State :=
      (withSeq measuring .tx1 fun x => { x with state := .driveSettle, driveSettled := true }).setProtection
        .tx1 { measuring.protection .tx1 with level := level }
    let rx : State :=
      { withSynth air (.rx .rx0) (fun x => { x with state := .measuring, attempts := 1 }) with
        fc := { air.fc with current := some { counting with syn := .rx .rx0 } } }
    last.limits.attempts ≤ (last.synth (.tx .tx1)).attempts ∧ last.pe.active.uses (.tx .tx1) = true ∧
    onProbation.pe.status = .onProbation ∧ ((waiting 1).protection .tx1).level < 2 ∧
    ((waiting 1).seq .tx1).driveSettled = true ∧ (waiting 1).wantedOn .tx1 = true ∧
    ((waiting 2).protection .tx1).level = 2 ∧ (waiting 2).wantedOn .tx1 = true ∧
    ((after (.gateClose ⟨1, 84656⟩) last).synth (.tx .tx1)).state = .failed ∧
    ((after (.gateClose ⟨1, 85906⟩) (waiting 2)).seq .tx1).state = .muted ∧
    ((after (.gateClose ⟨1, 85906⟩) rx).synth (.rx .rx0)).state = .verified ∧
    (rx.fc.current.map Measurement.syn = some (.rx .rx0)) := by decide +kernel

/-- A receive measurement that lets lane 0 leave HELD, an audit of it that fails during a visit, and the chain
in DRIVE_SETTLE: at its last attempt, at a failed audit, and WITHIN while it is not wanted on. -/
theorem witness_GateCloseJudged_lanes :
    let rx (audit : Bool) : State :=
      let s := withSynth airVisited (.rx .rx0) fun x =>
        { x with state := if audit then .verified else .measuring, auditing := audit, attempts := 1
                 audit := none }
      let s := s.setLane 0 { s.lane 0 with state := .held, current := if audit then 512 else 0, target := 0 }
      { s with fc := { s.fc with current := some { counting with syn := .rx .rx0, audit := audit } } }
    let settling (s : State) : State := withSeq s .tx1 fun x => { x with state := .driveSettle }
    let last := settling (withSynth measuring (.tx .tx1) fun x => { x with attempts := 3 })
    let failing : State :=
      settling { withSynth air (.tx .tx1) (fun x => { x with auditing := true, audit := none }) with
                 fc := { air.fc with current := some { counting with audit := true } } }
    let pending := withSeq (settling measuring) .tx1 fun x => { x with retunePending := true }
    ((after (.gateClose ⟨1, 85906⟩) (rx false)).lane 0).state = .livePrimary ∧
    ((after (.gateClose ⟨1, 85906⟩) (rx false)).lane 0).target = 512 ∧
    ((after (.gateClose ⟨1, 84656⟩) (rx true)).lane 0).current = 0 ∧
    (after (.gateClose ⟨1, 84656⟩) (rx true)).probe.clean = false ∧
    last.wantedOn .tx1 = true ∧ ((after (.gateClose ⟨1, 84656⟩) last).seq .tx1).state = .off ∧
    failing.wantedOn .tx1 = true ∧
    ((after (.gateClose ⟨1, 84656⟩) failing).seq .tx1).state = .driveSettle ∧
    pending.wantedOn .tx1 = false ∧
    ((after (.gateClose ⟨1, 85906⟩) pending).seq .tx1).state = .driveSettle := by decide +kernel

theorem witness_TimeoutUnordered :
    measuring.CounterSound ∧ measuring.fc.current = some counting ∧ measuring.fc.queue = [] ∧
    measuring.ref.state ≠ .absent ∧ counting.audit = false :=
  ⟨measuring_sound, rfl, rfl, nofun, rfl⟩

/-- The same in ABSENT, where the synthesizer waits QUEUED alone. -/
theorem witness_TimeoutUnordered_waits :
    let s := { measuring with ref := { measuring.ref with state := .absent } }
    s.CounterSound ∧ s.fc.current = some counting ∧ s.fc.queue = [] ∧ s.ref.state = .absent ∧
    ((after .measurementTimeout s).synth (.tx .tx1)).state = .queued :=
  ⟨⟨measuring_sound.contexts, measuring_sound.nodup, measuring_sound.queued, measuring_sound.measured⟩,
    rfl, rfl, rfl, by decide +kernel⟩

/-- The closing at 10,008 ms, between two step boundaries, moves the step count to 1,001; one commanded after
it, at step 1,100, is taken there. -/
theorem test_closing_between_steps :
    (after (.gateClose ⟨1, 85906⟩) measuring).time.steps = 1001 ∧
    (after (.gateClose ⟨1, 85906⟩)
      { measuring with time := { measuring.time with steps := 1100 } }).time.steps = 1100 := by decide +kernel

/-- Section 8: a measurement begun at 6002.13 s with gate exponent 3 closes at 6002.138 s, and the drive-settle
timer of 200 ms that it starts expires at 6002.34 s. -/
theorem test_drive_settle_worked :
    let s := withSeq measuring .tx1 fun x => { x with state := .tuning }
    let s : State :=
      { s with
        time := { s.time with steps := 600213 }
        fc := { s.fc with current := some { counting with startedAt := 6002130 } } }
    ((after (.gateClose ⟨1, 85906⟩) s).seq .tx1).settleTimer = some 600234 := by decide +kernel

/-- `measuring` with the synthesizer of RX0 waiting. -/
def measuringWithQueue : State :=
  let s := withSynth measuring (.rx .rx0) fun x => { x with state := .queued }
  { s with fc := { s.fc with queue := [⟨.rx .rx0, false⟩] } }

/-- A queue that waits while a measurement ends: by a timeout, and by a closing taken in time and late. -/
theorem witness_MeasurementEnds_queue :
    measuringWithQueue.CounterSound ∧ measuringWithQueue.fc.current = some counting ∧
    measuringWithQueue.fc.queue ≠ [] ∧ measuringWithQueue.ref.state ≠ .absent ∧
    ((after (.gateClose ⟨1, 84656⟩) measuringWithQueue).fc.current.map
      fun m => (m.syn, m.startedAt)) = some (.rx .rx0, 10008) ∧
    ((after (.gateClose ⟨1, 84656⟩)
        { measuringWithQueue with time := { measuring.time with steps := 1100 } }).fc.current.map
      fun m => (m.syn, m.startedAt)) = some (.rx .rx0, 11000) :=
  ⟨{ contexts := forall_chain (still_sound _ (by decide +kernel)) (still_sound _ (by decide +kernel))
       (forall_tx (still_sound _ (by decide +kernel)) (still_sound _ (by decide +kernel))
         (still_sound _ (by decide +kernel)) (still_sound _ (by decide +kernel)))
     nodup := by
       unfold State.QueueSound
       decide +kernel
     queued := by
       intro q h
       have hq : q = ⟨.rx .rx0, false⟩ := List.mem_singleton.mp h
       subst hq
       exact rfl
     measured := by
       intro m h
       have hm : counting = m := Option.some.inj h
       subst hm
       refine ⟨rfl, ?_⟩
       intro q h
       have hq : q = ⟨.rx .rx0, false⟩ := List.mem_singleton.mp h
       subst hq
       exact nofun }, rfl, nofun, nofun, by decide +kernel⟩

/-- The same measurement as an audit of TX1, VERIFIED. -/
def auditing : State :=
  { withSynth air (.tx .tx1) (fun x => { x with auditing := true }) with
    fc := { air.fc with current := some { counting with audit := true } } }

/-- An audit whose count fails: TX1, ON_AIR, is muted at once. -/
theorem witness_GateCloseJudged_audit :
    (auditing.seq .tx1).state = .onAir ∧ auditing.LevelSound ∧ auditing.laneOn .tx1 0 = true ∧
    ((after (.gateClose ⟨1, 84656⟩) auditing).synth (.tx .tx1)).lost = true ∧
    ((after (.gateClose ⟨1, 85906⟩) auditing).synth (.tx .tx1)).auditing = false :=
  ⟨rfl, air_levels, by decide +kernel⟩

theorem witness_audit_sound :
    auditing.CounterSound ∧ auditing.fc.current = some { counting with audit := true } :=
  ⟨{ contexts := forall_chain (still_sound _ (by decide +kernel)) (still_sound _ (by decide +kernel))
       (forall_tx (still_sound _ (by decide +kernel))
         ⟨nofun, nofun, nofun, fun _ => rfl, by rintro ⟨_, h⟩; cases h⟩
         (still_sound _ (by decide +kernel)) (still_sound _ (by decide +kernel)))
     nodup := List.nodup_nil
     queued := by
       intro q h
       cases h
     measured := by
       intro m h
       have hm : { counting with audit := true } = m := Option.some.inj h
       subst hm
       exact ⟨⟨rfl, rfl⟩, by intro q h; cases h⟩ }, rfl⟩

/-! ## Witnesses: transmit chains and protection -/

/-- `air` with TX1 in a state and its mixer one step from the end of a ramp. -/
def ramping (st : SeqState) (start target level : Nat) : State :=
  let s := withSeq air .tx1 fun x => { x with state := st }
  let s := s.setMixer .tx1 { s.mixer .tx1 with step := 15, timer := some 1001 }
  let s := s.setLane 0 { s.lane 0 with start := start, target := target }
  s.setProtection .tx1 { s.protection .tx1 with level := Fin.ofNat 4 level }

theorem witness_RampStepMovesShares :
    ((ramping .rampUp 0 512 0).mixer .tx1).timer = some 1001 ∧
    ((ramping .rampUp 0 512 0).mixer .tx1).step + 1 = 16 ∧ (ramping .rampUp 0 512 0).phase = .running ∧
    ((ramping .rampUp 0 512 0).seq .tx1).state = .rampUp ∧ (ramping .rampUp 0 512 0).wantedOn .tx1 = true ∧
    ((ramping .rampUp 0 512 0).protection .tx1).level < 2 ∧
    (0 : Slot) ∈ (ramping .rampUp 0 512 0).lanesOn .tx1 ∧
    (let s := air.setLane 0 { air.lane 0 with target := 300 }
     s.laneOn .tx1 0 = true ∧ ((s.decideLanes [0]).lane 0).target ≠ (s.lane 0).target) ∧
    ((air.decideLanes [0]).lane 0).target = (air.lane 0).target := by decide +kernel

/-- The end of a ramp down, for a level of 2 and for one of 3. -/
theorem witness_RampStepMovesShares_down :
    (after (.rampStepExpiry .tx1) (ramping .rampDown 512 0 2)).currentSum .tx1 = 0 ∧
    (ramping .rampDown 512 0 2).wantedOn .tx1 = true ∧
    ((ramping .rampDown 512 0 2).protection .tx1).level = 2 ∧
    (after (.rampStepExpiry .tx1) (ramping .rampDown 512 0 3)).currentSum .tx1 = 0 ∧
    (ramping .rampDown 512 0 3).wantedOn .tx1 = false := by decide +kernel

/-- A ramp step that changes no target, and one at which the chain turns back up and its ramp is started anew.
-/
theorem witness_RampStepMovesShares_restart :
    let turning := (ramping .rampDown 512 0 0)
    ((after (.rampStepExpiry .tx1) (ramping .rampUp 0 512 0)).lane 0).target = 512 ∧
    ((ramping .rampUp 0 512 0).lane 0).target = 512 ∧ (turning.lane 0).target = 0 ∧
    ((after (.rampStepExpiry .tx1) turning).lane 0).target = 512 ∧
    ((after (.rampStepExpiry .tx1) turning).mixer .tx1).step = 0 := by decide +kernel

/-- A lane that is heard, and a chain in which no lane lacks a word. -/
theorem witness_StreamHoldsLanes :
    (air.stream .tx1).map StreamTerm.share = [512] ∧ (air.onAirStream .tx1).length = 1 ∧
    (∀ n, air.laneOn .tx1 n = true →
      ((air.lane n).receiveWord .primary).isSome = true ∧ (air.lane n).transmitWord.isSome = true) := by
  decide +kernel

/-- `air` with TX1 at its drive-settle expiry. -/
def driving : State :=
  withSeq air .tx1 fun x => { x with state := .driveSettle, settleTimer := some 1005 }

theorem witness_DriveSettleExamined :
    (driving.seq .tx1).settleTimer = some 1005 ∧ driving.phase = .running ∧
    (driving.seq .tx1).state = .driveSettle ∧ driving.wantedOn .tx1 = true ∧ driving.tuned .tx1 = true ∧
    (driving.protection .tx1).level < 2 ∧ driving.laneOn .tx1 0 = true ∧
    (let s := withSynth driving (.tx .tx1) fun x => { x with state := .settling }
     s.wantedOn .tx1 = true ∧ s.tuned .tx1 = false) ∧
    (let s := driving.setProtection .tx1 { driving.protection .tx1 with level := 2 }
     s.wantedOn .tx1 = true ∧ (s.protection .tx1).level = 2) ∧
    ((after (.driveSettleExpiry .tx1) driving).seq .tx1).state = .onAir ∧
    (let s := driving.setLane 0 { driving.lane 0 with current := 0, target := 0, phaseReset := true }
     ((after (.driveSettleExpiry .tx1) s).seq .tx1).state = .rampUp) := by decide +kernel

/-- `air` with TX1 at its PA-discharge expiry. -/
def discharging (level : Level) (lockedOut : Bool) : State :=
  (withSeq air .tx1 fun x => { x with state := .paDischarge, dischargeTimer := some 1050 }).setProtection .tx1
    { air.protection .tx1 with level := level, lockedOut := lockedOut }

theorem witness_PaDischargeEnds :
    ((discharging 0 false).seq .tx1).dischargeTimer = some 1050 ∧ (discharging 0 false).phase = .running ∧
    ((discharging 0 false).seq .tx1).state = .paDischarge ∧
    (after (.paDischargeExpiry .tx1) (discharging 0 false)).wantedOn .tx1 = true ∧
    (after (.paDischargeExpiry .tx1) (discharging 3 false)).wantedOn .tx1 = false ∧
    ((after (.paDischargeExpiry .tx1) (discharging 3 true)).protection .tx1).lockedOut = true := by
  decide +kernel

/-- A fault that appears, one that goes (the hold starts), and a warning that appears in the hold (it
restarts). -/
theorem witness_AmplifierInputsSampled :
    let gone := after (.paFaultInput .tx1 false) (after (.paFaultInput .tx1 true) air)
    let later := { gone with time := { gone.time with steps := 1300 } }
    air.LevelSound ∧ air.phase ≠ .held ∧ (air.seq .tx1).faultSample ≠ true ∧
    (air.seq .tx1).warningSample ≠ true ∧ (air.enterHold).phase = .held ∧
    (air.seq .tx1).faultSample = false ∧ (air.protection .tx1).present.paFault ≠ true ∧
    (air.seq .tx1).state ≠ .driveSettle ∧ (gone.protection .tx1).hold = some 2000 ∧
    (later.seq .tx1).warningSample ≠ true ∧
    ((after (.paWarningInput .tx1 true) later).protection .tx1).hold = some 2300 ∧
    ((after (.paFaultInput .tx1 true) later).protection .tx1).hold = none :=
  ⟨air_levels, by decide +kernel⟩

/-- A third trip within the window, and a trip limit of 0. -/
theorem witness_FaultTripsAndLocksOut :
    let twice := air.setProtection .tx1 { air.protection .tx1 with trips := [⟨1, .paFault⟩, ⟨5, .both⟩] }
    air.phase ≠ .held ∧ (air.seq .tx1).faultSample = false ∧ (air.protection .tx1).present.paFault = false ∧
      air.severities.paFault = 3 ∧ (air.protection .tx1).level < 3 ∧ 0 < air.limits.tripLimit ∧
      (twice.protection .tx1).lockedOut = false ∧
      ((after (.paFaultInput .tx1 true) twice).protection .tx1).lockedOut = true ∧
      ((after (.paFaultInput .tx1 true) air).protection .tx1).lockedOut = false := by decide +kernel

/-- A fault in each state of the sequencer, with current shares and without, and one that locks the chain out.
-/
theorem witness_FaultTripsAndLocksOut_states :
    let at_ (st : SeqState) : State := withSeq air .tx1 fun x => { x with state := st }
    let faulted (s : State) := ((after (.paFaultInput .tx1 true) s).seq .tx1).state
    let silent (s : State) := s.setLane 0 { s.lane 0 with current := 0, target := 0 }
    let last (s : State) := s.setProtection .tx1 { s.protection .tx1 with trips := [⟨1, .paFault⟩, ⟨5, .both⟩] }
    (∀ st, (at_ st).phase = .running ∧ ((at_ st).seq .tx1).state = st ∧
      ((at_ st).seq .tx1).faultSample = false ∧ ((at_ st).protection .tx1).present.paFault = false ∧
      ((at_ st).protection .tx1).level < 3 ∧ (at_ st).severities.paFault = 3) ∧
    [.off, .tuning, .driveSettle].map (fun st => faulted (at_ st)) = [.off, .off, .off] ∧
    faulted (last (at_ .tuning)) = .lockedOut ∧
    [.rampUp, .onAir, .rampDown].map (fun st => faulted (at_ st)) = [.rampDown, .rampDown, .rampDown] ∧
    faulted (silent (at_ .onAir)) = .paDischarge ∧ faulted (at_ .muted) = .paDischarge ∧
    ((after (.paFaultInput .tx1 true) (at_ .muted)).seq .tx1).dischargeTimer = some 1050 ∧
    faulted (lockedIn .lockedOut) = .lockedOut :=
  ⟨fun _ => ⟨rfl, rfl, rfl, rfl, (by decide : (0 : Level) < 3), rfl⟩, by decide +kernel⟩

/-- `air` with TX1 held at level 3 after its condition has gone. -/
def holding : State :=
  air.setProtection .tx1
    { air.protection .tx1 with level := 3, hold := some 2000, cause := some .paFault, holding := true }

theorem holding_levels : holding.LevelSound := by
  unfold State.LevelSound
  exact forall_tx (by decide +kernel) (by decide +kernel) (by decide +kernel) (by decide +kernel)

/-- `holding` with TX1 in another state of its sequencer. -/
def holdingIn (st : SeqState) : State :=
  withSeq holding .tx1 fun x =>
    { x with
      state := st
      settleTimer := if st = .driveSettle then some 1005 else none
      dischargeTimer := if st = .paDischarge then some 1050 else none }

theorem holdingIn_sound (st : SeqState) : (holdingIn st).Sound :=
  sound _ ⟨air_counter.contexts, air_counter.nodup, air_counter.queued, air_counter.measured⟩
    (sequencers_sound _ (forall_tx (by cases st <;> decide +kernel) (by cases st <;> decide +kernel)
      (by cases st <;> decide +kernel) (by cases st <;> decide +kernel))) holding_levels
    (forall_tx (by cases st <;> decide +kernel) (by cases st <;> decide +kernel)
      (by cases st <;> decide +kernel) (by cases st <;> decide +kernel))
    (by cases st <;> decide +kernel)

theorem witness_RecoveryHoldLowersLevel :
    (∀ st, (holdingIn st).Sound ∧ ((holdingIn st).protection .tx1).hold = some 2000) ∧
    (holding.protection .tx1).highest ≠ (holding.protection .tx1).level :=
  ⟨fun st => ⟨holdingIn_sound st, rfl⟩, by decide +kernel⟩

/-- The hold's expiry in the states whose sequencer the fallen level moves, with the level at S already, and
with the synthesizer not VERIFIED. -/
theorem witness_RecoveryHoldLowersLevel_states :
    let untuned (s : State) := withSynth s (.tx .tx1) fun x => { x with state := .settling }
    let lowered (s : State) := ((after (.recoveryHoldExpiry .tx1) s).seq .tx1).state
    let level : State := holding.setProtection .tx1 { holding.protection .tx1 with level := 0 }
    (∀ st, (holdingIn st).phase = .running ∧ ((holdingIn st).seq .tx1).state = st ∧ ((holdingIn st).seq .tx1).runDown = false ∧
      ((holdingIn st).seq .tx1).retunePending = false ∧ ((holdingIn st).protection .tx1).lockedOut = false ∧
      ((holdingIn st).pe.active.tx.get .tx1).enabled = true ∧ (holdingIn st).tuned .tx1 = true ∧
      ((holdingIn st).protection .tx1).highest < ((holdingIn st).protection .tx1).level ∧
      ((holdingIn st).protection .tx1).highest < 2) ∧
    lowered (holdingIn .off) = .driveSettle ∧ lowered (untuned (holdingIn .off)) = .tuning ∧
    (untuned (holdingIn .off)).tuned .tx1 = false ∧
    [.muted, .rampDown, .onAir, .paDischarge].map (fun st => lowered (holdingIn st))
      = [.rampUp, .rampUp, .onAir, .paDischarge] ∧
    (level.protection .tx1).highest = (level.protection .tx1).level ∧
    (level.protection .tx1).hold = some 2000 :=
  ⟨fun _ => ⟨rfl, rfl, rfl, rfl, rfl, rfl, rfl, (by decide : (0 : Level) < 3), (by decide : (0 : Level) < 2)⟩,
    by decide +kernel⟩

/-- What a decision makes of RAMP_DOWN and of DRIVE_SETTLE: a retune pending, at zero; a chain wanted on no
more. -/
theorem witness_RecoveryHoldLowersLevel_decisions :
    let retuning : State :=
      (withSeq air .tx1 fun x => { x with state := .rampDown, retunePending := true }).setLane 0
        { air.lane 0 with current := 0, target := 0 }
    retuning.phase = .running ∧ ((retuning.decideSeq .tx1).seq .tx1).state = .paDischarge ∧
    (((discharging 3 false).decideSeq .tx1).seq .tx1).state = .paDischarge ∧
    (let s := driving.setProtection .tx1 { driving.protection .tx1 with level := 3 }
     s.wantedOn .tx1 = false ∧ ((s.decideSeq .tx1).seq .tx1).state = .off) := by decide +kernel

/-! ## Witnesses: inputs, the store, the supply, reset and start-up -/

/-- The two edges of the 3 dB band above a threshold of -80, and the counts at which a change is confirmed. -/
theorem witness_InputWindowsExamined :
    let heard (n : Nat) : State :=
      air.setInput 0 { air.input 0 with windowVoid := false, lowCount := n }
    ((heard 0).input 0).inputState = some .livePrimary ∧ (heard 0).pe.active.slots.get 0 = plan.slots.get 0 ∧
      ((heard 0).input 0).windowVoid = false ∧ (air.input 0).windowVoid = true ∧
      (((heard 0).examineSlot 0 (-81)).input 0).judgement = some .low ∧
      (((heard 0).examineSlot 0 (-80)).input 0).judgement = none ∧
      (((heard 0).examineSlot 0 (-78)).input 0).judgement = none ∧
      (((heard 0).examineSlot 0 (-77)).input 0).judgement = some .good ∧
      (((heard 48).examineSlot 0 (-81)).input 0).inputState = some .livePrimary ∧
      (((heard 49).examineSlot 0 (-81)).input 0).inputState = some .inputLost ∧
      ((heard 0).enterHold).phase = .held := by decide +kernel

/-- `air` with slot 0 given a fallback on RX1 and its input record replaced. -/
def backed (f : InputRecord → InputRecord) : State :=
  let slots := plan.slots.set 0 ((plan.slots.get 0).map fun e => { e with fallback := some ⟨.rx1, 605000000⟩ })
  let s : State :=
    { air with
      pe := { air.pe with active := { plan with slots := slots } }
      lanes := air.lanes.set 0 { air.lane 0 with slot := slots.get 0, fallbackWord := some 1#32 } }
  s.setInput 0 (f { s.input 0 with windowVoid := false })

/-- The fallback taken at the confirmed loss, the loss confirmed on the fallback, and a restoration at a count
below and at its confirmation. -/
theorem witness_InputWindowsExamined_moves :
    let lost (n : Nat) : State :=
      backed fun i => { i with inputState := some .inputLost, source := .fallback, goodCount := n }
    (((backed fun i => { i with lowCount := 49 }).examineSlot 0 (-81)).input 0).inputState
      = some .liveFallback ∧
    (((backed fun i =>
      { i with inputState := some .liveFallback, source := .fallback, lowCount := 49 }).examineSlot 0 (-81)).input
        0).inputState = some .inputLost ∧
    (((lost 0).examineSlot 0 (-81)).input 0).goodCount = 0 ∧
    (((lost 298).examineSlot 0 (-77)).input 0).inputState = some .inputLost ∧
    (((lost 299).examineSlot 0 (-77)).input 0).inputState = some .liveFallback := by decide +kernel

/-- A change of source to a receive chain that is not VERIFIED, and a change of state alone. -/
theorem witness_InputChangeHandsOver_sound : (backed id).Sound :=
  sound _ ⟨air_counter.contexts, air_counter.nodup, air_counter.queued, air_counter.measured⟩
    air_sequencers air_levels
    (forall_tx (by decide +kernel) (by decide +kernel) (by decide +kernel) (by decide +kernel))
    (by decide +kernel)

theorem witness_InputChangeHandsOver :
    let s := backed id
    let other : InputRecord := { s.input 0 with inputState := some .liveFallback, source := .fallback }
    let same : InputRecord := { s.input 0 with inputState := some .inputLost }
    ((s.lane 0).slot.isSome = true) ∧ other.source ≠ (s.input 0).source ∧
    s.isVerified (.rx .rx1) = false ∧ ((s.changeInput 0 other).lane 0).current = 0 ∧
    same.source = (s.input 0).source ∧ ((s.changeInput 0 same).lane 0).target ≠ (s.lane 0).target ∧
    ((withSynth s (.rx .rx1) fun x => { x with state := .verified }).isVerified (.rx .rx1) = true ∧
      (((withSynth s (.rx .rx1) fun x => { x with state := .verified }).changeInput 0 other).lane 0).current
        = 512) := by decide +kernel

/-- `air` with slot 0 on its fallback under a visit. -/
def visiting (phase : VisitPhase) (counter : Nat) : State :=
  { air.setInput 0
      { air.input 0 with inputState := some .liveFallback, source := .fallback, visitCounter := counter } with
    probe := { visit := some 0, phase := some phase, timer := some 1010, lastVisited := some 0, clean := true } }

theorem witness_ProbeVisits :
    (visiting .discard 0).probe.timer = some 1010 ∧ (visiting .discard 0).probe.visit = some 0 ∧
    (visiting .discard 0).probe.phase = some .discard ∧ (visiting .judge 0).probe.phase = some .judge ∧
    (visiting .judge 0).probe.lastVisited = some 0 ∧
    ((visiting .judge 0).pe.active.slots.get 0).isSome = true ∧ (visiting .judge 0).probe.clean = true ∧
    (visiting .judge 0).primarySound 0 = true ∧ -80 + 3 ≤ clampResult (-77) ∧
    (visiting .judge 2).limits.restoreVisits ≤ ((visiting .judge 2).input 0).visitCounter + 1 ∧
    ((visiting .judge 1).input 0).visitCounter + 1 < (visiting .judge 1).limits.restoreVisits := by
  decide +kernel

/-- A content of the site record. -/
def content : Content := { plan := plan, lockout := ⟨false, false, false, false⟩ }

/-- `live` with contents waiting for both records. -/
def storing : State :=
  { live with
    store := { live.store with
      records := ⟨{ live.record .site with pendingContent := some content },
        { live.record .dflt with pendingContent := some content, retry := some 1100 }⟩ } }

theorem witness_WriterFollowsTables :
    storing.phase = .running ∧ storing.store.inFlight = none ∧ storing.supply.state = .normal ∧
    (storing.record .site).pendingContent = some content ∧ (storing.record .site).retry = none ∧
    (storing.record .dflt).retry = some 1100 ∧ (live.record .site).pendingContent = none ∧
    (storing.writerStart).store.inFlight = some ⟨.site, content, false⟩ := by decide +kernel

/-- Each row of a completion: the retry used or not, and a new content waiting for the record or not. -/
theorem witness_WriterFollowsTables_completions :
    let writing (s : State) (used : Bool) : State :=
      { s with store := { s.store with inFlight := some ⟨.site, content, used⟩ } }
    ((writing live true).store.inFlight.map InFlight.retryUsed = some true) ∧
    ((writing live false).store.inFlight.map InFlight.retryUsed = some false) ∧
    ((writing live false).record .site).pendingContent = none ∧
    ((writing storing false).record .site).pendingContent.isSome = true := by decide +kernel

/-- 90.0%, just below it, and 94.0% (R158). -/
theorem witness_SupplyMeasured :
    live.phase ≠ .held ∧ 160 ≤ (180 : HalfPercent).val ∧ live.supply.state = .normal ∧
    (after (.supplyMeasurement 180) live).supply.state = .normal ∧
    (after (.supplyMeasurement 179) live).supply.state = .warning ∧
    (after (.supplyMeasurement 187) (after (.supplyMeasurement 179) live)).supply.state = .warning ∧
    (after (.supplyMeasurement 188) (after (.supplyMeasurement 179) storing)).store.inFlight.isSome = true ∧
    (storing.record .site).retry = none := by decide +kernel

/-- A DEFAULT write that waits alone, and one that waits behind a SITE write. -/
theorem witness_SupplyMeasured_default :
    let low (s : State) : State := { s with supply := { s.supply with state := .warning } }
    let waiting (s : State) : State :=
      low (s.setRecord .dflt { s.record .dflt with pendingContent := some content })
    (waiting air).LevelSound ∧ (waiting air).phase = .running ∧
    ((waiting air).record .site).pendingContent = none ∧ ((waiting air).record .dflt).retry = none ∧
    (after (.supplyMeasurement 188) (waiting air)).store.inFlight.map InFlight.record = some .dflt ∧
    (after (.supplyMeasurement 188) (waiting storing)).store.inFlight.map InFlight.record = some .site :=
  ⟨air_levels, rfl, by decide +kernel, by decide +kernel, by decide +kernel, by decide +kernel⟩

theorem witness_ResetHeldAndReleased :
    live.phase ≠ .held ∧ (159 : HalfPercent).val < 160 ∧ (live.enterHold).phase = .held ∧
    170 ≤ (170 : HalfPercent).val ∧ (169 : HalfPercent).val < 170 ∧ 100 ≤ (100 : HalfPercent).val ∧
    (99 : HalfPercent).val < 100 := by decide +kernel

/-- The causes noted while the part is held (R159): a supply below 50.0% makes the next release a power-on, and
one below 80.0% an undervoltage, whatever put the part into reset. -/
theorem test_causes_noted_while_held :
    let held := after .resetPinAssert live
    let cause (s : State) := (after (.resetRelease 200 false .short) s).supply.lastCause
    [cause held, cause (after (.supplyMeasurement 159) held), cause (after (.supplyMeasurement 100) held),
      cause (after (.supplyMeasurement 99) held), cause (after .resetPinAssert (after .resetPinAssert live))]
      = [.pin, .undervoltage, .undervoltage, .powerOn, .pin] := by decide +kernel

/-- The state after reset release with a VALID SITE record. -/
def released : State :=
  State.reset.setRecord .site
    { State.reset.record .site with
      status := .valid, image := recordImage .site { content with lockout := ⟨false, false, false, true⟩ } }

theorem witness_StartUpLoadsPlan :
    State.reset.phase = .startDelay ∧ State.reset.time.startDelay = some 200 ∧ State.reset.LanesSound ∧
    (∀ x, (State.reset.seq x).state = .off ∧ (State.reset.protection x).level = 3) ∧
    ∀ n, (State.reset.lane n).target = 0 :=
  ⟨rfl, rfl, by unfold State.LanesSound; decide +kernel,
    forall_tx ⟨rfl, rfl⟩ ⟨rfl, rfl⟩ ⟨rfl, rfl⟩ ⟨rfl, rfl⟩, by decide +kernel⟩

/-- The same premises with a VALID SITE record, whose plan and lockout set are loaded. -/
theorem witness_StartUpLoadsPlan_site :
    released.phase = .startDelay ∧ released.time.startDelay = some 200 ∧ released.LanesSound ∧
    (∀ x, (released.seq x).state = .off ∧ (released.protection x).level = 3) ∧
    (∀ n, (released.lane n).target = 0) ∧ released.store.records.site.status = .valid ∧
    (after .startUpSelection released).pe.active.issue = 42 ∧
    ((after .startUpSelection released).seq .tx3).state = .lockedOut :=
  ⟨rfl, rfl, by unfold State.LanesSound; decide +kernel,
    forall_tx ⟨rfl, rfl⟩ ⟨rfl, rfl⟩ ⟨rfl, rfl⟩ ⟨rfl, rfl⟩, by decide +kernel, rfl, by decide +kernel,
    by decide +kernel⟩

end Sys2Proof.Tests
end

section
/-! PROOFS. The edit grant, COMMIT, CANCEL_COMMIT and REVERT (O19, O23, O24): how a request that the port passes on
is answered by its owner, what each owner answers case by case, and the masks of the COMMIT reply. -/

namespace Sys2Proof.Machine

/-! ## A request reaches its owner (R165, R167) -/

/-- A request command is the taking of its frame, whatever its kind. -/
theorem exec_command (s : State) (k : RequestKind) (p : Port) (tag : Byte) (x : Sent) :
    exec (k.command p tag x) s = .next (s.takeRequest k p tag x) := by
  cases k <;> rfl

theorem RequestKind.payloadLength_le (k : RequestKind) : k.payloadLength ≤ 48 := by
  cases k <;> decide

theorem framed_frame (s : State) (p : Port) (n : Nat) : ProtFrame s (s.framed p n) :=
  (clockOut_frame ..).toProt.trans (heard_frame ..)

/-- A probation failure, the one thing that a change of conditions does to the Plan Engine, leaves the grant and
the staged plan alone (R55). -/
theorem ProtFrame.grant_staged {s t : State} (h : ProtFrame s t) :
    t.pe.grant = s.pe.grant ∧ t.pe.staged = s.pe.staged := by
  rcases h.pe with same | ⟨_, failed⟩
  · simp [same]
  · simp [failed, PlanEngine.failProbation]

@[simp] theorem framed_grant (s : State) (p : Port) (n : Nat) : (s.framed p n).pe.grant = s.pe.grant :=
  (framed_frame s p n).grant_staged.1

@[simp] theorem framed_staged (s : State) (p : Port) (n : Nat) : (s.framed p n).pe.staged = s.pe.staged :=
  (framed_frame s p n).grant_staged.2

/-- With the grant where it must be and a payload of the right length the owner is asked (R167, step 4). -/
theorem dispatch_eq_serve {s : State} {k : RequestKind} {p : Port} {payload : List Byte}
    (granted : k.holderOnly = true → s.pe.grant = some p) (fits : payload.length = k.payloadLength) :
    s.dispatch k p payload = serve k p payload s := by
  have noRefusal : (k.holderOnly && decide (s.pe.grant ≠ some p)) = false := by
    cases hk : k.holderOnly
    · rfl
    · simp [granted hk]
  rw [State.dispatch, noRefusal, if_neg Bool.false_ne_true, if_neg (not_not_intro fits)]

/-- A running part answers a request that passes the port's checks with what its owner answers, asked in the
state the frame leaves. -/
theorem exec_of_serve {s t : State} {k : RequestKind} {p : Port} {payload : List Byte} {fill : Nat}
    {status : Status} {reply : List Byte} (tag : Byte) (running : s.phase = .running) (answers : k ≠ .nop)
    (granted : k.holderOnly = true → s.pe.grant = some p) (fits : payload.length = k.payloadLength)
    (served : serve k p payload (s.framed p (payload.length + 5 + fill)) = (t, ⟨status, reply⟩)) :
    exec (k.command p tag ⟨payload, fill⟩) s = .next (t.answered p k.code tag status reply) := by
  have short : ¬48 < payload.length := by have := k.payloadLength_le; omega
  have owner : ((s.clockOut p (clocked ⟨payload, fill⟩)).heard p).dispatch k p payload
      = (t, ⟨status, reply⟩) :=
    (dispatch_eq_serve (fun h => (framed_grant ..).trans (granted h)) fits).trans served
  rw [exec_command]
  simp only [State.takeRequest, running, short, State.takeValid, owner, State.answer, answers, ne_eq,
    not_true_eq_false, if_false]
  rfl

/-- The same of a request without payload. -/
theorem exec_of_serve_bare {s t : State} {k : RequestKind} {p : Port} {fill : Nat} {status : Status}
    {reply : List Byte} (tag : Byte) (running : s.phase = .running) (answers : k ≠ .nop)
    (granted : k.holderOnly = true → s.pe.grant = some p) (bare : k.payloadLength = 0)
    (served : serve k p [] (s.framed p (5 + fill)) = (t, ⟨status, reply⟩)) :
    exec (k.command p tag ⟨[], fill⟩) s = .next (t.answered p k.code tag status reply) :=
  exec_of_serve tag running answers granted bare.symm (by simpa using served)

/-! ## The Plan Engine's lookups (R36, R45) -/

theorem PlanEngine.editBase_of_commit {e : PlanEngine} {plan : Plan} {i : Nat} {r : Requester}
    (h : e.pendingApply = some ⟨.commit plan, i, r⟩) : e.editBase = plan := by
  simp [PlanEngine.editBase, h]

theorem PlanEngine.editBase_of_not_commit {e : PlanEngine}
    (h : ∀ plan i r, e.pendingApply ≠ some ⟨.commit plan, i, r⟩) : e.editBase = e.active := by
  unfold PlanEngine.editBase
  split
  · next plan i r pending => exact absurd pending (h plan i r)
  · rfl

theorem PlanEngine.entry_zero (e : PlanEngine) : e.entry 0 = e.history[e.top.val] := by
  simp [PlanEngine.entry]

/-- The history is empty exactly when every entry is: counted from TOP, the four entries are the whole ring
(R45, R57). -/
theorem PlanEngine.depth_eq_zero_iff (e : PlanEngine) : e.depth = 0 ↔ ∀ k, e.entry k = none := by
  rw [PlanEngine.depth, List.length_eq_zero_iff, List.filter_eq_nil_iff]
  simp only [Option.not_isSome_iff_eq_none, Vector.mem_toList_iff]
  constructor
  · exact fun h k => h _ (Vector.getElem_mem _)
  · intro h x mem
    obtain ⟨i, hi, rfl⟩ := Vector.mem_iff_getElem.mp mem
    simpa [PlanEngine.entry] using h (⟨i, hi⟩ - e.top)

theorem PlanEngine.depth_ne_zero {e : PlanEngine} {k : Fin 4} {plan : Plan} (h : e.entry k = some plan) :
    e.depth ≠ 0 := by
  intro empty
  simp [e.depth_eq_zero_iff.mp empty k] at h

theorem PlanEngine.topIssue_of_entry {e : PlanEngine} {plan : Plan} (h : e.entry 0 = some plan) :
    e.topIssue = plan.issue := by
  rw [PlanEngine.entry_zero] at h
  simp [PlanEngine.topIssue, h]

/-! ## What each owner answers -/

theorem port_other_ne (p : Port) : p.other ≠ p := by cases p <;> decide

section Owners

variable {s : State} {p : Port} {b : List Byte}

/-! ### The grant (R36, R38) -/

theorem serve_takeEdit_free (h : s.pe.grant = none) :
    serve .takeEdit p b s
      = ({ s with pe := { s.pe with grant := some p, staged := some s.pe.editBase } },
          .ok (headerBytes s.pe.editBase)) := by
  simp [serve, serveTakeEdit, h]

theorem serve_takeEdit_own {plan : Plan} (h : s.pe.grant = some p) (staged : s.pe.staged = some plan) :
    serve .takeEdit p b s = (s, .ok (headerBytes plan)) := by
  simp [serve, serveTakeEdit, h, staged]

theorem serve_takeEdit_held (h : s.pe.grant = some p.other) :
    serve .takeEdit p b s = (s, .refused .heldByOther) := by
  simp [serve, serveTakeEdit, h, port_other_ne]

theorem serve_releaseEdit : serve .releaseEdit p b s = (s.releaseGrant, .ok []) := rfl

/-! ### COMMIT (R42) -/

theorem serve_commit_pending {plan : Plan} (staged : s.pe.staged = some plan)
    (pending : s.pe.pendingApply.isSome = true) : serve .commit p b s = (s, .refused .applyPending) := by
  simp [serve, serveCommit, staged, pending]

theorem serve_commit_invalid {plan : Plan} {f : PlanFailure} (staged : s.pe.staged = some plan)
    (idle : s.pe.pendingApply = none) (failed : plan.validate s.pe.lastIssued = some f) :
    serve .commit p b s = (s, f.reply) := by
  simp [serve, serveCommit, staged, idle, failed]

theorem serve_commit_valid {plan : Plan} (staged : s.pe.staged = some plan)
    (idle : s.pe.pendingApply = none) (valid : plan.validate s.pe.lastIssued = none) :
    serve .commit p b s
      = ({ s with pe := s.pe.commit p plan },
          .ok (bytes4 (s.pe.lastIssued + 1) ++ byte plan.clampMask ++ byte plan.scaledMask)) := by
  simp [serve, serveCommit, staged, idle, valid]

/-! ### CANCEL_COMMIT and REVERT (R43, R44) -/

theorem serve_cancelCommit_none (h : s.pe.pendingApply = none) :
    serve .cancelCommit p b s = (s, .refused .nothingPending) := by
  simp [serve, serveCancelCommit, h]

theorem serve_cancelCommit_some {r : PendingApply} (h : s.pe.pendingApply = some r) :
    serve .cancelCommit p b s
      = ({ s with pe := { s.pe with pendingApply := none } }.notifyBoth .commitCancelled,
          .ok (byte (kindCode r.change.kind) ++ bytes4 r.issue)) := by
  simp [serve, serveCancelCommit, h]

theorem serve_revert_empty (h : ∀ k, s.pe.entry k = none) :
    serve .revert p b s = (s, .refused .historyEmpty) := by
  simp [serve, serveRevert, s.pe.depth_eq_zero_iff.mpr h]

theorem serve_revert_pending {k : Fin 4} {plan : Plan} (entry : s.pe.entry k = some plan)
    (pending : s.pe.pendingApply.isSome = true) : serve .revert p b s = (s, .refused .applyPending) := by
  simp [serve, serveRevert, PlanEngine.depth_ne_zero entry, pending]

theorem serve_revert_taken {plan : Plan} (entry : s.pe.entry 0 = some plan)
    (idle : s.pe.pendingApply = none) :
    serve .revert p b s
      = ({ s with
            pe := { s.pe with
              pendingApply :=
                some { change := .revert, issue := plan.issue, requestedBy := portRequester p } } },
          .ok (bytes4 plan.issue)) := by
  simp [serve, serveRevert, PlanEngine.depth_ne_zero entry, idle, PlanEngine.topIssue_of_entry entry]

end Owners

/-! ## The masks of the COMMIT reply (R18, R19, R175) -/

/-- A mask has the bits of its list, and no other. -/
theorem testBit_maskOf {bits : List Nat} (sorted : bits.SortedLT) (i : Nat) :
    (maskOf bits).testBit i = decide (i ∈ bits) := by
  rw [Bool.eq_iff_iff, decide_eq_true_iff, ← Nat.mem_bitIndices, maskOf,
    Nat.bitIndices_sum_map_two_pow sorted]

theorem maskOf_lt {bits : List Nat} {n : Nat} (sorted : bits.SortedLT) (h : ∀ i ∈ bits, i < n) :
    maskOf bits < 2 ^ n := by
  refine Nat.lt_pow_two_of_testBit _ fun i hi => ?_
  rw [testBit_maskOf sorted, decide_eq_false_iff_not]
  exact fun mem => absurd (h i mem) (by omega)

theorem sortedLT_map_filter {α : Type} {bit : α → Nat} {all : List α} (sorted : (all.map bit).SortedLT)
    (P : α → Bool) : ((all.filter P).map bit).SortedLT :=
  (sorted.pairwise.sublist (List.filter_sublist.map bit)).sortedLT

/-- In the mask of the members of an ascending list that satisfy `P`, the bit of a member says whether it
does. -/
theorem testBit_maskOf_filter {α : Type} {bit : α → Nat} {all : List α} (sorted : (all.map bit).SortedLT)
    (P : α → Bool) {k : α} (mem : k ∈ all) :
    (maskOf ((all.filter P).map bit)).testBit (bit k) = P k := by
  have unique : ∀ j ∈ all, bit j = bit k → j = k := fun j hj =>
    List.inj_on_of_nodup_map sorted.pairwise.nodup hj mem
  rw [testBit_maskOf (sortedLT_map_filter sorted P), Bool.eq_iff_iff, decide_eq_true_iff, List.mem_map]
  constructor
  · rintro ⟨j, hj, same⟩
    obtain ⟨jmem, holds⟩ := List.mem_filter.mp hj
    exact unique j jmem same ▸ holds
  · exact fun holds => ⟨k, List.mem_filter.mpr ⟨mem, holds⟩, rfl⟩

theorem conditionBits_sorted : (allConditions.map fun k => conditionCode k - 1).SortedLT :=
  List.Pairwise.sortedLT (by decide)

theorem txBits_sorted : (allTx.map txIndex).SortedLT := List.Pairwise.sortedLT (by decide)

theorem Plan.testBit_clampMask (plan : Plan) (k : Condition) :
    plan.clampMask.testBit (conditionCode k - 1)
      = decide (plan.severities.of k < minimumSeverity k) :=
  testBit_maskOf_filter conditionBits_sorted _ (by cases k <;> decide)

theorem Plan.testBit_scaledMask (plan : Plan) (x : Tx) :
    plan.scaledMask.testBit (txIndex x) = decide (1024 < plan.shareSum x) :=
  testBit_maskOf_filter txBits_sorted _ (by cases x <;> decide)

/-- Only a kind with a minimum above 0 can be raised (R7, R18). -/
theorem conditionCode_le_of_below {v : Severities} {k : Condition} (h : v.of k < minimumSeverity k) :
    conditionCode k ≤ 5 := by
  cases k with
  | refAbsent | txLoLost | txLoUnverified | paFault | refExpired => decide
  | supplyWarning | paWarning | refHoldover | linksSilent => exact absurd h (Fin.not_lt_zero _)

theorem Plan.clampMask_lt (plan : Plan) : plan.clampMask < 32 := by
  refine maskOf_lt (n := 5) (sortedLT_map_filter conditionBits_sorted _) fun i hi => ?_
  obtain ⟨k, hk, rfl⟩ := List.mem_map.mp hi
  have := conditionCode_le_of_below (of_decide_eq_true (List.mem_filter.mp hk).2)
  omega

theorem txIndex_lt (x : Tx) : txIndex x < 4 := by cases x <;> decide

theorem Plan.scaledMask_lt (plan : Plan) : plan.scaledMask < 16 := by
  refine maskOf_lt (n := 4) (sortedLT_map_filter txBits_sorted _) fun i hi => ?_
  obtain ⟨x, _, rfl⟩ := List.mem_map.mp hi
  exact txIndex_lt x

theorem Severities.of_clamp (v : Severities) (k : Condition) :
    v.clamp.of k = max (v.of k) (minimumSeverity k) := by
  cases k <;> rfl

/-! ## The obligations -/

/-- Settles O19: the three states of the grant, one owner's equation each, and the release. -/
theorem editGrantMoves : Obligations.EditGrantMoves := by
  intro s p tag fill running u
  refine ⟨fun free base hbase => ?_, fun plan own staged => ?_, fun held => ?_, fun own => ?_⟩
  · have isBase : u.pe.editBase = base := by
      split at hbase
      · next pending => exact hbase ▸ PlanEngine.editBase_of_commit pending
      · next other => exact hbase ▸ PlanEngine.editBase_of_not_commit other
    subst isBase
    exact exec_of_serve_bare (k := .takeEdit) tag running nofun nofun rfl (serve_takeEdit_free free)
  · exact exec_of_serve_bare (k := .takeEdit) tag running nofun nofun rfl (serve_takeEdit_own own staged)
  · exact exec_of_serve_bare (k := .takeEdit) tag running nofun nofun rfl (serve_takeEdit_held held)
  · exact exec_of_serve_bare (k := .releaseEdit) tag running nofun (fun _ => own) rfl serve_releaseEdit

/-- Settles O23: the order of COMMIT's examination is that of the owner's three equations; the two masks are
those of the clamp list and the scaled-chain list. -/
theorem commitExamined : Obligations.CommitExamined := by
  refine ⟨by decide, by decide, by decide, ?_⟩
  intro s p tag plan fill running own staged u issue
  have ustaged : u.pe.staged = some plan := (framed_staged ..).trans staged
  refine ⟨fun pending => ?_, fun f idle failed => ?_, fun idle valid => ?_⟩
  · exact exec_of_serve_bare (k := .commit) tag running nofun (fun _ => own) rfl
      (serve_commit_pending ustaged pending)
  · exact exec_of_serve_bare (k := .commit) tag running nofun (fun _ => own) rfl
      (serve_commit_invalid ustaged idle failed)
  · exact ⟨plan.committed issue (portOrigin p), plan.clampMask, plan.scaledMask, rfl,
      plan.severities.of_clamp, plan.testBit_clampMask, plan.testBit_scaledMask, plan.clampMask_lt,
      plan.scaledMask_lt, exec_of_serve_bare (k := .commit) tag running nofun (fun _ => own) rfl
        (serve_commit_valid ustaged idle valid)⟩

/-- Settles O24: the two cases of CANCEL_COMMIT and the three of REVERT, one owner's equation each. -/
theorem pendingMovedByHolder : Obligations.PendingMovedByHolder := by
  intro s p tag fill running own u
  refine ⟨fun idle => ?_, fun r pending => ?_, fun empty => ?_, fun k plan entry pending => ?_,
    fun top entry idle => ?_⟩
  · exact exec_of_serve_bare (k := .cancelCommit) tag running nofun (fun _ => own) rfl
      (serve_cancelCommit_none idle)
  · obtain ⟨_ | _, _, _⟩ := r <;>
      exact exec_of_serve_bare (k := .cancelCommit) tag running nofun (fun _ => own) rfl
        (serve_cancelCommit_some pending)
  · exact exec_of_serve_bare (k := .revert) tag running nofun (fun _ => own) rfl (serve_revert_empty empty)
  · exact exec_of_serve_bare (k := .revert) tag running nofun (fun _ => own) rfl
      (serve_revert_pending entry pending)
  · exact exec_of_serve_bare (k := .revert) tag running nofun (fun _ => own) rfl
      (serve_revert_taken entry idle)

end Sys2Proof.Machine
end

section
/-! PROOFS. STORE_DEFAULT and CLEAR_RESET_CAUSE (O27): when STORE_DEFAULT finds every transmit chain at rest, and what
the Plan Store and the Supply Monitor answer. -/

namespace Sys2Proof.Machine

/-! ## Chains at rest (R157) -/

theorem SeqState.atRest_iff {st : SeqState} : st.atRest = true ↔ st = .off ∨ st = .lockedOut := by
  simp [SeqState.atRest]

theorem mem_allTx (x : Tx) : x ∈ allTx := by cases x <;> decide

theorem allTx_atRest_iff {s : State} :
    (allTx.all fun x => (s.seq x).state.atRest) = true
      ↔ ∀ x, (s.seq x).state = .off ∨ (s.seq x).state = .lockedOut := by
  simp [List.all_eq_true, mem_allTx, SeqState.atRest_iff]

/-! ## What each owner answers (R157, R160) -/

section Owners

variable {s : State} {p : Port} {b : List Byte}

theorem serve_storeDefault_active {x : Tx} (notOff : (s.seq x).state ≠ .off)
    (notLocked : (s.seq x).state ≠ .lockedOut) :
    serve .storeDefault p b s = (s, .refused .chainsActive) :=
  if_neg fun rest => (allTx_atRest_iff.mp rest x).elim notOff notLocked

/-- The content that STORE_DEFAULT gives carries no lockout: a DEFAULT record holds none (R152). -/
theorem serve_storeDefault_atRest
    (rest : ∀ x, (s.seq x).state = .off ∨ (s.seq x).state = .lockedOut) :
    serve .storeDefault p b s
      = (s.requestWrite .dflt { plan := s.pe.active, lockout := ⟨false, false, false, false⟩ }, .ok []) :=
  if_pos (allTx_atRest_iff.mpr rest)

/-- The failure counts are cleared one record after the other, which writes the pair of both. -/
theorem serve_clearResetCause :
    serve .clearResetCause p b s
      = ({ s with
            supply := { s.supply with undervoltageSeen := false }
            store := { s.store with
              records := ⟨{ s.store.records.site with failures := 0 },
                { s.store.records.dflt with failures := 0 }⟩ } }, .ok []) := rfl

end Owners

/-! ## The obligation -/

/-- Settles O27: STORE_DEFAULT is refused or taken as some chain is not at rest or all are, with the write request
of R153 spelled out; CLEAR_RESET_CAUSE needs no grant. -/
theorem storeAndCauseRequested : Obligations.StoreAndCauseRequested := by
  refine ⟨fun s p tag fill running own => ⟨fun x notOff notLocked => ?_, fun rest => ?_⟩,
    fun s p tag fill running => ?_⟩
  · exact exec_of_serve_bare (k := .storeDefault) tag running nofun (fun _ => own) rfl
      (serve_storeDefault_active notOff notLocked)
  · exact exec_of_serve_bare (k := .storeDefault) tag running nofun (fun _ => own) rfl
      (serve_storeDefault_atRest rest)
  · exact exec_of_serve_bare (k := .clearResetCause) tag running nofun nofun rfl serve_clearResetCause

end Sys2Proof.Machine
end

section
/-! PROOFS. The frames refused before any field is examined (O12): a failed framing check, the grant, an unknown
kind and the payload length, each answered by the port alone. -/

namespace Sys2Proof.Machine

/-! ## A frame that fails its check (R166) -/

theorem PerPort.put_put {α : Type} (v : PerPort α) (p : Port) (x y : α) :
    (v.put p x).put p y = v.put p y := by
  cases p <;> rfl

/-- Of two writes to one port the second stands. -/
theorem State.setPort_setPort (s : State) (p : Port) (x y : PortState) :
    (s.setPort p x).setPort p y = s.setPort p y := by
  simp only [State.setPort, PerPort.put_put]

/-- The two writes of a failed frame are one write of what the port clocks out and of its last response. -/
theorem frameFailed_eq_setPort (s : State) (p : Port) (n : Nat) (kind tag : Byte) :
    s.frameFailed p n kind tag = s.setPort p
      { s.port p with
        dataOut := some ((s.port p).lastResponse.bytes.take n)
        lastResponse := { kind := kind, tag := tag, status := .frameError, payload := [] } } := by
  simp only [State.frameFailed, State.respond, State.clockOut, State.port_setPort_same,
    State.setPort_setPort]

/-- Too short for its length byte, a length byte above 48, or a wrong CRC-16: each alone fails the check. -/
theorem checkFrame_eq_bad {bytes : List Byte}
    (fails : bytes.length < byteAt bytes 0 + 5 ∨ 48 < byteAt bytes 0 ∨
      (crc16 (bytes.take (byteAt bytes 0 + 3))).toNat ≠ field2 bytes (byteAt bytes 0 + 3)) :
    checkFrame bytes = .bad (bytes.getD 1 0) (bytes.getD 2 0) := by
  refine if_neg ?_
  rintro ⟨short, complete, crc⟩
  rcases fails with tooFew | tooLong | wrong
  · omega
  · omega
  · exact wrong crc

theorem exec_frameError_bad {s : State} {p : Port} {bytes : List Byte} {kind tag : Byte}
    (running : s.phase = .running) (carried : bytes ≠ []) (bad : checkFrame bytes = .bad kind tag) :
    exec (.frameError p bytes) s = .next (s.frameFailed p bytes.length kind tag) := by
  change execFrameError p bytes s = _
  rw [execFrameError, if_neg carried, if_neg (not_not_intro running), bad]

/-! ## A valid frame that no owner is asked about (R37, R167) -/

/-- The grant is examined first, before the payload's length (R167, step 2). -/
theorem dispatch_noGrant {s : State} {k : RequestKind} {p : Port} {payload : List Byte}
    (holder : k.holderOnly = true) (other : s.pe.grant ≠ some p) :
    s.dispatch k p payload = (s, .refused .noGrant) := by
  simp [State.dispatch, holder, other]

/-- The payload's length is examined next, before any of its fields (R167, step 3). -/
theorem dispatch_wrongLength {s : State} {k : RequestKind} {p : Port} {payload : List Byte}
    (granted : k.holderOnly = true → s.pe.grant = some p) (wrong : payload.length ≠ k.payloadLength) :
    s.dispatch k p payload = (s, .invalid 0) := by
  have noRefusal : ¬(k.holderOnly && decide (s.pe.grant ≠ some p)) = true := by
    simpa using granted
  rw [State.dispatch, if_neg noRefusal, if_pos wrong]

theorem RequestKind.ne_nop_of_holderOnly {k : RequestKind} (holder : k.holderOnly = true) : k ≠ .nop := by
  rintro rfl
  exact Bool.false_ne_true holder

/-- A running part answers a valid request with what its dispatch gives in the state the frame leaves. -/
theorem exec_of_dispatch {s t : State} {k : RequestKind} {p : Port} {payload : List Byte} {fill : Nat}
    {r : Reply} (tag : Byte) (running : s.phase = .running) (answers : k ≠ .nop)
    (valid : payload.length ≤ 48)
    (dispatched : (s.framed p (payload.length + 5 + fill)).dispatch k p payload = (t, r)) :
    exec (k.command p tag ⟨payload, fill⟩) s = .next (t.answered p k.code tag r.status r.payload) := by
  have taken : ((s.clockOut p (clocked ⟨payload, fill⟩)).heard p).dispatch k p payload = (t, r) :=
    dispatched
  rw [exec_command, State.takeRequest, if_neg (not_not_intro running), if_neg (not_lt.mpr valid)]
  simp only [State.takeValid, taken, State.answer, if_neg answers]
  rfl

/-- The seventeen codes are 0 to 16 (R171). -/
theorem RequestKind.ofCode_eq_none {kind : Byte} (unknown : 17 ≤ kind.toNat) :
    RequestKind.ofCode kind = none := by
  obtain ⟨m, hm⟩ := Nat.exists_eq_add_of_le' unknown
  rw [RequestKind.ofCode, hm]
  rfl

theorem exec_unknownRequest {s : State} {p : Port} {kind : Byte} {payload : List Byte} {fill : Nat}
    (tag : Byte) (running : s.phase = .running) (unknown : 17 ≤ kind.toNat) (valid : payload.length ≤ 48) :
    exec (.unknownRequest p kind tag ⟨payload, fill⟩) s
      = .next ((s.framed p (payload.length + 5 + fill)).answered p kind tag .unknownRequest []) := by
  change Host.Outcome.next (s.takeKind p kind tag ⟨payload, fill⟩) = _
  simp only [State.takeKind, RequestKind.ofCode_eq_none unknown]
  rw [if_neg (not_not_intro running), if_neg (not_lt.mpr valid)]
  rfl

/-! ## The obligation -/

/-- Settles O12: the framing check's three failures, and the first three steps of R167, each by its own
equation. -/
theorem framesRefused : Obligations.FramesRefused := by
  refine ⟨fun s p bytes running carried fails => ?_,
    fun s p k tag payload fill holder running valid other => ?_,
    fun s p tag payload fill running valid => ⟨fun kind unknown => ?_, fun k answers granted wrong => ?_⟩⟩
  · rw [exec_frameError_bad running carried (checkFrame_eq_bad fails), frameFailed_eq_setPort]
  · have holderOnly : k.holderOnly = true := by
      revert k
      decide
    exact exec_of_dispatch tag running (RequestKind.ne_nop_of_holderOnly holderOnly) valid
      (dispatch_noGrant holderOnly (by rwa [framed_grant]))
  · exact exec_unknownRequest tag running unknown valid
  · exact exec_of_dispatch tag running answers valid
      (dispatch_wrongLength (fun holder => (framed_grant ..).trans (granted holder)) wrong)

end Sys2Proof.Machine
end

section
/-! PROOFS. What every shared operation keeps of the chains' blocks (for O6 to O10): the invariants of `State.Sound` chain
by chain, the direction in which levels and lockouts move, and how a PA comes on. -/

namespace Sys2Proof.Machine

/-! ## One chain's decision (R140 to R146) -/

section Decide
variable (c : ChainProtection) (v : Severities) (l : Limits) (d : DeviceConditions) (now seconds : Nat)

theorem ChainProtection.trip_keeps :
    (c.trip l seconds).present = c.present ∧ (c.trip l seconds).highest = c.highest ∧
      (c.trip l seconds).level = c.level ∧ (c.trip l seconds).hold = c.hold ∧
      (c.trip l seconds).cause = c.cause ∧ (c.trip l seconds).holding = c.holding := by
  unfold ChainProtection.trip
  split
  · simp
  · split <;> simp

theorem ChainProtection.trip_lockedOut (h : c.lockedOut = true) : c.trip l seconds = c := by
  unfold ChainProtection.trip
  split
  · rfl
  · rw [if_pos (.inr h)]

/-- A trip never takes the list past the limit (R145). -/
theorem ChainProtection.trip_length (h : c.trips.length ≤ l.tripLimit) :
    (c.trip l seconds).trips.length ≤ l.tripLimit := by
  unfold ChainProtection.trip
  split
  · exact h
  · split
    · exact h
    · next limit =>
      simp only [List.length_append, List.length_drop, List.length_singleton]
      omega

/-- The four outcomes of a decision: S above the level (a trip at 3), S at the level, and S below it with the
hold started anew or left to run (R141, R142). -/
theorem ChainProtection.decide_cases :
    let s := highestSeverity v d c.present
    let top := topCondition v d c.present
    (c.level < s ∧ c.decide v l d now seconds =
        (if s = 3 then ChainProtection.trip
            { c with highest := s, level := s, hold := none, cause := top, holding := false } l seconds
          else { c with highest := s, level := s, hold := none, cause := top, holding := false })) ∨
      (s = c.level ∧ c.decide v l d now seconds =
        { c with highest := s, hold := none, cause := top, holding := false }) ∨
      (s < c.level ∧ (c.highest < s ∨ (s < c.highest ∧ c.hold = none)) ∧ c.decide v l d now seconds =
        { c with highest := s, hold := some (now + 100 * l.recoveryHold), holding := true }) ∨
      (s < c.level ∧ ¬(c.highest < s ∨ (s < c.highest ∧ c.hold = none)) ∧ c.decide v l d now seconds =
        { c with highest := s, holding := true }) := by
  intro s top
  unfold ChainProtection.decide
  by_cases above : c.level < s
  · exact .inl ⟨above, by rw [if_pos above]⟩
  · by_cases equal : s = c.level
    · exact .inr (.inl ⟨equal, by rw [if_neg above, if_pos equal]⟩)
    · have below : s < c.level := lt_of_le_of_ne (not_lt.mp above) equal
      by_cases restart : c.highest < s ∨ (s < c.highest ∧ c.hold = none)
      · exact .inr (.inr (.inl ⟨below, restart, by rw [if_neg above, if_neg equal, if_pos restart]⟩))
      · exact .inr (.inr (.inr ⟨below, restart, by rw [if_neg above, if_neg equal, if_neg restart]⟩))

/-- A decision leaves the present set, sets S to the highest severity present, keeps the level at or above it
and never lowers the level, and keeps a lockout (R140, R141, R146). -/
theorem ChainProtection.decide_keeps :
    (c.decide v l d now seconds).present = c.present ∧
      (c.decide v l d now seconds).highest = highestSeverity v d c.present ∧
      (c.decide v l d now seconds).highest ≤ (c.decide v l d now seconds).level ∧
      c.level ≤ (c.decide v l d now seconds).level ∧
      (c.lockedOut = true → (c.decide v l d now seconds).lockedOut = true) := by
  rcases c.decide_cases v l d now seconds with ⟨above, eq⟩ | ⟨equal, eq⟩ | ⟨below, -, eq⟩ | ⟨below, -, eq⟩
  · rw [eq]
    split
    · obtain ⟨present, highest, level, -⟩ := ChainProtection.trip_keeps
        { c with highest := highestSeverity v d c.present, level := highestSeverity v d c.present, hold := none,
                 cause := topCondition v d c.present, holding := false } l seconds
      refine ⟨present, highest, (highest.trans level.symm).le, level ▸ above.le, fun locked => ?_⟩
      rw [ChainProtection.trip_lockedOut]
      · exact locked
      · exact locked
    · exact ⟨rfl, rfl, le_rfl, above.le, id⟩
  · rw [eq]
    exact ⟨rfl, rfl, equal.le, le_rfl, id⟩
  · rw [eq]
    exact ⟨rfl, rfl, below.le, le_rfl, id⟩
  · rw [eq]
    exact ⟨rfl, rfl, below.le, le_rfl, id⟩

theorem ChainProtection.decide_length (h : c.trips.length ≤ l.tripLimit) :
    (c.decide v l d now seconds).trips.length ≤ l.tripLimit := by
  rcases c.decide_cases v l d now seconds with ⟨-, eq⟩ | ⟨-, eq⟩ | ⟨-, -, eq⟩ | ⟨-, -, eq⟩
  · rw [eq]
    split
    · exact ChainProtection.trip_length _ _ _ h
    · exact h
  all_goals rw [eq]; exact h

end Decide

/-! ## The invariants chain by chain -/

/-- A chain's trip list is within the limit (R145). -/
def State.TripsOk (s : State) (x : Tx) : Prop := (s.protection x).trips.length ≤ s.limits.tripLimit

/-- A chain's S is the highest severity present for it, and its level is not below S (R140, R141). -/
def State.LevelOk (s : State) (x : Tx) : Prop :=
  (s.protection x).highest = highestSeverity s.severities s.pu.device (s.protection x).present ∧
    (s.protection x).highest ≤ (s.protection x).level

/-- A chain's two synthesizer conditions are those of its synthesizer (R83). -/
def State.ConditionsOk (s : State) (x : Tx) : Prop :=
  (s.synth (.tx x)).conditions (s.protection x).present = (s.protection x).present

/-- A chain's sequencer is sound, and the LO it handed over last is its synthesizer's wanted LO (R123, R124). -/
def State.SequencerOk (s : State) (x : Tx) : Prop :=
  (s.seq x).Sound ∧ (s.seq x).handedOver = (s.synth (.tx x)).wanted

/-- Chain `x` rests in OFF, with no discharge running (R122). -/
def State.Rests (s : State) (x : Tx) : Prop := (s.seq x).state = .off ∧ (s.seq x).dischargeTimer = none

theorem Sequencer.Sound.rests {s : State} {x : Tx} (h : (s.seq x).Sound) (off : (s.seq x).state = .off) :
    s.Rests x := by
  refine ⟨off, ?_⟩
  by_contra discharging
  rw [← ne_eq, ← Option.isSome_iff_ne_none, h.discharge, off] at discharging
  cases discharging

/-- Chain `x` waits in DRIVE_SETTLE with its drive settled (R127). -/
def State.DriveReady (s : State) (x : Tx) : Prop :=
  (s.seq x).state = .driveSettle ∧ (s.seq x).driveSettled = true

/-- What R127 asks for before the PA of chain `x` is switched on. -/
structure State.MayPowerUp (s : State) (x : Tx) : Prop where
  running : s.phase = .running
  ready : s.DriveReady x
  enabled : (s.pe.active.tx.get x).enabled = true
  verified : (s.synth (.tx x)).state = .verified
  wanted : (s.synth (.tx x)).wanted = (s.pe.active.tx.get x).lo
  level : (s.protection x).level < 3
  lockedOut : (s.protection x).lockedOut = false

/-! ## What an operation keeps -/

/-- `t` comes from `s` by operations that keep every invariant chain by chain, never lower a level or lift a
lockout, and leave no chain with a newly settled drive. Chain `e`, where one is named, is one whose synthesizer
is being changed: what depends on it is not said of that chain. -/
structure KeepsState (e : Option Chain) (s t : State) : Prop where
  phase : t.phase = s.phase
  active : t.pe.active = s.pe.active
  trips : ∀ x, s.TripsOk x → t.TripsOk x
  level : ∀ x, s.LevelOk x → t.LevelOk x
  rises : ∀ x, (s.protection x).level ≤ (t.protection x).level
  locked : ∀ x, (s.protection x).lockedOut = true → (t.protection x).lockedOut = true
  counter : s.CounterSound → t.CounterSound
  off : s.phase ≠ .running → ∀ x, s.Rests x → t.Rests x
  ready : ∀ x, t.DriveReady x → s.DriveReady x
  conditions : s.CounterSound → ∀ x, e ≠ some (.tx x) → s.ConditionsOk x → t.ConditionsOk x

/-- They also leave the synthesizer of a PA that is on VERIFIED, and switch a PA on only where R127 allows it. -/
structure KeepsBut (e : Option Chain) (s t : State) : Prop extends KeepsState e s t where
  verified : s.CounterSound → ∀ x, e ≠ some (.tx x) → (s.seq x).state.paOn = true →
    (t.seq x).state.paOn = true → (s.synth (.tx x)).state = .verified →
    (t.synth (.tx x)).state = .verified ∧ (t.synth (.tx x)).wanted = (s.synth (.tx x)).wanted
  powerUp : s.CounterSound → ∀ x, e ≠ some (.tx x) → (s.seq x).state.paOn = false →
    (t.seq x).state.paOn = true →
    s.phase = .running ∧ s.DriveReady x ∧ (s.pe.active.tx.get x).enabled = true ∧
    (t.synth (.tx x)).state = .verified ∧ (t.synth (.tx x)).wanted = (s.pe.active.tx.get x).lo ∧
    (s.protection x).level < 3 ∧ (s.protection x).lockedOut = false

/-- The same of every chain, and every sequencer stays sound. -/
structure KeepsChains (s t : State) : Prop extends KeepsBut none s t where
  sequencer : ∀ x, s.SequencerOk x → t.SequencerOk x

/-- The same, and every lane keeps its slot. -/
structure Keeps (s t : State) : Prop extends KeepsChains s t where
  slots : ∀ n, (t.lane n).slot = (s.lane n).slot

/-- No sequencer, no wanted LO and no lane's slot is touched. -/
structure SameLo (s t : State) : Prop where
  os : t.os = s.os
  slots : ∀ n, (t.lane n).slot = (s.lane n).slot
  wanted : ∀ c, (t.synth c).wanted = (s.synth c).wanted

/-- `t` differs from `s` at most outside the chains' synthesizers, sequencers and protection. -/
structure Untouched (s t : State) : Prop where
  phase : t.phase = s.phase
  active : t.pe.active = s.pe.active
  syn : t.syn = s.syn
  fc : t.fc = s.fc
  os : t.os = s.os
  pu : t.pu = s.pu

section Untouched
variable {s t : State} (h : Untouched s t)
include h

theorem Untouched.synth_eq (c : Chain) : t.synth c = s.synth c := by simp only [State.synth, h.syn]

theorem Untouched.seq_eq (x : Tx) : t.seq x = s.seq x := by simp only [State.seq, h.os]

theorem Untouched.protection_eq (x : Tx) : t.protection x = s.protection x := by
  simp only [State.protection, h.pu]

theorem Untouched.counter (k : s.CounterSound) : t.CounterSound := by
  obtain ⟨contexts, nodup, queued, measured⟩ := k
  constructor
  · simpa only [h.synth_eq] using contexts
  · simpa only [State.QueueSound, h.fc] using nodup
  · simpa only [h.synth_eq, h.fc] using queued
  · simpa only [h.synth_eq, h.fc] using measured

theorem Untouched.keepsChains : KeepsChains s t where
  phase := h.phase
  active := h.active
  trips x k := by simpa only [State.TripsOk, State.limits, h.protection_eq, h.active] using k
  level x k := by
    simpa only [State.LevelOk, State.severities, h.protection_eq, h.active, h.pu] using k
  rises x := by rw [h.protection_eq]
  locked x k := by rwa [h.protection_eq]
  counter := h.counter
  conditions _ x _ k := by simpa only [State.ConditionsOk, h.protection_eq, h.synth_eq] using k
  sequencer x k := by simpa only [State.SequencerOk, h.seq_eq, h.synth_eq] using k
  off _ x k := by rwa [State.Rests, h.seq_eq]
  ready x k := by simpa only [State.DriveReady, h.seq_eq] using k
  verified _ x _ _ _ k := by rw [h.synth_eq]; exact ⟨k, rfl⟩
  powerUp _ x _ off on := by
    rw [h.seq_eq, off] at on
    exact absurd on Bool.false_ne_true

theorem Untouched.keeps (slots : ∀ n, (t.lane n).slot = (s.lane n).slot) : Keeps s t := ⟨h.keepsChains, slots⟩

end Untouched

theorem Keeps.refl (s : State) : Keeps s s := Untouched.keeps ⟨rfl, rfl, rfl, rfl, rfl, rfl⟩ fun _ => rfl

/-- A PA that an operation has switched off stays off: only a chain in DRIVE_SETTLE with its drive settled is
switched on, and no operation leaves a chain newly so. -/
theorem KeepsBut.paOn_between {e : Option Chain} {s t u : State} (a : KeepsBut e s t) (b : KeepsBut e t u)
    (sound : s.CounterSound) {x : Tx} (other : e ≠ some (.tx x)) (before : (s.seq x).state.paOn = true)
    (after : (u.seq x).state.paOn = true) : (t.seq x).state.paOn = true := by
  by_contra between
  rw [Bool.not_eq_true] at between
  obtain ⟨-, ready, -⟩ := b.powerUp (a.counter sound) x other between after
  obtain ⟨state, -⟩ := a.ready x ready
  rw [state] at before
  exact Bool.false_ne_true before

theorem KeepsState.trans {e : Option Chain} {s t u : State} (a : KeepsState e s t) (b : KeepsState e t u) :
    KeepsState e s u where
  phase := b.phase.trans a.phase
  active := b.active.trans a.active
  trips x k := b.trips x (a.trips x k)
  level x k := b.level x (a.level x k)
  rises x := (a.rises x).trans (b.rises x)
  locked x k := b.locked x (a.locked x k)
  counter k := b.counter (a.counter k)
  off held x k := b.off (a.phase ▸ held) x (a.off held x k)
  ready x k := a.ready x (b.ready x k)
  conditions sound x other k := b.conditions (a.counter sound) x other (a.conditions sound x other k)

theorem KeepsBut.trans {e : Option Chain} {s t u : State} (a : KeepsBut e s t) (b : KeepsBut e t u) :
    KeepsBut e s u where
  toKeepsState := a.toKeepsState.trans b.toKeepsState
  verified sound x other before after k := by
    have between := a.paOn_between b sound other before after
    obtain ⟨k, wanted⟩ := a.verified sound x other before between k
    obtain ⟨k, wanted'⟩ := b.verified (a.counter sound) x other between after k
    exact ⟨k, wanted'.trans wanted⟩
  powerUp sound x other before after := by
    cases between : (t.seq x).state.paOn with
    | true =>
      obtain ⟨running, ready, enabled, verified, wanted, level, lockedOut⟩ :=
        a.powerUp sound x other before between
      obtain ⟨verified, wanted'⟩ := b.verified (a.counter sound) x other between after verified
      exact ⟨running, ready, enabled, verified, wanted'.trans wanted, level, lockedOut⟩
    | false =>
      obtain ⟨running, ready, enabled, verified, wanted, level, lockedOut⟩ :=
        b.powerUp (a.counter sound) x other between after
      refine ⟨a.phase ▸ running, a.ready x ready, a.active ▸ enabled, verified, a.active ▸ wanted,
        lt_of_le_of_lt (a.rises x) level, ?_⟩
      by_contra locked
      rw [Bool.not_eq_false] at locked
      rw [a.locked x locked] at lockedOut
      exact Bool.false_ne_true lockedOut.symm

theorem KeepsChains.trans {s t u : State} (a : KeepsChains s t) (b : KeepsChains t u) : KeepsChains s u :=
  ⟨a.toKeepsBut.trans b.toKeepsBut, fun x k => b.sequencer x (a.sequencer x k)⟩

theorem Keeps.trans {s t u : State} (a : Keeps s t) (b : Keeps t u) : Keeps s u :=
  ⟨a.toKeepsChains.trans b.toKeepsChains, fun n => (b.slots n).trans (a.slots n)⟩

theorem Keeps.but {s t : State} (h : Keeps s t) (e : Option Chain) : KeepsBut e s t :=
  { h with
    conditions := fun sound x _ => h.conditions sound x nofun
    verified := fun sound x _ => h.verified sound x nofun
    powerUp := fun sound x _ => h.powerUp sound x nofun }

theorem SameLo.refl (s : State) : SameLo s s := ⟨rfl, fun _ => rfl, fun _ => rfl⟩

theorem SameLo.trans {s t u : State} (a : SameLo s t) (b : SameLo t u) : SameLo s u :=
  ⟨b.os.trans a.os, fun n => (b.slots n).trans (a.slots n), fun c => (b.wanted c).trans (a.wanted c)⟩

theorem SameLo.seq_eq {s t : State} (h : SameLo s t) (x : Tx) : t.seq x = s.seq x := by
  simp only [State.seq, h.os]

theorem SameLo.sequencer {s t : State} (h : SameLo s t) (x : Tx) (k : s.SequencerOk x) : t.SequencerOk x := by
  simpa only [State.SequencerOk, h.seq_eq, h.wanted] using k

theorem LaneFrame.untouched {s t : State} (h : LaneFrame s t) : Untouched s t :=
  ⟨h.phase, congrArg _ h.pe, h.syn, h.fc, h.os, h.pu⟩

theorem TimeFrame.untouched {s t : State} (h : TimeFrame s t) : Untouched s t :=
  ⟨h.phase, congrArg _ h.pe, h.syn, h.fc, h.os, h.pu⟩

theorem TimeFrame.keeps {s t : State} (h : TimeFrame s t) : Keeps s t :=
  h.untouched.keeps fun n => by simp only [State.lane, h.lanes]

theorem setPort_keeps (s : State) (p : Port) (x : PortState) : Keeps s (s.setPort p x) :=
  Untouched.keeps ⟨rfl, rfl, rfl, rfl, rfl, rfl⟩ fun _ => rfl

theorem notifyBoth_keeps (s : State) (n : Notice) : Keeps s (s.notifyBoth n) :=
  Untouched.keeps ⟨rfl, rfl, rfl, rfl, rfl, rfl⟩ fun _ => rfl

theorem requestWrite_keeps (s : State) (r : RecordName) (c : Content) : Keeps s (s.requestWrite r c) := by
  rw [requestWrite_eq]
  exact Untouched.keeps ⟨rfl, rfl, rfl, rfl, rfl, rfl⟩ fun _ => rfl

theorem writerStart_keeps (s : State) : Keeps s s.writerStart := by
  rw [writerStart_eq]
  exact Untouched.keeps ⟨rfl, rfl, rfl, rfl, rfl, rfl⟩ fun _ => rfl

theorem startVisit_keeps (s : State) : Keeps s s.startVisit := by
  unfold State.startVisit
  split
  · exact .refl s
  · split
    · exact .refl s
    · exact Untouched.keeps ⟨rfl, rfl, rfl, rfl, rfl, rfl⟩ fun _ => rfl

theorem abandonVisit_keeps (s : State) (n : Slot) : Keeps s (s.abandonVisit n) := by
  unfold State.abandonVisit
  split
  · exact Untouched.keeps ⟨rfl, rfl, rfl, rfl, rfl, rfl⟩ fun _ => rfl
  · exact .refl s

theorem soilProbe_keeps (s : State) (r : Rx) : Keeps s (s.soilProbe r) := by
  unfold State.soilProbe
  split
  · exact .refl s
  · split
    · exact Untouched.keeps ⟨rfl, rfl, rfl, rfl, rfl, rfl⟩ fun _ => rfl
    · exact .refl s

theorem probationFailure_keeps (s : State) : Keeps s s.probationFailure := by
  unfold State.probationFailure
  split
  · dsimp only
    split <;> exact Untouched.keeps ⟨rfl, rfl, rfl, rfl, rfl, rfl⟩ fun _ => rfl
  · exact .refl s

/-! ## Lanes keep their slots -/

/-- `t` differs from `s` at most in lanes, mixers, input records and phases, and in no lane's slot. -/
structure LaneKeeps (s t : State) : Prop extends LaneFrame s t where
  slots : ∀ n, (t.lane n).slot = (s.lane n).slot

theorem LaneKeeps.refl (s : State) : LaneKeeps s s := ⟨.refl s, fun _ => rfl⟩

theorem LaneKeeps.trans {s t u : State} (a : LaneKeeps s t) (b : LaneKeeps t u) : LaneKeeps s u :=
  ⟨a.toLaneFrame.trans b.toLaneFrame, fun n => (b.slots n).trans (a.slots n)⟩

theorem LaneKeeps.keeps {s t : State} (h : LaneKeeps s t) : Keeps s t := h.toLaneFrame.untouched.keeps h.slots

theorem LaneKeeps.sameLo {s t : State} (h : LaneKeeps s t) : SameLo s t :=
  ⟨h.os, h.slots, fun c => by simp only [State.synth, h.syn]⟩

theorem setLane_laneKeeps {s : State} {n : Slot} {x : Lane} (same : x.slot = (s.lane n).slot) :
    LaneKeeps s (s.setLane n x) := by
  refine ⟨setLane_frame .., fun m => ?_⟩
  rw [State.lane_setLane]
  split
  · next eq => rw [same, eq]
  · rfl

theorem setInput_laneKeeps (s : State) (n : Slot) (x : InputRecord) : LaneKeeps s (s.setInput n x) :=
  ⟨setInput_frame .., fun _ => rfl⟩

theorem setMixer_laneKeeps (s : State) (t : Tx) (x : Mixer) : LaneKeeps s (s.setMixer t x) :=
  ⟨setMixer_frame .., fun _ => rfl⟩

theorem markWindow_laneKeeps (s : State) (n : Slot) : LaneKeeps s (s.markWindow n) := setInput_laneKeeps ..

theorem decideLane_laneKeeps (s : State) (n : Slot) : LaneKeeps s (s.decideLane n) := by
  unfold State.decideLane
  dsimp only
  split
  · exact setLane_laneKeeps rfl
  · refine LaneKeeps.trans (setLane_laneKeeps ?_) (markWindow_laneKeeps ..)
    rfl

theorem startRamp_laneKeeps (s : State) (t : Tx) : LaneKeeps s (s.startRamp t) := by
  refine LaneKeeps.trans (foldl_related .refl .trans (fun s n => ?_) _ s) (setMixer_laneKeeps ..)
  exact setLane_laneKeeps rfl

theorem decideLanes_laneKeeps (s : State) (ns : List Slot) : LaneKeeps s (s.decideLanes ns) :=
  (foldl_related .refl .trans decideLane_laneKeeps ns s).trans
    (foldl_related .refl .trans startRamp_laneKeeps _ _)

theorem fastMute_laneKeeps (s : State) (n : Slot) : LaneKeeps s (s.fastMute n) := setLane_laneKeeps rfl

theorem fastMuteChain_laneKeeps (s : State) (t : Tx) : LaneKeeps s (s.fastMuteChain t) :=
  foldl_related .refl .trans fastMute_laneKeeps _ s

theorem stepRamp_laneKeeps (s : State) (t : Tx) : LaneKeeps s (s.stepRamp t) := by
  refine LaneKeeps.trans (foldl_related .refl .trans (fun s n => ?_) _ s) (setMixer_laneKeeps ..)
  exact setLane_laneKeeps rfl

theorem refreshLane_laneKeeps (s : State) (c : Chain) (n : Slot) : LaneKeeps s (s.refreshLane c n) := by
  unfold State.refreshLane
  split
  · exact .refl s
  · exact setLane_laneKeeps rfl

theorem refreshWords_laneKeeps (s : State) (c : Chain) : LaneKeeps s (s.refreshWords c) :=
  foldl_related .refl .trans (fun s n => refreshLane_laneKeeps s c n) _ s

theorem clearPhases_laneKeeps (s : State) (t : Tx) : LaneKeeps s (s.clearPhases t) := by
  refine foldl_related .refl .trans (fun s n => ?_) _ s
  have cleared : LaneKeeps s (s.setLane n { s.lane n with phaseReset := false }) := setLane_laneKeeps rfl
  exact cleared.trans ⟨setPhase_frame .., fun _ => rfl⟩

theorem beginWindow_laneKeeps (s : State) (n : Slot) : LaneKeeps s (s.beginWindow n) := setInput_laneKeeps ..

theorem muteUnverified_laneKeeps (s : State) (n : Slot) : LaneKeeps s (s.muteUnverified n) := by
  unfold State.muteUnverified
  split
  · exact fastMute_laneKeeps ..
  · exact .refl s

end Sys2Proof.Machine
end

section
/-! PROOFS. The Frequency Counter and the Protection Unit's writes: what the counter's queue and a write of a chain's
protection keep. -/

namespace Sys2Proof.Machine

/-! ## The counter's agreement (R85, R86) -/

/-- Synthesizer `c` neither waits for the counter nor is measured. -/
def State.Absent (s : State) (c : Chain) : Prop :=
  (∀ q ∈ s.fc.queue, q.syn ≠ c) ∧ ∀ m, s.fc.current = some m → m.syn ≠ c

/-- No timer of a controller runs and no audit is outstanding. -/
structure SynContext.NoTimers (x : SynContext) : Prop where
  settle : x.settle = none
  retry : x.retry = none
  audit : x.audit = none
  auditing : x.auditing = false

theorem SynContext.Sound.noTimers {x : SynContext} (h : x.Sound) (settling : x.state ≠ .settling)
    (failed : x.state ≠ .failed) (verified : x.state ≠ .verified) : x.NoTimers where
  settle := by
    by_contra running
    exact settling (h.settle (Option.isSome_iff_ne_none.mpr running))
  retry := by
    by_contra running
    exact failed (h.retry (Option.isSome_iff_ne_none.mpr running))
  audit := by
    by_contra running
    exact verified (h.audit (Option.isSome_iff_ne_none.mpr running)).1
  auditing := by
    by_contra outstanding
    exact verified (h.auditing (Bool.not_eq_false _ ▸ outstanding))

theorem SynContext.NoTimers.sound {x : SynContext} (h : x.NoTimers)
    (transfer : (∃ w, x.transfer = .programming w) → x.state = .programming) : x.Sound where
  settle running := by rw [h.settle] at running; cases running
  retry running := by rw [h.retry] at running; cases running
  audit running := by rw [h.audit] at running; cases running
  auditing outstanding := by rw [h.auditing] at outstanding; cases outstanding
  transfer := transfer

theorem State.CounterSound.absent {s : State} (k : s.CounterSound) {c : Chain}
    (queued : (s.synth c).state ≠ .queued) (measuring : (s.synth c).state ≠ .measuring)
    (audited : (s.synth c).state = .verified → (s.synth c).auditing = false) : s.Absent c := by
  refine ⟨fun q mem same => ?_, fun m current same => ?_⟩
  · have waits := k.queued q mem
    rw [same, SynContext.queues] at waits
    split at waits
    · exact absurd waits.2 (by simp [audited waits.1])
    · exact queued waits
  · have measured := (k.measured m current).1
    rw [same, SynContext.measures] at measured
    split at measured
    · exact absurd measured.2 (by simp [audited measured.1])
    · exact measuring measured

theorem State.CounterSound.setSynth {s : State} (k : s.CounterSound) {c : Chain} {x : SynContext}
    (sound : x.Sound) (queued : ∀ q ∈ s.fc.queue, q.syn = c → x.queues q.audit)
    (measured : ∀ m, s.fc.current = some m → m.syn = c → x.measures m.audit) :
    (s.setSynth c x).CounterSound where
  contexts d := by
    rw [State.synth_setSynth]
    split
    · exact sound
    · exact k.contexts d
  nodup := k.nodup
  queued q mem := by
    rw [State.synth_setSynth]
    split
    · next same => exact queued q mem same
    · exact k.queued q mem
  measured m current := by
    obtain ⟨measures, apart⟩ := k.measured m current
    refine ⟨?_, apart⟩
    rw [State.synth_setSynth]
    split
    · next same => exact measured m current same
    · exact measures

theorem State.CounterSound.setSynth_absent {s : State} (k : s.CounterSound) {c : Chain} {x : SynContext}
    (absent : s.Absent c) (sound : x.Sound) : (s.setSynth c x).CounterSound :=
  k.setSynth sound (fun q mem same => absurd same (absent.1 q mem))
    (fun m current same => absurd same (absent.2 m current))

/-! ## Writes of one controller, and of the counter -/

theorem SynContext.conditions_congr {x y : SynContext} {c : ChainConditions} (lost : y.lost = x.lost)
    (failed : y.state = .failed ↔ x.state = .failed) : y.conditions c = x.conditions c := by
  have failed' : (y.state == .failed) = (x.state == .failed) := by
    rw [Bool.eq_iff_iff]
    simpa using failed
  rw [SynContext.conditions, SynContext.conditions, lost, failed']

theorem KeepsBut.of_rx {r : Rx} {s t : State} (h : KeepsBut (some (.rx r)) s t) : KeepsBut none s t :=
  { h with
    conditions := fun sound x _ => h.conditions sound x nofun
    verified := fun sound x _ => h.verified sound x nofun
    powerUp := fun sound x _ => h.powerUp sound x nofun }

theorem setSynth_keepsBut {s : State} {c : Chain} {x : SynContext}
    (counter : s.CounterSound → (s.setSynth c x).CounterSound) : KeepsBut (some c) s (s.setSynth c x) where
  phase := rfl
  active := rfl
  trips _ k := k
  level _ k := k
  rises _ := le_rfl
  locked _ k := k
  counter := counter
  off _ _ k := k
  ready _ k := k
  conditions _ y other k := by
    have apart : Chain.tx y ≠ c := fun same => other (congrArg some same.symm)
    rw [State.ConditionsOk, State.synth_setSynth, if_neg apart]
    exact k
  verified _ y other _ _ k := by
    have apart : Chain.tx y ≠ c := fun same => other (congrArg some same.symm)
    rw [State.synth_setSynth, if_neg apart]
    exact ⟨k, rfl⟩
  powerUp _ _ _ before after := by
    rw [show (s.setSynth c x).seq _ = s.seq _ from rfl, before] at after
    exact absurd after Bool.false_ne_true

theorem setSynth_sameLo {s : State} {c : Chain} {x : SynContext} (same : x.wanted = (s.synth c).wanted) :
    SameLo s (s.setSynth c x) where
  os := rfl
  slots _ := rfl
  wanted d := by
    rw [State.synth_setSynth]
    split
    · next eq => rw [same, eq]
    · rfl

/-- A write of the counter alone. -/
theorem Keeps.of_fc {s : State} {f : Counter} (counter : s.CounterSound → { s with fc := f }.CounterSound) :
    Keeps s { s with fc := f } :=
  { Keeps.refl s with counter := counter }

theorem joinQueue_keeps {s : State} {c : Chain} {audit : Bool}
    (ready : s.CounterSound → (s.synth c).queues audit ∧ ∀ m, s.fc.current = some m → m.syn ≠ c) :
    Keeps s (s.joinQueue c audit) := by
  unfold State.joinQueue
  split
  · exact .refl s
  · next fresh =>
    refine Keeps.of_fc fun k => ⟨k.contexts, ?_, fun q mem => ?_, fun m current => ?_⟩
    · simp only [Bool.not_eq_true, List.any_eq_false, decide_eq_true_eq] at fresh
      simp only [State.QueueSound, List.map_append, List.map_singleton]
      refine List.Nodup.append k.nodup (List.nodup_singleton _) ?_
      simpa [List.disjoint_singleton] using fresh
    · rcases List.mem_append.mp mem with old | new
      · exact k.queued q old
      · rw [List.mem_singleton.mp new]
        exact (ready k).1
    · obtain ⟨measures, apart⟩ := k.measured m current
      refine ⟨measures, fun q mem => ?_⟩
      rcases List.mem_append.mp mem with old | new
      · exact apart q old
      · rw [List.mem_singleton.mp new]
        exact fun same => (ready k).2 m current same.symm

theorem leaveCounter_keeps (s : State) (c : Chain) : Keeps s (s.leaveCounter c) := by
  refine Keeps.of_fc fun k => ⟨k.contexts, ?_, fun q mem => ?_, fun m current => ?_⟩
  · exact k.nodup.sublist (List.Sublist.map _ List.filter_sublist)
  · exact k.queued q (List.mem_filter.mp mem).1
  · obtain ⟨measures, apart⟩ := k.measured m (Option.filter_eq_some_iff.mp current).1
    exact ⟨measures, fun q mem => apart q (List.mem_filter.mp mem).1⟩

theorem leaveCounter_absent (s : State) (c : Chain) : (s.leaveCounter c).Absent c := by
  refine ⟨fun q mem => ?_, fun m current => ?_⟩
  · simpa using (List.mem_filter.mp mem).2
  · simpa using (Option.filter_eq_some_iff.mp current).2

/-- A measurement in flight replaced by one of the same synthesizer and kind. -/
theorem mapMeasurement_keeps (s : State) (f : Measurement → Measurement)
    (same : ∀ m, (f m).syn = m.syn ∧ (f m).audit = m.audit) :
    Keeps s { s with fc := { s.fc with current := s.fc.current.map f } } := by
  refine Keeps.of_fc fun k => ⟨k.contexts, k.nodup, k.queued, fun m current => ?_⟩
  obtain ⟨m', current', rfl⟩ := Option.map_eq_some_iff.mp current
  obtain ⟨syn, audit⟩ := same m'
  rw [syn, audit]
  exact k.measured m' current'

theorem spoilMeasurement_keeps (s : State) : Keeps s s.spoilMeasurement :=
  mapMeasurement_keeps s _ fun _ => ⟨rfl, rfl⟩

theorem dateMeasurement_keeps (s : State) (now : Nat) : Keeps s (s.dateMeasurement now) :=
  mapMeasurement_keeps s _ fun _ => ⟨rfl, rfl⟩

/-- Where a measurement starts: the head entry leaves the queue, and a QUEUED synthesizer becomes MEASURING
(R86). -/
theorem startMeasurement_cases (s : State) :
    s.startMeasurement = s ∨ ∃ q rest, s.fc.current = none ∧ s.fc.queue = q :: rest ∧
      s.ref.state ≠ .absent ∧
      let s' := { s with
        fc := { s.fc with
                started := s.fc.started + 1, queue := rest, current := some (s.measurementOf q) } }
      s.startMeasurement =
        if q.audit then s' else s'.setSynth q.syn { s.synth q.syn with state := .measuring } := by
  unfold State.startMeasurement
  split
  · exact .inl rfl
  · next free =>
    push Not at free
    split
    · exact .inl rfl
    · next q rest queue =>
      exact .inr ⟨q, rest, Option.not_isSome_iff_eq_none.mp (by simpa using free.1), queue, free.2, rfl⟩

theorem startMeasurement_counter {s : State} (k : s.CounterSound) : s.startMeasurement.CounterSound := by
  rcases startMeasurement_cases s with same | ⟨q, rest, -, queue, -, eq⟩
  · rwa [same]
  · obtain ⟨apart, nodup⟩ : (∀ p ∈ rest, p.syn ≠ q.syn) ∧ (rest.map QueueEntry.syn).Nodup := by
      have := k.nodup
      rw [State.QueueSound, queue, List.map_cons, List.nodup_cons] at this
      exact ⟨fun p mem same => this.1 (same ▸ List.mem_map_of_mem mem), this.2⟩
    have queued (p) (mem : p ∈ rest) : (s.synth p.syn).queues p.audit :=
      k.queued p (queue ▸ List.mem_cons_of_mem q mem)
    have waits := k.queued q (queue ▸ List.mem_cons_self)
    rw [eq]
    cases audit : q.audit with
    | true =>
      rw [audit] at waits
      refine ⟨k.contexts, nodup, queued, fun m current => ?_⟩
      obtain rfl := Option.some.inj current
      refine ⟨?_, apart⟩
      change (s.synth q.syn).measures q.audit
      rw [audit]
      exact waits
    | false =>
      rw [audit] at waits
      have state : (s.synth q.syn).state = .queued := waits
      have context := k.contexts q.syn
      have quiet := context.noTimers (by simp [state]) (by simp [state]) (by simp [state])
      refine ⟨fun d => ?_, nodup, fun p mem => ?_, fun m current => ?_⟩
      · rw [if_neg Bool.false_ne_true, State.synth_setSynth]
        split
        · refine SynContext.NoTimers.sound ⟨quiet.settle, quiet.retry, quiet.audit, quiet.auditing⟩ fun sent => ?_
          exact absurd (context.transfer sent) (by simp [state])
        · exact k.contexts d
      · rw [if_neg Bool.false_ne_true, State.synth_setSynth, if_neg (apart p mem)]
        exact queued p mem
      · obtain rfl := Option.some.inj current
        refine ⟨?_, apart⟩
        rw [if_neg Bool.false_ne_true]
        change (State.synth (State.setSynth _ q.syn _) q.syn).measures q.audit
        rw [audit, State.synth_setSynth_same]
        rfl

/-- A start of a measurement changes at most a QUEUED synthesizer's state, to MEASURING. -/
theorem startMeasurement_synth (s : State) (c : Chain) :
    s.startMeasurement.synth c = s.synth c ∨
      (s.CounterSound → (s.synth c).state = .queued) ∧
        s.startMeasurement.synth c = { s.synth c with state := .measuring } := by
  rcases startMeasurement_cases s with same | ⟨q, rest, -, queue, -, eq⟩
  · rw [same]
    exact .inl rfl
  · rw [eq]
    cases audit : q.audit with
    | true => exact .inl rfl
    | false =>
      rw [if_neg Bool.false_ne_true, State.synth_setSynth]
      split
      · next same =>
        subst same
        refine .inr ⟨fun k => ?_, rfl⟩
        have waits := k.queued q (queue ▸ List.mem_cons_self)
        rwa [audit] at waits
      · exact .inl rfl

theorem startMeasurement_pu (s : State) : s.startMeasurement.pu = s.pu := by
  rcases startMeasurement_cases s with same | ⟨q, rest, -, -, -, eq⟩
  · rw [same]
  · rw [eq]
    split <;> rfl

theorem startMeasurement_sameLo (s : State) : SameLo s s.startMeasurement where
  os := (startMeasurement_frame s).os
  slots n := by
    rcases startMeasurement_cases s with same | ⟨q, rest, -, -, -, eq⟩
    · rw [same]
    · rw [eq]
      split <;> rfl
  wanted c := by
    rcases startMeasurement_synth s c with eq | ⟨-, eq⟩ <;> rw [eq]

theorem startMeasurement_keeps (s : State) : Keeps s s.startMeasurement := by
  have frame := startMeasurement_frame s
  have seq_eq (x) : s.startMeasurement.seq x = s.seq x := (startMeasurement_sameLo s).seq_eq x
  have protection_eq (x) : s.startMeasurement.protection x = s.protection x := by
    simp only [State.protection, startMeasurement_pu]
  refine ⟨⟨⟨⟨frame.phase, congrArg _ frame.pe, fun x k => ?_, fun x k => ?_, fun x => ?_, fun x k => ?_,
    startMeasurement_counter, fun _ x k => ?_, fun x k => ?_, fun sound x _ k => ?_⟩,
    fun sound x _ _ _ k => ?_, fun _ x _ before after => ?_⟩,
    (startMeasurement_sameLo s).sequencer⟩, (startMeasurement_sameLo s).slots⟩
  · simpa only [State.TripsOk, State.limits, protection_eq, frame.pe] using k
  · simpa only [State.LevelOk, State.severities, protection_eq, startMeasurement_pu, frame.pe] using k
  · rw [protection_eq]
  · rwa [protection_eq]
  · rwa [State.Rests, seq_eq]
  · simpa only [State.DriveReady, seq_eq] using k
  · rw [State.ConditionsOk, protection_eq]
    rcases startMeasurement_synth s (.tx x) with eq | ⟨queued, eq⟩
    · rwa [eq]
    · rw [eq]
      exact (SynContext.conditions_congr (x := s.synth (.tx x))
        (y := { s.synth (.tx x) with state := .measuring }) rfl
        (by simp [queued sound])).trans k
  · rcases startMeasurement_synth s (.tx x) with eq | ⟨queued, eq⟩
    · rw [eq]
      exact ⟨k, rfl⟩
    · rw [queued sound] at k
      cases k
  · rw [seq_eq, before] at after
    exact absurd after Bool.false_ne_true

/-! ## Protection (R83, R140) -/

/-- A chain's protection replaced by one that keeps what is said of it. -/
theorem setProtection_keepsBut {e : Option Chain} {s : State} {y : Tx} {c : ChainProtection}
    (trips : s.TripsOk y → c.trips.length ≤ s.limits.tripLimit)
    (level : s.LevelOk y → c.highest = highestSeverity s.severities s.pu.device c.present ∧ c.highest ≤ c.level)
    (rises : (s.protection y).level ≤ c.level)
    (locked : (s.protection y).lockedOut = true → c.lockedOut = true)
    (conditions : e ≠ some (.tx y) → s.ConditionsOk y → (s.synth (.tx y)).conditions c.present = c.present) :
    KeepsBut e s (s.setProtection y c) := by
  have other {P : ChainProtection → Prop} {x : Tx} (new : x = y → P c) (old : P (s.protection x)) :
      P ((s.setProtection y c).protection x) := by
    rw [State.protection_setProtection]
    split
    · next same => exact new same
    · exact old
  refine ⟨⟨rfl, rfl, fun x k => ?_, fun x k => ?_, fun x => ?_, fun x k => ?_,
    fun k => ⟨k.contexts, k.nodup, k.queued, k.measured⟩, fun _ _ k => k, fun _ k => k, fun _ x apart k => ?_⟩,
    fun _ _ _ _ _ k => ⟨k, rfl⟩, fun _ x _ before after => absurd (before.symm.trans after) Bool.false_ne_true⟩
  · exact other (P := fun c => c.trips.length ≤ s.limits.tripLimit) (fun same => trips (same ▸ k)) k
  · exact other (P := fun c => c.highest = highestSeverity s.severities s.pu.device c.present ∧ c.highest ≤ c.level)
      (fun same => level (same ▸ k)) k
  · exact other (P := fun c => (s.protection x).level ≤ c.level) (fun same => same ▸ rises) le_rfl
  · exact other (P := fun c => c.lockedOut = true) (fun same => locked (same ▸ k)) k
  · exact other (P := fun c => (s.synth (.tx x)).conditions c.present = c.present)
      (fun same => same ▸ conditions (same ▸ apart) (same ▸ k)) k

theorem setProtection_sameLo (s : State) (y : Tx) (c : ChainProtection) : SameLo s (s.setProtection y c) :=
  ⟨rfl, fun _ => rfl, fun _ => rfl⟩

theorem Keeps.of_sameLo {s t : State} (h : KeepsBut none s t) (lo : SameLo s t) : Keeps s t :=
  ⟨⟨h, lo.sequencer⟩, lo.slots⟩

theorem decideProtection_keeps (s : State) (y : Tx) : Keeps s (s.decideProtection y) := by
  obtain ⟨present, highest, below, rises, locked⟩ := (s.protection y).decide_keeps s.severities s.limits
    s.pu.device s.time.steps s.time.seconds
  refine Keeps.of_sameLo (setProtection_keepsBut (fun k => ?_) (fun _ => ⟨?_, below⟩) rises locked fun _ k => ?_)
    (setProtection_sameLo ..)
  · exact ChainProtection.decide_length _ _ _ _ _ _ k
  · rw [highest, present]
  · rw [present]
    exact k

/-- A decision makes S what it is, whatever it was (R140, R141). -/
theorem decideProtection_level (s : State) (y : Tx) : (s.decideProtection y).LevelOk y := by
  obtain ⟨present, highest, below, -, -⟩ := (s.protection y).decide_keeps s.severities s.limits
    s.pu.device s.time.steps s.time.seconds
  rw [State.LevelOk, State.decideProtection, State.protection_setProtection_same]
  exact ⟨by rw [highest, present]; rfl, below⟩

/-- The present set of a chain replaced, and S decided. -/
theorem setPresent_decide_keepsBut (s : State) (y : Tx) (p : ChainConditions) :
    KeepsBut (some (.tx y))
      s ((s.setProtection y { s.protection y with present := p }).decideProtection y) := by
  set u := s.setProtection y { s.protection y with present := p }
  have eq : u.decideProtection y = s.setProtection y ((u.protection y).decide u.severities u.limits u.pu.device
      u.time.steps u.time.seconds) := by
    simp only [u, State.decideProtection, State.setProtection]
    cases y <;> rfl
  have protection : u.protection y = { s.protection y with present := p } := State.protection_setProtection_same ..
  obtain ⟨present, highest, below, rises, locked⟩ := (u.protection y).decide_keeps u.severities u.limits
    u.pu.device u.time.steps u.time.seconds
  rw [eq]
  refine setProtection_keepsBut (fun k => ?_) (fun _ => ⟨?_, below⟩) ?_ (fun k => ?_) (fun other => absurd rfl other)
  · exact ChainProtection.decide_length _ _ _ _ _ _ (protection ▸ k)
  · rw [highest, present]
    rfl
  · exact le_trans (by rw [protection]) rises
  · exact locked (protection ▸ k)

theorem withdrawSynth_sameLo (s : State) (c : Chain) : SameLo s (s.withdrawSynth c) := by
  unfold State.withdrawSynth
  split
  · exact .refl s
  · dsimp only
    split
    · exact .refl s
    · exact (setProtection_sameLo ..).trans (setProtection_sameLo ..)

theorem withdrawSynth_keepsBut (s : State) (c : Chain) : KeepsBut (some c) s (s.withdrawSynth c) := by
  unfold State.withdrawSynth
  split
  · exact (Keeps.refl s).but _
  · dsimp only
    split
    · exact (Keeps.refl s).but _
    · exact setPresent_decide_keepsBut ..

theorem SynContext.conditions_idem (x : SynContext) (c : ChainConditions) :
    x.conditions (x.conditions c) = x.conditions c := rfl

theorem decideProtection_present (s : State) (y : Tx) :
    ((s.decideProtection y).protection y).present = (s.protection y).present := by
  rw [State.decideProtection, State.protection_setProtection_same]
  exact (ChainProtection.decide_keeps ..).1

/-- A withdrawal leaves the chain's conditions those of its synthesizer (R83). -/
theorem withdrawSynth_conditions (s : State) (x : Tx) : (s.withdrawSynth (.tx x)).ConditionsOk x := by
  unfold State.withdrawSynth
  dsimp only
  split
  · next same => exact same
  · rw [State.ConditionsOk, decideProtection_present, State.protection_setProtection_same]
    rfl

end Sys2Proof.Machine
end

section
/-! PROOFS. The wanted LO: what a synthesizer that takes an LO, or none, keeps of its own chain and of the others. -/

namespace Sys2Proof.Machine

/-! ## Programming, power-down and the wanted LO (R73 to R76) -/

/-- Chain `c`'s controller has been given the wanted LO `lo`; no sequencer, no other wanted LO and no lane's
slot is touched. -/
structure GivesLo (c : Chain) (lo : Option Nat) (s t : State) : Prop where
  os : t.os = s.os
  slots : ∀ n, (t.lane n).slot = (s.lane n).slot
  own : (t.synth c).wanted = lo
  others : ∀ d, d ≠ c → (t.synth d).wanted = (s.synth d).wanted

theorem GivesLo.andSame {c : Chain} {lo : Option Nat} {s t u : State} (a : GivesLo c lo s t) (b : SameLo t u) :
    GivesLo c lo s u :=
  ⟨b.os.trans a.os, fun n => (b.slots n).trans (a.slots n), (b.wanted c).trans a.own, fun d apart => (b.wanted d).trans (a.others d apart)⟩

theorem SameLo.andGives {c : Chain} {lo : Option Nat} {s t u : State} (a : SameLo s t) (b : GivesLo c lo t u) :
    GivesLo c lo s u :=
  ⟨b.os.trans a.os, fun n => (b.slots n).trans (a.slots n), b.own, fun d apart => (b.others d apart).trans (a.wanted d)⟩

theorem GivesLo.sameLo {c : Chain} {s t : State} (h : GivesLo c (s.synth c).wanted s t) : SameLo s t where
  os := h.os
  slots := h.slots
  wanted d := by
    by_cases same : d = c
    · rw [same, h.own]
    · exact h.others d same

theorem setSynth_givesLo {s : State} {c : Chain} {x : SynContext} {lo : Option Nat} (own : x.wanted = lo) :
    GivesLo c lo s (s.setSynth c x) where
  os := rfl
  slots _ := rfl
  own := by rw [State.synth_setSynth_same, own]
  others d apart := by rw [State.synth_setSynth, if_neg apart]

theorem refreshWords_keeps (s : State) (c : Chain) : Keeps s (s.refreshWords c) :=
  (refreshWords_laneKeeps s c).keeps

theorem refreshWords_sameLo (s : State) (c : Chain) : SameLo s (s.refreshWords c) :=
  (refreshWords_laneKeeps s c).sameLo

theorem startProgramming_sameLo (s : State) (c : Chain) : SameLo s (s.startProgramming c) := setSynth_sameLo rfl

theorem startProgramming_keepsBut {s : State} {c : Chain}
    (ready : s.CounterSound → s.Absent c ∧ (s.synth c).NoTimers) : KeepsBut (some c) s (s.startProgramming c) :=
  setSynth_keepsBut fun k =>
    k.setSynth_absent (ready k).1 (SynContext.NoTimers.sound
      ⟨(ready k).2.settle, (ready k).2.retry, (ready k).2.audit, (ready k).2.auditing⟩ fun _ => rfl)

theorem leaveCounter_sameLo (s : State) (c : Chain) : SameLo s (s.leaveCounter c) :=
  ⟨rfl, fun _ => rfl, fun _ => rfl⟩

theorem dropCycle_sameLo (s : State) (c : Chain) : SameLo s (s.dropCycle c) := by
  refine (leaveCounter_sameLo s c).trans (setSynth_sameLo ?_)
  rfl

theorem dropCycle_absent (s : State) (c : Chain) : (s.dropCycle c).Absent c := leaveCounter_absent s c

theorem dropCycle_synth (s : State) (c : Chain) :
    (s.dropCycle c).synth c =
      { s.synth c with settle := none, audit := none, retry := none, auditing := false } :=
  State.synth_setSynth_same ..

theorem dropCycle_noTimers (s : State) (c : Chain) : ((s.dropCycle c).synth c).NoTimers := by
  rw [dropCycle_synth]
  exact ⟨rfl, rfl, rfl, rfl⟩

theorem dropCycle_keepsBut (s : State) (c : Chain) : KeepsBut (some c) s (s.dropCycle c) := by
  have left := leaveCounter_keeps s c
  refine (left.but _).trans (setSynth_keepsBut fun k => ?_)
  exact k.setSynth_absent (leaveCounter_absent s c)
    (SynContext.NoTimers.sound ⟨rfl, rfl, rfl, rfl⟩ (k.contexts c).transfer)

theorem goIdle_givesLo (s : State) (c : Chain) : GivesLo c none s (s.goIdle c) := by
  refine ((setSynth_givesLo ?_).andSame (refreshWords_sameLo ..)).andSame (withdrawSynth_sameLo ..)
  rfl

theorem goIdle_keepsBut {s : State} {c : Chain}
    (ready : s.CounterSound → s.Absent c ∧ (s.synth c).NoTimers) : KeepsBut (some c) s (s.goIdle c) := by
  refine ((setSynth_keepsBut fun k => ?_).trans ((refreshWords_keeps ..).but _)).trans (withdrawSynth_keepsBut ..)
  exact k.setSynth_absent (ready k).1 (SynContext.NoTimers.sound
    ⟨(ready k).2.settle, (ready k).2.retry, (ready k).2.audit, (ready k).2.auditing⟩ nofun)

/-- The three ways in which a new wanted LO that is not none is taken (R74). -/
theorem takeLo_cases (s : State) (c : Chain) (lo : Nat) :
    ((s.synth c).state = .idle ∧
      let s' := s.setSynth c { s.synth c with wanted := some lo, attempts := 0, state := .programming }
      s.takeLo c lo = if (s.synth c).transfer = .powerDown then s' else s'.startProgramming c) ∨
    ((s.synth c).state = .programming ∧
      s.takeLo c lo =
        if (s.synth c).transfer = .powerDown then
          s.setSynth c { s.synth c with wanted := some lo, attempts := 0 }
        else s.setSynth c { s.synth c with wanted := some lo, attempts := 0, restartPending := true }) ∨
    ((s.synth c).state ≠ .idle ∧ (s.synth c).state ≠ .programming ∧
      s.takeLo c lo =
        ((((s.dropCycle c).setSynth c
          { (s.dropCycle c).synth c with wanted := some lo, attempts := 0 }).startProgramming c).withdrawSynth
            c).startMeasurement) := by
  unfold State.takeLo
  dsimp only
  split
  · next state => exact .inl ⟨state, rfl⟩
  · next state => exact .inr (.inl ⟨state, rfl⟩)
  all_goals
    next state => exact .inr (.inr ⟨by simp [state], by simp [state], rfl⟩)

/-- The three ways in which a wanted LO of none is taken (R75). -/
theorem takeNone_cases (s : State) (c : Chain) :
    ((s.synth c).state = .idle ∧ s.takeNone c = s.setSynth c { s.synth c with wanted := none }) ∨
    ((s.synth c).state = .programming ∧
      s.takeNone c =
        if (s.synth c).transfer = .powerDown then
          s.setSynth c { s.synth c with wanted := none, attempts := 0, state := .idle }
        else s.setSynth c { s.synth c with wanted := none, restartPending := true }) ∨
    ((s.synth c).state ≠ .idle ∧ (s.synth c).state ≠ .programming ∧
      s.takeNone c = ((s.dropCycle c).goIdle c).startMeasurement) := by
  unfold State.takeNone
  dsimp only
  split
  · next state => exact .inl ⟨state, rfl⟩
  · next state => exact .inr (.inl ⟨state, rfl⟩)
  all_goals
    next state => exact .inr (.inr ⟨by simp [state], by simp [state], rfl⟩)

/-- A controller in IDLE or PROGRAMMING is not at the counter and runs no timer. -/
theorem State.CounterSound.quiet {s : State} (k : s.CounterSound) {c : Chain}
    (state : (s.synth c).state = .idle ∨ (s.synth c).state = .programming) :
    s.Absent c ∧ (s.synth c).NoTimers := by
  rcases state with state | state
  all_goals
    exact ⟨k.absent (by simp [state]) (by simp [state]) (by simp [state]),
      (k.contexts c).noTimers (by simp [state]) (by simp [state]) (by simp [state])⟩

/-- What the taking of a new wanted LO keeps of the other chains, and that its own chain's conditions stay
those of its synthesizer. -/
structure TakesLo (c : Chain) (lo : Option Nat) (s t : State) : Prop where
  gives : GivesLo c lo s t
  keeps : KeepsBut (some c) s t
  conditions : s.CounterSound → ∀ x, c = .tx x → s.ConditionsOk x → t.ConditionsOk x

/-- A write of a quiet controller that neither fails nor loses its synthesizer. -/
theorem setSynth_takesLo {s : State} {c : Chain} {x : SynContext} {lo : Option Nat} (wanted : x.wanted = lo)
    (state : (s.synth c).state = .idle ∨ (s.synth c).state = .programming)
    (timers : x.settle = (s.synth c).settle ∧ x.retry = (s.synth c).retry ∧ x.audit = (s.synth c).audit ∧
      x.auditing = (s.synth c).auditing)
    (transfer : s.CounterSound → (∃ w, x.transfer = .programming w) → x.state = .programming)
    (lost : x.lost = (s.synth c).lost) (failed : x.state ≠ .failed) :
    TakesLo c lo s (s.setSynth c x) where
  gives := setSynth_givesLo wanted
  keeps := setSynth_keepsBut fun k => by
    obtain ⟨absent, quiet⟩ := k.quiet state
    obtain ⟨settle, retry, audit, auditing⟩ := timers
    exact k.setSynth_absent absent (SynContext.NoTimers.sound ⟨settle.trans quiet.settle, retry.trans quiet.retry,
      audit.trans quiet.audit, auditing.trans quiet.auditing⟩ (transfer k))
  conditions _ y same k := by
    subst same
    rw [State.ConditionsOk, State.synth_setSynth_same]
    refine (SynContext.conditions_congr (x := s.synth (.tx y)) lost ?_).trans k
    rcases state with state | state <;> simp [state, failed]

theorem takeLo_takesLo (s : State) (c : Chain) (lo : Nat) : TakesLo c (some lo) s (s.takeLo c lo) := by
  rcases takeLo_cases s c lo with ⟨state, eq⟩ | ⟨state, eq⟩ | ⟨-, -, eq⟩
  · have step := setSynth_takesLo (s := s) (c := c)
      (x := { s.synth c with wanted := some lo, attempts := 0, state := .programming }) rfl (.inl state)
      ⟨rfl, rfl, rfl, rfl⟩ (fun _ _ => rfl) rfl nofun
    rw [eq]
    dsimp only
    split
    · exact step
    · refine ⟨step.gives.andSame (startProgramming_sameLo ..),
        step.keeps.trans (startProgramming_keepsBut fun k => k.quiet ?_), fun sound y same k => ?_⟩
      · rw [State.synth_setSynth_same]
        exact .inr rfl
      · subst same
        have k := step.conditions sound y rfl k
        rw [State.ConditionsOk, State.startProgramming, State.synth_setSynth_same] at *
        rwa [State.synth_setSynth_same] at *
  · rw [eq]
    split
    · exact setSynth_takesLo rfl (.inr state) ⟨rfl, rfl, rfl, rfl⟩ (fun _ _ => state) rfl (by simp [state])
    · exact setSynth_takesLo rfl (.inr state) ⟨rfl, rfl, rfl, rfl⟩ (fun _ _ => state) rfl (by simp [state])
  · set u := s.dropCycle c with hu
    set v := u.setSynth c { u.synth c with wanted := some lo, attempts := 0 } with hv
    have quiet : (v.synth c).NoTimers := by
      rw [hv, State.synth_setSynth_same]
      obtain ⟨settle, retry, audit, auditing⟩ := dropCycle_noTimers s c
      exact ⟨settle, retry, audit, auditing⟩
    have toV : KeepsBut (some c) s v := by
      refine (dropCycle_keepsBut s c).trans (setSynth_keepsBut fun k => ?_)
      exact k.setSynth_absent (dropCycle_absent s c) (SynContext.NoTimers.sound
        (by rw [hv, State.synth_setSynth_same] at quiet; exact quiet) (k.contexts c).transfer)
    have toW : KeepsBut (some c) s ((v.startProgramming c).withdrawSynth c) :=
      (toV.trans (startProgramming_keepsBut fun _ => ⟨dropCycle_absent s c, quiet⟩)).trans
        (withdrawSynth_keepsBut ..)
    rw [eq]
    refine ⟨?_, toW.trans ((startMeasurement_keeps _).but _), fun sound y same k => ?_⟩
    · refine ((((dropCycle_sameLo s c).andGives (setSynth_givesLo ?_)).andSame (startProgramming_sameLo ..)).andSame
        (withdrawSynth_sameLo ..)).andSame (startMeasurement_sameLo _)
      rfl
    · subst same
      exact (startMeasurement_keeps _).conditions (toW.counter sound) y nofun (withdrawSynth_conditions ..)

theorem withdraw_goIdle (s : State) (x : Tx) : (s.goIdle (.tx x)).ConditionsOk x := withdrawSynth_conditions ..

theorem takeNone_takesLo (s : State) (c : Chain) : TakesLo c none s (s.takeNone c) := by
  rcases takeNone_cases s c with ⟨state, eq⟩ | ⟨state, eq⟩ | ⟨-, -, eq⟩
  · rw [eq]
    exact setSynth_takesLo rfl (.inl state) ⟨rfl, rfl, rfl, rfl⟩ (fun k => (k.contexts c).transfer) rfl
      (by simp [state])
  · rw [eq]
    split
    · next down =>
      exact setSynth_takesLo rfl (.inr state) ⟨rfl, rfl, rfl, rfl⟩ (by simp [down]) rfl (by simp)
    · exact setSynth_takesLo rfl (.inr state) ⟨rfl, rfl, rfl, rfl⟩ (fun _ _ => state) rfl (by simp [state])
  · have toIdle : KeepsBut (some c) s ((s.dropCycle c).goIdle c) :=
      (dropCycle_keepsBut s c).trans (goIdle_keepsBut fun _ => ⟨dropCycle_absent s c, dropCycle_noTimers s c⟩)
    rw [eq]
    refine ⟨((dropCycle_sameLo s c).andGives (goIdle_givesLo ..)).andSame (startMeasurement_sameLo _),
      toIdle.trans ((startMeasurement_keeps _).but _), fun sound y same _ => ?_⟩
    subst same
    exact (startMeasurement_keeps _).conditions (toIdle.counter sound) y nofun (withdraw_goIdle ..)

theorem takeWanted_takesLo (s : State) (c : Chain) (lo : Option Nat) : TakesLo c lo s (s.takeWanted c lo) := by
  unfold State.takeWanted
  split
  · next same =>
    refine ⟨⟨rfl, fun _ => rfl, same.symm, fun _ _ => rfl⟩, (Keeps.refl s).but _, fun _ _ _ k => k⟩
  · split
    · exact takeLo_takesLo ..
    · exact takeNone_takesLo ..

/-- A receive synthesizer's wanted LO is no sequencer's. -/
theorem takeWanted_rx_keeps (s : State) (r : Rx) (lo : Option Nat) : Keeps s (s.takeWanted (.rx r) lo) := by
  obtain ⟨gives, keeps, -⟩ := takeWanted_takesLo s (.rx r) lo
  refine ⟨⟨keeps.of_rx, fun x k => ?_⟩, gives.slots⟩
  simpa only [State.SequencerOk, State.seq, gives.os, gives.others (.tx x) nofun] using k

end Sys2Proof.Machine
end

section
/-! PROOFS. The sequencers: when one may switch a PA on, what a change of state keeps, and what the Protection Unit
and the reference hand on. -/

namespace Sys2Proof.Machine

/-! ## Sequencers (R122 to R131) -/

theorem wantedOn_iff (s : State) (x : Tx) :
    s.wantedOn x = true ↔ (s.pe.active.tx.get x).enabled = true ∧ (s.protection x).level ≠ 3 ∧
      (s.protection x).lockedOut = false ∧ (s.seq x).retunePending = false := by
  simp only [State.wantedOn, State.offCauses, List.isEmpty_iff, List.append_eq_nil_iff, ite_eq_left_iff,
    ite_eq_right_iff, imp_false, Bool.not_eq_true, Bool.not_eq_false, ne_eq, List.cons_ne_nil]
  tauto

theorem tuned_iff (s : State) (x : Tx) :
    s.tuned x = true ↔ (s.synth (.tx x)).state = .verified ∧ (s.pe.active.tuningLo x).isSome ∧
      (s.synth (.tx x)).wanted = s.pe.active.tuningLo x := by
  simp [State.tuned, State.verifiedFor, State.isVerified, and_assoc]

theorem Plan.tuningLo_enabled {p : Plan} {x : Tx} (h : (p.tx.get x).enabled = true) :
    p.tuningLo x = (p.tx.get x).lo := by
  rw [Plan.tuningLo, if_pos h]

theorem level_lt_three {l : Level} (h : l ≠ 3) : l < 3 := by
  revert h
  revert l
  decide

theorem SeqState.live_of_paOn {st : SeqState} (h : st.paOn = true) : st.live = true := by
  cases st
  case rampUp | onAir | muted | rampDown => rfl
  all_goals cases h

/-- A sequencer goes on from a state with the PA off to one with it on only where R127 allows it. -/
theorem nextSeq_mayPowerUp {s : State} {x : Tx} {st : SeqState} (running : s.phase = .running)
    (next : s.nextSeq x = some st) (off : (s.seq x).state.paOn = false) (on : st.paOn = true) :
    s.MayPowerUp x := by
  unfold State.nextSeq at next
  dsimp only at next
  split at next
  case h_1 =>
    split at next
    · cases next; cases on
    · split at next
      · cases next; split at on <;> cases on
      · cases next
  case h_2 =>
    split at next
    · cases next; cases on
    · split at next
      · cases next; cases on
      · split at next
        · cases next; cases on
        · cases next
  case h_3 state =>
    split at next
    · cases next; split at on <;> cases on
    · next wanted =>
      split at next
      · next ready =>
        rw [Bool.not_eq_true', Bool.not_eq_false, wantedOn_iff] at wanted
        obtain ⟨enabled, level, lockedOut, -⟩ := wanted
        rw [Bool.and_eq_true, tuned_iff, Plan.tuningLo_enabled enabled] at ready
        obtain ⟨settled, verified, -, lo⟩ := ready
        exact ⟨running, ⟨state, settled⟩, enabled, verified, lo, level_lt_three level, lockedOut⟩
      · cases next
  case h_8 => cases next
  case h_9 =>
    split at next
    · cases next
    · cases next; cases on
  all_goals
    next state => rw [state] at off; cases off

theorem setSeq_seq (s : State) (y : Tx) (q : Sequencer) (x : Tx) :
    (s.setSeq y q).seq x = if x = y then q else s.seq x := State.seq_setSeq ..

/-- A write of one sequencer that leaves its state and its drive as they are. -/
theorem setSeq_keepsBut {s : State} {y : Tx} {q : Sequencer} (state : q.state = (s.seq y).state)
    (settled : q.driveSettled = (s.seq y).driveSettled)
    (discharge : q.dischargeTimer = (s.seq y).dischargeTimer) : KeepsBut none s (s.setSeq y q) := by
  have same (x) : ((s.setSeq y q).seq x).state = (s.seq x).state := by
    rw [setSeq_seq]
    split
    · next eq => rw [state, eq]
    · rfl
  refine { Keeps.refl s with
    off := fun _ x k => ⟨(same x).trans k.1, ?_⟩
    ready := fun x k => ?_
    verified := fun _ x _ _ _ k => ⟨k, rfl⟩
    powerUp := fun _ x _ before after => ?_
    counter := fun k => ⟨k.contexts, k.nodup, k.queued, k.measured⟩ }
  · rw [setSeq_seq]
    split
    · next eq => rw [discharge, ← eq, k.2]
    · exact k.2
  · obtain ⟨at_, drive⟩ := k
    refine ⟨(same x).symm.trans at_, ?_⟩
    rw [setSeq_seq] at drive
    split at drive
    · next eq => rw [eq, ← settled, drive]
    · exact drive
  · rw [same, before] at after
    exact absurd after Bool.false_ne_true

theorem setSeq_keeps {s : State} {y : Tx} {q : Sequencer} (state : q.state = (s.seq y).state)
    (settled : q.driveSettled = (s.seq y).driveSettled)
    (discharge : q.dischargeTimer = (s.seq y).dischargeTimer) (handedOver : q.handedOver = (s.seq y).handedOver)
    (sound : (s.seq y).Sound → q.Sound) : Keeps s (s.setSeq y q) := by
  refine ⟨⟨setSeq_keepsBut state settled discharge, fun x k => ?_⟩, fun _ => rfl⟩
  by_cases same : x = y
  · subst same
    rw [State.SequencerOk, State.seq_setSeq_same]
    exact ⟨sound k.1, handedOver.trans k.2⟩
  · rw [State.SequencerOk, setSeq_seq, if_neg same]
    exact k

theorem takeWanted_seq (s : State) (c : Chain) (lo : Option Nat) (x : Tx) :
    (s.takeWanted c lo).seq x = s.seq x := by
  simp only [State.seq, (takeWanted_takesLo s c lo).gives.os]

theorem handOver_seq (s : State) (y x : Tx) :
    (s.handOver y).seq x =
      if x = y then { s.seq y with handedOver := s.pe.active.tuningLo y, retunePending := false }
      else s.seq x :=
  (takeWanted_seq ..).trans (setSeq_seq ..)

/-- The LO handed over is the synthesizer's wanted LO (R124). -/
theorem handOver_wanted (s : State) (y : Tx) :
    ((s.handOver y).synth (.tx y)).wanted = s.pe.active.tuningLo y :=
  (takeWanted_takesLo ..).gives.own

theorem handOver_slots (s : State) (y : Tx) (n : Slot) : ((s.handOver y).lane n).slot = (s.lane n).slot :=
  (takeWanted_takesLo ..).gives.slots n

/-- A hand-over keeps the invariants, whatever the state of the chain; the sequencers are stated for apart. -/
theorem handOver_keepsState (s : State) (y : Tx) : KeepsState none s (s.handOver y) := by
  set u := s.setSeq y { s.seq y with handedOver := s.pe.active.tuningLo y, retunePending := false } with hu
  have toU : KeepsBut none s u := setSeq_keepsBut rfl rfl rfl
  obtain ⟨-, keeps, conditions⟩ := takeWanted_takesLo u (.tx y) (s.pe.active.tuningLo y)
  refine toU.toKeepsState.trans { keeps with conditions := fun sound x _ k => ?_ }
  by_cases same : x = y
  · exact conditions sound x (same ▸ rfl) k
  · exact keeps.conditions sound x (by simpa using Ne.symm same) k

/-- A hand-over by a chain whose PA is off. -/
theorem handOver_keepsBut {s : State} {y : Tx} (off : (s.seq y).state.paOn = false) :
    KeepsBut none s (s.handOver y) := by
  have off' : ((s.handOver y).seq y).state.paOn = false := by
    rw [handOver_seq, if_pos rfl]
    exact off
  have keeps := (takeWanted_takesLo (s.setSeq y { s.seq y with
    handedOver := s.pe.active.tuningLo y, retunePending := false }) (.tx y) (s.pe.active.tuningLo y)).keeps
  have toU : KeepsBut none s (s.setSeq y { s.seq y with
    handedOver := s.pe.active.tuningLo y, retunePending := false }) := setSeq_keepsBut rfl rfl rfl
  have apart {x : Tx} (other : x ≠ y) : some (Chain.tx y) ≠ some (.tx x) := by simpa using Ne.symm other
  have same_seq {x : Tx} (other : x ≠ y) : (s.setSeq y { s.seq y with
      handedOver := s.pe.active.tuningLo y, retunePending := false }).seq x = s.seq x :=
    (setSeq_seq ..).trans (if_neg other)
  refine ⟨handOver_keepsState s y, fun sound x _ before after k => ?_, fun sound x _ before after => ?_⟩
  · have other : x ≠ y := by
      rintro rfl
      exact absurd (off'.symm.trans after) Bool.false_ne_true
    exact keeps.verified (toU.counter sound) x (apart other) (by rwa [same_seq other]) after k
  · have other : x ≠ y := by
      rintro rfl
      exact absurd (off'.symm.trans after) Bool.false_ne_true
    obtain ⟨running, ready, rest⟩ :=
      keeps.powerUp (toU.counter sound) x (apart other) (by rwa [same_seq other]) after
    exact ⟨running, toU.ready x ready, rest⟩

theorem handOver_sequencer_other {s : State} {x y : Tx} (apart : x ≠ y) (k : s.SequencerOk x) :
    (s.handOver y).SequencerOk x := by
  have wanted : ((s.handOver y).synth (.tx x)).wanted = (s.synth (.tx x)).wanted :=
    (takeWanted_takesLo _ (.tx y) _).gives.others (.tx x) (by simpa using apart)
  rw [State.SequencerOk, handOver_seq, if_neg apart, wanted]
  exact k

/-- A hand-over leaves its own sequencer sound too (R124). -/
theorem handOver_sequencer {s : State} {x : Tx} (y : Tx) (k : s.SequencerOk x) : (s.handOver y).SequencerOk x := by
  by_cases same : x = y
  · subst same
    obtain ⟨⟨settle, settled, waits, discharge, -, runDown⟩, -⟩ := k
    rw [State.SequencerOk, handOver_seq, if_pos rfl, handOver_wanted]
    exact ⟨⟨settle, settled, waits, discharge, nofun, runDown⟩, rfl⟩
  · exact handOver_sequencer_other same k

theorem handOver_keeps {s : State} {y : Tx} (off : (s.seq y).state.paOn = false) : Keeps s (s.handOver y) :=
  ⟨⟨handOver_keepsBut off, fun _ => handOver_sequencer y⟩, handOver_slots s y⟩

/-! ### A change of state (R122) -/

/-- The sequencer enters the state, and hands its tuning LO over where it leaves the live states (R124). -/
def State.entered (s : State) (y : Tx) (st : SeqState) : State :=
  let s' := (s.setSeq y (s.enterSeq y st)).notifyBoth .chainChanged
  if (s.seq y).state.live && !st.live then s'.handOver y else s'

/-- The rest of a change of state reaches lanes alone. -/
theorem entered_moveSeq (s : State) (y : Tx) (st : SeqState) : LaneKeeps (s.entered y st) (s.moveSeq y st) := by
  unfold State.moveSeq
  dsimp only
  refine LaneKeeps.trans ?_ (decideLanes_laneKeeps ..)
  split
  · exact clearPhases_laneKeeps ..
  · exact .refl _

theorem enterSeq_state (s : State) (y : Tx) (st : SeqState) : (s.enterSeq y st).state = st := rfl

/-- The context of a state just entered is sound, with any LO handed over, where a retune is pending in live
states alone. -/
theorem enterSeq_sound (s : State) (y : Tx) {st : SeqState} (lo : Option Nat) {pending : Bool}
    (retune : pending = true → st.live = true) :
    Sequencer.Sound { s.enterSeq y st with handedOver := lo, retunePending := pending } where
  settle running := by
    simp only [State.enterSeq] at running ⊢
    by_contra other
    rw [if_neg other] at running
    cases running
  settled := nofun
  waits entered _ := by
    simp only [State.enterSeq] at entered ⊢
    rw [if_pos entered]
    rfl
  discharge := by
    simp only [State.enterSeq]
    split <;> simp_all [State.afterSteps]
  retune := retune
  runDown down := by
    simp only [State.enterSeq, Bool.and_eq_true, beq_iff_eq] at down
    exact .inr down.2

/-- The state of sequencer `y` written, with its notice. -/
def State.written (s : State) (y : Tx) (st : SeqState) : State :=
  (s.setSeq y (s.enterSeq y st)).notifyBoth .chainChanged

theorem written_seq (s : State) (y x : Tx) (st : SeqState) :
    (s.written y st).seq x = if x = y then s.enterSeq y st else s.seq x := setSeq_seq ..

/-- The two ways of a change of state: with the hand-over, where a live state gives way to another, and
without. -/
theorem entered_cases (s : State) (y : Tx) (st : SeqState) :
    ((s.seq y).state.live = true ∧ st.live = false ∧ s.entered y st = (s.written y st).handOver y) ∨
      (((s.seq y).state.live = true → st.live = true) ∧ s.entered y st = s.written y st) := by
  unfold State.entered
  dsimp only
  split
  · next left =>
    rw [Bool.and_eq_true, Bool.not_eq_true'] at left
    exact .inl ⟨left.1, left.2, rfl⟩
  · next stays =>
    refine .inr ⟨fun up => ?_, rfl⟩
    simpa [up] using stays

theorem entered_seq_other (s : State) {x y : Tx} (st : SeqState) (apart : x ≠ y) :
    (s.entered y st).seq x = s.seq x := by
  rcases entered_cases s y st with ⟨-, -, eq⟩ | ⟨-, eq⟩
  · rw [eq, handOver_seq, if_neg apart, written_seq, if_neg apart]
  · rw [eq, written_seq, if_neg apart]

theorem entered_seq_state (s : State) (y : Tx) (st : SeqState) :
    ((s.entered y st).seq y).state = st ∧ ((s.entered y st).seq y).driveSettled = false := by
  rcases entered_cases s y st with ⟨-, -, eq⟩ | ⟨-, eq⟩
  · rw [eq, handOver_seq, if_pos rfl, written_seq, if_pos rfl]
    exact ⟨rfl, rfl⟩
  · rw [eq, written_seq, if_pos rfl]
    exact ⟨rfl, rfl⟩

theorem entered_sequencer {s : State} {y : Tx} (st : SeqState) {x : Tx} (k : s.SequencerOk x) :
    (s.entered y st).SequencerOk x := by
  obtain ⟨sound, handed⟩ := k
  have writtenOther (apart : x ≠ y) : (s.written y st).SequencerOk x := by
    rw [State.SequencerOk, written_seq, if_neg apart]
    exact ⟨sound, handed⟩
  rcases entered_cases s y st with ⟨-, -, eq⟩ | ⟨stays, eq⟩
  · rw [eq]
    by_cases same : x = y
    · subst same
      rw [State.SequencerOk, handOver_seq, if_pos rfl, handOver_wanted, written_seq, if_pos rfl]
      exact ⟨enterSeq_sound s x _ nofun, rfl⟩
    · exact handOver_sequencer_other same (writtenOther same)
  · rw [eq]
    by_cases same : x = y
    · subst same
      rw [State.SequencerOk, written_seq, if_pos rfl]
      exact ⟨enterSeq_sound s x _ fun pending => stays (sound.retune pending), handed⟩
    · exact writtenOther same

/-- A write of the state alone, into a state that may be entered. -/
theorem written_keepsBut {s : State} {y : Tx} {st : SeqState}
    (runs : s.phase ≠ .running → s.Rests y → st = .off)
    (power : (s.seq y).state.paOn = false → st.paOn = true → s.MayPowerUp y) :
    KeepsBut none s (s.written y st) := by
  have same {P : Sequencer → Prop} {x : Tx} (k : P ((s.written y st).seq x)) (apart : x ≠ y) : P (s.seq x) := by
    rwa [written_seq, if_neg apart] at k
  refine { Keeps.refl s with
    counter := fun k => ⟨k.contexts, k.nodup, k.queued, k.measured⟩
    off := fun held x k => ?_
    ready := fun x k => ?_
    verified := fun _ x _ _ _ k => ⟨k, rfl⟩
    powerUp := fun _ x _ before after => ?_ }
  · rw [State.Rests, written_seq]
    split
    · next eq =>
      obtain rfl := runs held (eq ▸ k)
      exact ⟨rfl, rfl⟩
    · exact k
  · rw [State.DriveReady, written_seq] at k
    split at k
    · exact absurd k.2 Bool.false_ne_true
    · exact k
  · rw [written_seq] at after
    split at after
    · next eq =>
      subst eq
      obtain ⟨running, ready, enabled, verified, wanted, level, lockedOut⟩ := power before after
      exact ⟨running, ready, enabled, verified, wanted, level, lockedOut⟩
    · rw [before] at after
      exact absurd after Bool.false_ne_true

theorem entered_slots (s : State) (y : Tx) (st : SeqState) (n : Slot) :
    ((s.entered y st).lane n).slot = (s.lane n).slot := by
  rcases entered_cases s y st with ⟨-, -, eq⟩ | ⟨-, eq⟩ <;> rw [eq]
  · exact handOver_slots ..
  · rfl

theorem moveSeq_keeps {s : State} {y : Tx} {st : SeqState}
    (runs : s.phase ≠ .running → s.Rests y → st = .off)
    (power : (s.seq y).state.paOn = false → st.paOn = true → s.MayPowerUp y) : Keeps s (s.moveSeq y st) := by
  refine Keeps.trans ⟨⟨?_, fun x k => entered_sequencer st k⟩, entered_slots s y st⟩ (entered_moveSeq ..).keeps
  rcases entered_cases s y st with ⟨-, down, eq⟩ | ⟨-, eq⟩
  · have off : ((s.written y st).seq y).state.paOn = false := by
      rw [written_seq, if_pos rfl]
      by_contra on
      rw [SeqState.live_of_paOn (Bool.not_eq_false _ ▸ on)] at down
      cases down
    rw [eq]
    exact (written_keepsBut runs power).trans (handOver_keepsBut off)
  · rw [eq]
    exact written_keepsBut runs power

theorem settleSeq_keeps {s : State} (fuel : Nat) (y : Tx) (running : s.phase = .running) :
    Keeps s (State.settleSeq fuel s y) := by
  induction fuel generalizing s with
  | zero => exact .refl s
  | succ fuel ih =>
    unfold State.settleSeq
    split
    · exact .refl s
    · next st next =>
      have moved : Keeps s (s.moveSeq y st) := moveSeq_keeps (fun held => absurd running held)
        fun off on => nextSeq_mayPowerUp running next off on
      exact moved.trans (ih (moved.phase.trans running))

theorem decideSeq_keeps (s : State) (y : Tx) : Keeps s (s.decideSeq y) := by
  unfold State.decideSeq
  split
  · next running => exact settleSeq_keeps 4 y running
  · exact .refl s

theorem decideAllSeq_keeps (s : State) : Keeps s s.decideAllSeq :=
  foldl_related .refl .trans decideSeq_keeps _ s

theorem seqSynthLost_keeps (s : State) (y : Tx) : Keeps s (s.seqSynthLost y) := by
  unfold State.seqSynthLost
  dsimp only
  split
  · next airborne =>
    have seq_eq : (s.fastMuteChain y).seq y = s.seq y := (fastMuteChain_frame s y).untouched.seq_eq y
    refine ((fastMuteChain_laneKeeps ..).keeps.trans (moveSeq_keeps (fun _ off => ?_) fun off _ => ?_)).trans
      (decideSeq_keeps ..)
    · have state := off.1
      rw [seq_eq] at state
      simp [state] at airborne
    · rw [seq_eq] at off
      rcases airborne with state | state | state <;> rw [state] at off <;> cases off
  · exact .refl s

/-! ## What is handed on (R141 to R146) -/

theorem tellChange_keeps (s : State) (b : Bool) : Keeps s (s.tellChange b) := by
  unfold State.tellChange
  split
  · exact notifyBoth_keeps ..
  · exact .refl s

theorem tellLockout_keeps (s : State) (b : Bool) : Keeps s (s.tellLockout b) := by
  unfold State.tellLockout
  split
  · exact (requestWrite_keeps ..).trans (probationFailure_keeps _)
  · exact .refl s

theorem tellChain_keeps (s : State) (y : Tx) (b : Bool) : Keeps s (s.tellChain y b) := by
  unfold State.tellChain
  split
  · exact (decideLanes_laneKeeps ..).keeps.trans (decideSeq_keeps ..)
  · exact .refl s

theorem handProtection_keeps (b s : State) (y : Tx) : Keeps s (State.handProtection b s y) :=
  ((tellChange_keeps ..).trans (tellLockout_keeps ..)).trans (tellChain_keeps ..)

theorem protect_keeps (s : State) (y : Tx) : Keeps s (s.protect y) :=
  (decideProtection_keeps ..).trans (handProtection_keeps ..)

theorem protect_level (s : State) (y : Tx) : (s.protect y).LevelOk y :=
  (handProtection_keeps ..).level y (decideProtection_level ..)

/-- Once every chain has been decided again every chain's S is what it is. -/
theorem protectAll_level (s : State) (x : Tx) : (allTx.foldl State.protect s).LevelOk x := by
  have later {u v : State} (h : Keeps u v) (k : u.LevelOk x) : v.LevelOk x := h.level x k
  simp only [allTx, List.foldl_cons, List.foldl_nil]
  cases x
  · exact later (protect_keeps ..) (later (protect_keeps ..) (later (protect_keeps ..) (protect_level ..)))
  · exact later (protect_keeps ..) (later (protect_keeps ..) (protect_level ..))
  · exact later (protect_keeps ..) (protect_level ..)
  · exact protect_level ..

theorem protectAll_keeps (s : State) : Keeps s (allTx.foldl State.protect s) :=
  foldl_related .refl .trans protect_keeps _ s

theorem setDevice_keeps (s : State) (d : DeviceConditions) : Keeps s (s.setDevice d) := by
  unfold State.setDevice
  split
  · exact .refl s
  · have rest := protectAll_keeps { s with pu := { s.pu with device := d } }
    exact { rest with
      level := fun x _ => protectAll_level _ x
      counter := fun k => rest.counter ⟨k.contexts, k.nodup, k.queued, k.measured⟩
      conditions := fun k => rest.conditions ⟨k.contexts, k.nodup, k.queued, k.measured⟩
      verified := fun k => rest.verified ⟨k.contexts, k.nodup, k.queued, k.measured⟩
      powerUp := fun k => rest.powerUp ⟨k.contexts, k.nodup, k.queued, k.measured⟩ }

/-- A present set replaced and handed on, the conditions of the chain's own synthesizer aside. -/
theorem setPresent_keeps {s : State} {y : Tx} {c : ChainConditions}
    (conditions : s.ConditionsOk y → (s.synth (.tx y)).conditions c = c) : Keeps s (s.setPresent y c) := by
  unfold State.setPresent
  split
  · exact .refl s
  · refine Keeps.trans ?_ (handProtection_keeps ..)
    have decided := setPresent_decide_keepsBut s y c
    refine Keeps.of_sameLo ?_ ((setProtection_sameLo ..).trans (setProtection_sameLo ..))
    exact { decided with
      conditions := fun sound x _ k => by
        by_cases same : x = y
        · subst same
          rw [State.ConditionsOk, decideProtection_present, State.protection_setProtection_same]
          exact conditions k
        · exact decided.conditions sound x (by simpa using Ne.symm same) k
      verified := fun _ x _ _ _ k => ⟨k, rfl⟩
      powerUp := fun _ x _ before after => absurd (before.symm.trans after) Bool.false_ne_true }

theorem reportSynth_keeps (s : State) (c : Chain) : Keeps s (s.reportSynth c) := by
  unfold State.reportSynth
  split
  · exact .refl s
  · exact setPresent_keeps fun _ => SynContext.conditions_idem ..

/-- A report leaves the chain's conditions those of its synthesizer (R83). -/
theorem reportSynth_conditions {s : State} (sound : s.CounterSound) (x : Tx) :
    (s.reportSynth (.tx x)).ConditionsOk x := by
  unfold State.reportSynth State.setPresent
  dsimp only
  split
  · next same => exact same
  · refine (handProtection_keeps ..).conditions ?_ x nofun ?_
    · exact ⟨sound.contexts, sound.nodup, sound.queued, sound.measured⟩
    · rw [State.ConditionsOk, decideProtection_present, State.protection_setProtection_same]
      rfl

theorem leftVerified_keeps (s : State) (c : Chain) : Keeps s (s.leftVerified c) := by
  unfold State.leftVerified
  split
  · exact (((foldl_related .refl .trans fastMute_laneKeeps _ s).keeps.trans (soilProbe_keeps ..)).trans
      (decideLanes_laneKeeps ..).keeps).trans (decideAllSeq_keeps _)
  · exact seqSynthLost_keeps ..

theorem enteredVerified_keeps (s : State) (c : Chain) : Keeps s (s.enteredVerified c) := by
  unfold State.enteredVerified
  split
  · exact (decideLanes_laneKeeps ..).keeps
  · exact decideSeq_keeps ..

theorem takeRxLo_keeps (s : State) (r : Rx) : Keeps s (s.takeRxLo r) := by
  unfold State.takeRxLo
  dsimp only
  split
  · exact (takeWanted_rx_keeps ..).trans (leftVerified_keeps ..)
  · exact takeWanted_rx_keeps ..

theorem setReference_keeps (s : State) (st : RefState) : Keeps s (s.setReference st) := by
  unfold State.setReference
  dsimp only
  have base : Keeps s ({ s with ref := s.enterReference st }.notifyBoth .referenceChanged) :=
    Untouched.keeps ⟨rfl, rfl, rfl, rfl, rfl, rfl⟩ fun _ => rfl
  have spoiled : Keeps s (if st = .absent then
      ({ s with ref := s.enterReference st }.notifyBoth .referenceChanged).spoilMeasurement
      else { s with ref := s.enterReference st }.notifyBoth .referenceChanged) := by
    split
    · exact base.trans (spoilMeasurement_keeps _)
    · exact base
  split
  · exact (spoiled.trans (setDevice_keeps ..)).trans (startMeasurement_keeps _)
  · exact spoiled.trans (setDevice_keeps ..)

theorem moveReference_keeps (s : State) (st : RefState) : Keeps s (s.moveReference st) := by
  unfold State.moveReference
  split
  · exact .refl s
  · exact setReference_keeps ..

end Sys2Proof.Machine
end

section
/-! PROOFS. The Plan Engine: what each change of it keeps of the grant, the probation and the history. -/

namespace Sys2Proof.Machine

/-! ## The Plan Engine (for O4, O5 and O8) -/

/-- Outside running nothing is active, pending or on probation (R161). -/
def State.Blank (s : State) : Prop :=
  s.phase ≠ .running → s.pe.pendingApply = none ∧ s.pe.status = .settled ∧
    ∀ n, s.pe.active.slots.get n = none

/-- The Plan Engine's invariants go from `s` to `t`. -/
structure PlanKeeps (s t : State) : Prop where
  grant : s.GrantSound → t.GrantSound
  probation : s.ProbationSound → t.ProbationSound
  history : s.HistorySound → s.RevertSound → t.HistorySound ∧ t.RevertSound
  blank : s.Blank → t.Blank

theorem PlanKeeps.refl (s : State) : PlanKeeps s s := ⟨id, id, And.intro, id⟩

theorem PlanKeeps.trans {s t u : State} (a : PlanKeeps s t) (b : PlanKeeps t u) : PlanKeeps s u where
  grant k := b.grant (a.grant k)
  probation k := b.probation (a.probation k)
  history h r := b.history (a.history h r).1 (a.history h r).2
  blank k := b.blank (a.blank k)

theorem PlanKeeps.of_eq {s t : State} (phase : t.phase = s.phase) (pe : t.pe = s.pe) : PlanKeeps s t := by
  refine ⟨fun k => ?_, fun k => ?_, fun h r => ⟨?_, ?_⟩, fun k => ?_⟩
  · simpa only [State.GrantSound, pe] using k
  · simpa only [State.ProbationSound, pe] using k
  · simpa only [State.HistorySound, pe] using h
  · simpa only [State.RevertSound, pe] using r
  · simpa only [State.Blank, pe, phase] using k

theorem PlanEngine.pendingPlan_revert {e : PlanEngine} {p : PendingApply}
    (pending : e.pendingApply = some p) (revert : p.change = .revert) : e.pendingPlan = e.entry 0 := by
  unfold PlanEngine.pendingPlan
  rw [pending, PlanEngine.entry_zero]
  dsimp only
  rw [revert]

theorem PlanEngine.pendingPlan_commit {e : PlanEngine} {plan : Plan} {p : PendingApply}
    (pending : e.pendingApply = some p) (commit : p.change = .commit plan) : e.pendingPlan = some plan := by
  unfold PlanEngine.pendingPlan
  rw [pending]
  dsimp only
  rw [commit]

/-- A probation failure leaves a REVERT pending, and the history as it was (R55). -/
theorem PlanEngine.failProbation_pending (e : PlanEngine) :
    ∃ p, e.failProbation.pendingApply = some p ∧ p.change = .revert := by
  unfold PlanEngine.failProbation
  dsimp only
  split
  · exact ⟨_, rfl, rfl⟩
  · next p _ =>
    split
    · exact ⟨_, rfl, rfl⟩
    · next revert => exact ⟨p, rfl, revert⟩

/-- A change of the Plan Engine that leaves the history where it is. -/
theorem PlanKeeps.of_history {s t : State} (phase : t.phase = s.phase)
    (history : t.pe.history = s.pe.history ∧ t.pe.top = s.pe.top) (active : t.pe.active = s.pe.active)
    (grant : s.GrantSound → t.GrantSound) (probation : s.ProbationSound → t.ProbationSound)
    (status : t.pe.status = .onProbation → s.pe.status = .onProbation)
    (revert : s.HistorySound → s.RevertSound → t.pe.pendingPlan = none → t.pe.pendingApply = none)
    (blank : s.phase ≠ .running → s.pe.pendingApply = none → s.pe.status = .settled →
      t.pe.pendingApply = none ∧ t.pe.status = .settled) : PlanKeeps s t := by
  have entry (k) : t.pe.entry k = s.pe.entry k := by simp only [PlanEngine.entry, history.1, history.2]
  refine ⟨grant, probation, fun h r => ⟨?_, fun on => ?_, revert h r⟩, fun k held => ?_⟩
  · simpa only [State.HistorySound, entry] using h
  · rw [entry]
    exact r.1 (status on)
  · rw [phase] at held
    obtain ⟨pending, settled, slots⟩ := k held
    obtain ⟨pending', settled'⟩ := blank held pending settled
    exact ⟨pending', settled', by rwa [active]⟩

/-- The Plan Engine is as it was, or has taken a probation failure (R55). -/
theorem PlanKeeps.of_failProbation {s t : State} (phase : t.phase = s.phase)
    (pe : t.pe = s.pe ∨ (s.pe.status = .onProbation ∧ t.pe = s.pe.failProbation)) : PlanKeeps s t := by
  rcases pe with same | ⟨on, failed⟩
  · exact .of_eq phase same
  · obtain ⟨p, pending, revert⟩ := s.pe.failProbation_pending
    refine .of_history phase (by rw [failed]; exact ⟨rfl, rfl⟩) (by rw [failed]; rfl) (fun k => ?_) (fun _ => ?_)
      (by rw [failed]; nofun) (fun _ r none => ?_) fun _ _ settled => ?_
    · rw [State.GrantSound, failed]
      exact k
    · rw [State.ProbationSound, failed]
      simp [PlanEngine.failProbation]
    · rw [failed, PlanEngine.pendingPlan_revert pending revert] at none
      have top := r.1 on
      rw [show s.pe.failProbation.entry 0 = s.pe.entry 0 from rfl] at none
      rw [none] at top
      cases top
    · rw [on] at settled
      cases settled

theorem RefFrame.planKeeps {s t : State} (h : RefFrame s t) : PlanKeeps s t := .of_failProbation h.phase h.pe

theorem PlanEngine.entry_commitApply (e : PlanEngine) (p : PendingApply) (plan : Plan) (now mark : Nat) :
    (e.commitApply p plan now mark).entry 0 = some e.active ∧
      ∀ k : Fin 3, (e.commitApply p plan now mark).entry k.succ = e.entry k.castSucc := by
  have apart : ∀ (top : Fin 4) (k : Fin 3),
      (top - 1).val ≠ (top - 1 + k.succ).val ∧ top - 1 + k.succ = top + k.castSucc := by decide
  constructor
  · simp [PlanEngine.entry, PlanEngine.commitApply]
  · intro k
    simp only [PlanEngine.entry, PlanEngine.commitApply]
    rw [Vector.getElem_set_ne _ _ (apart e.top k).1]
    simp only [(apart e.top k).2]

theorem PlanEngine.entry_revertApply (e : PlanEngine) (p : PendingApply) (plan : Plan) (mark : Nat) :
    (e.revertApply p plan mark).entry 3 = none ∧
      ∀ k : Fin 3, (e.revertApply p plan mark).entry k.castSucc = e.entry k.succ := by
  have apart : ∀ (top : Fin 4) (k : Fin 3),
      top.val ≠ (top + 1 + k.castSucc).val ∧ top + 1 + k.castSucc = top + k.succ ∧ top + 1 + 3 = top := by decide
  constructor
  · simp [PlanEngine.entry, PlanEngine.revertApply, (apart e.top 0).2.2]
  · intro k
    simp only [PlanEngine.entry, PlanEngine.revertApply]
    rw [Vector.getElem_set_ne _ _ (apart e.top k).1]
    simp only [(apart e.top k).2.1]

/-- A COMMIT-kind apply (R47): the push leaves the outgoing plan at TOP. -/
theorem PlanKeeps.of_commitApply {s t : State} {p : PendingApply} {plan : Plan} {now mark : Nat}
    (phase : t.phase = s.phase) (pending : s.pe.pendingApply = some p)
    (pe : t.pe = s.pe.commitApply p plan now mark) : PlanKeeps s t := by
  obtain ⟨top, rest⟩ := s.pe.entry_commitApply p plan now mark
  refine ⟨fun k => ?_, fun _ => ?_, fun h _ => ⟨fun k empty => ?_, fun _ => ?_, fun _ => ?_⟩, fun k held => ?_⟩
  · rw [State.GrantSound, pe]
    exact k
  · rw [State.ProbationSound, pe]
    simp only [PlanEngine.commitApply]
    split <;> simp
  · rw [pe] at empty ⊢
    cases k using Fin.cases with
    | zero =>
      rw [show (0 : Fin 3).castSucc = 0 from rfl, top] at empty
      cases empty
    | succ j =>
      rw [rest]
      rw [show j.succ.castSucc = (j.castSucc).succ from rfl, rest] at empty
      exact h j.castSucc empty
  · rw [pe, top]
    rfl
  · rw [pe]
    rfl
  · rw [phase] at held
    rw [(k held).1] at pending
    cases pending

/-- A REVERT-kind apply (R48). -/
theorem PlanKeeps.of_revertApply {s t : State} {p : PendingApply} {plan : Plan} {mark : Nat}
    (phase : t.phase = s.phase) (pending : s.pe.pendingApply = some p)
    (pe : t.pe = s.pe.revertApply p plan mark) : PlanKeeps s t := by
  obtain ⟨last, rest⟩ := s.pe.entry_revertApply p plan mark
  refine ⟨fun k => ?_, fun _ => ?_, fun h _ => ⟨fun k empty => ?_, fun on => ?_, fun _ => ?_⟩, fun k held => ?_⟩
  · rw [State.GrantSound, pe]
    exact k
  · rw [State.ProbationSound, pe]
    simp [PlanEngine.revertApply]
  · rw [pe] at empty ⊢
    cases k using Fin.lastCases with
    | last => exact last
    | cast j =>
      rw [show j.castSucc.succ = (j.succ).castSucc from rfl, rest]
      rw [rest] at empty
      exact h j.succ empty
  · rw [pe] at on
    cases on
  · rw [pe]
    rfl
  · rw [phase] at held
    rw [(k held).1] at pending
    cases pending

/-- A reset leaves the Plan Engine empty (R35, R159). -/
theorem PlanKeeps.of_reset {s t : State} (pe : t.pe = State.reset.pe) : PlanKeeps s t := by
  refine ⟨fun _ => ?_, fun _ => ?_, fun _ _ => ⟨fun k _ => ?_, fun on => ?_, fun _ => ?_⟩, fun _ _ => ?_⟩
  · rw [State.GrantSound, pe]; rfl
  · rw [State.ProbationSound, pe]; decide
  · rw [pe]
    exact (show ∀ k, State.reset.pe.entry k = none by decide) _
  · rw [pe] at on; cases on
  · rw [pe]; rfl
  · rw [pe]
    exact ⟨rfl, rfl, by decide⟩

end Sys2Proof.Machine
end

section
/-! PROOFS. The Input Supervisor and the apply: what a new plan handed to the blocks keeps, and the slots the lanes
take. -/

namespace Sys2Proof.Machine

/-! ## The Input Supervisor -/

theorem changeInput_keeps (s : State) (n : Slot) (i : InputRecord) : Keeps s (s.changeInput n i) := by
  unfold State.changeInput
  dsimp only
  refine Keeps.trans ?_ (startVisit_keeps _)
  have written : Keeps s ((s.setInput n i).notifyBoth .inputChangeover) :=
    (setInput_laneKeeps ..).keeps.trans (notifyBoth_keeps ..)
  have marked (u : State) (b : Bool) (h : Keeps s u) : Keeps s (if b = true then u.markWindow n else u) := by
    split
    · exact h.trans (markWindow_laneKeeps ..).keeps
    · exact h
  have muted (u : State) (b : Bool) (h : Keeps s u) : Keeps s (if b = true then u.fastMute n else u) := by
    split
    · exact h.trans (fastMute_laneKeeps ..).keeps
    · exact h
  have decided (u : State) (b : Bool) (h : Keeps s u) : Keeps s (if b = true then u.decideAllSeq else u) := by
    split
    · exact h.trans (decideAllSeq_keeps _)
    · exact h
  exact decided _ _ ((muted _ _ (marked _ _ written)).trans (decideLanes_laneKeeps ..).keeps)

theorem countLow_keeps (s : State) (n : Slot) (i : InputRecord) (live : InputState) (fb : Bool) :
    Keeps s (s.countLow n i live fb) := by
  unfold State.countLow
  split
  · exact (setInput_laneKeeps ..).keeps
  · exact (setInput_laneKeeps ..).keeps
  · dsimp only
    split
    · exact (setInput_laneKeeps ..).keeps
    · split <;> exact changeInput_keeps ..

theorem countGood_keeps (s : State) (n : Slot) (i : InputRecord) : Keeps s (s.countGood n i) := by
  unfold State.countGood
  split
  · exact (setInput_laneKeeps ..).keeps
  · exact (setInput_laneKeeps ..).keeps
  · dsimp only
    split
    · exact (setInput_laneKeeps ..).keeps
    · exact changeInput_keeps ..

theorem examineSlot_keeps (s : State) (n : Slot) (r : Int) : Keeps s (s.examineSlot n r) := by
  unfold State.examineSlot
  dsimp only
  split
  · split
    · exact .refl s
    · split
      · exact countLow_keeps ..
      · exact countLow_keeps ..
      · exact countGood_keeps ..
  · exact .refl s

theorem endVisit_keeps (s : State) (n : Slot) (r : VisitResult) : Keeps s (s.endVisit n r) := by
  unfold State.endVisit
  dsimp only
  split
  · exact (setInput_laneKeeps ..).keeps
  · split
    · exact (setInput_laneKeeps ..).keeps
    · exact changeInput_keeps ..

/-! ## The apply (R49) -/

theorem takeSeqFields_keeps (s : State) (y : Tx) : Keeps s (s.takeSeqFields y) := by
  refine setSeq_keeps rfl rfl rfl rfl fun ⟨settle, settled, waits, discharge, retune, runDown⟩ =>
    ⟨settle, settled, waits, discharge, fun pending => ?_, runDown⟩
  dsimp only at pending ⊢
  split at pending
  · assumption
  · exact retune pending

theorem takeAllSeqFields_keeps (s : State) : Keeps s (allTx.foldl State.takeSeqFields s) :=
  foldl_related .refl .trans takeSeqFields_keeps _ s

theorem applyInput_keeps (s : State) (n : Slot) (a b : Option SlotEntry) : Keeps s (s.applyInput n a b) := by
  unfold State.applyInput
  split
  · exact .refl s
  · exact (setInput_laneKeeps ..).keeps.trans (abandonVisit_keeps ..)
  · exact (setInput_laneKeeps ..).keeps.trans (abandonVisit_keeps ..)
  · split
    · exact .refl s
    · exact (setInput_laneKeeps ..).keeps.trans (abandonVisit_keeps ..)

/-- A lane's slot after an apply is that of the new plan, where it was that of the outgoing one (R100). -/
theorem applyLane_slot {s : State} {p : Plan} {n : Slot} (old : (s.lane n).slot = p.slots.get n) :
    ((s.applyLane p n).lane n).slot = s.pe.active.slots.get n := by
  have phase (u : State) (x : Phases) (m : Slot) : (u.setPhase n x).lane m = u.lane m := rfl
  unfold State.applyLane
  dsimp only
  cases was : p.slots.get n <;> cases new : s.pe.active.slots.get n
  · rw [old, was]
  · rw [phase, State.lane_setLane_same]; rfl
  · rw [phase, State.lane_setLane_same]; rfl
  · dsimp only
    split
    · rw [State.lane_setLane_same]; rfl
    · rw [phase, State.lane_setLane_same]; rfl

theorem applyLane_other {s : State} {p : Plan} {n m : Slot} (apart : m ≠ n) :
    (s.applyLane p n).lane m = s.lane m := by
  have phase (u : State) (x : Phases) : (u.setPhase n x).lane m = u.lane m := rfl
  unfold State.applyLane
  dsimp only
  split
  · rfl
  · rw [phase, State.lane_setLane, if_neg apart]
  · rw [phase, State.lane_setLane, if_neg apart]
  · split
    · rw [State.lane_setLane, if_neg apart]
    · rw [phase, State.lane_setLane, if_neg apart]

theorem mem_allSlots (n : Slot) : n ∈ allSlots := by
  revert n
  decide

theorem allSlots_nodup : allSlots.Nodup := by decide

/-- A fold over slots whose call for one slot leaves the other lanes alone, and the plans as they are, gives
each lane the slot its call gives it. -/
theorem foldl_slots {f : State → Slot → State} {old new : Slot → Option SlotEntry} {l : List Slot}
    (nodup : l.Nodup) {P : State → Prop} (kept : ∀ s n, P s → P (f s n))
    (own : ∀ s n, P s → (s.lane n).slot = old n → ((f s n).lane n).slot = new n)
    (other : ∀ s n m, m ≠ n → (f s n).lane m = s.lane m) {s : State} (start : P s) {n : Slot}
    (before : ∀ m ∈ l, (s.lane m).slot = old m) (rest : n ∉ l → (s.lane n).slot = new n) :
    ((l.foldl f s).lane n).slot = new n := by
  induction l generalizing s with
  | nil => exact rest (by simp)
  | cons m l ih =>
    obtain ⟨fresh, nodup⟩ := List.nodup_cons.mp nodup
    refine ih nodup (kept s m start) (fun k mem => ?_) fun done => ?_
    · rw [other s m k (by rintro rfl; exact fresh mem)]
      exact before k (List.mem_cons_of_mem m mem)
    · by_cases same : n = m
      · subst same
        exact own s n start (before n List.mem_cons_self)
      · rw [other s m n same]
        exact rest (by simp [same, done])

/-- The slots of an apply, which hands nothing but lanes, mixers, input records and the probe on. -/
theorem applySlots_keepsChains (s : State) (p : Plan) : KeepsChains s (s.applySlots p) := by
  unfold State.applySlots
  dsimp only
  refine KeepsChains.trans ?_ (startVisit_keeps _).toKeepsChains
  refine KeepsChains.trans ?_ (foldl_related .refl .trans startRamp_laneKeeps _ _).keeps.toKeepsChains
  refine KeepsChains.trans ?_ (foldl_related .refl .trans markWindow_laneKeeps _ _).keeps.toKeepsChains
  refine KeepsChains.trans ?_ (decideLanes_laneKeeps ..).keeps.toKeepsChains
  refine KeepsChains.trans ?_
    (foldl_related .refl .trans (fun s t => setMixer_laneKeeps s t _) _ _).keeps.toKeepsChains
  refine KeepsChains.trans ?_ (foldl_related .refl .trans muteUnverified_laneKeeps _ _).keeps.toKeepsChains
  refine KeepsChains.trans ?_ (foldl_related .refl .trans (fun s n => applyLane_frame s p n)
    _ _).untouched.keepsChains
  exact (foldl_related .refl .trans (fun s n => applyInput_keeps s n _ _) _ _).toKeepsChains

theorem applySlots_slots {s : State} {p : Plan} (old : ∀ n, (s.lane n).slot = p.slots.get n) (n : Slot) :
    ((s.applySlots p).lane n).slot = s.pe.active.slots.get n := by
  unfold State.applySlots
  dsimp only
  rw [(startVisit_keeps _).slots, (foldl_related .refl .trans startRamp_laneKeeps _ _ : LaneKeeps _ _).slots,
    (foldl_related .refl .trans markWindow_laneKeeps _ _ : LaneKeeps _ _).slots, (decideLanes_laneKeeps ..).slots,
    (foldl_related .refl .trans (fun s t => setMixer_laneKeeps s t _) _ _ : LaneKeeps _ _).slots,
    (foldl_related .refl .trans muteUnverified_laneKeeps _ _ : LaneKeeps _ _).slots]
  have inputs : Keeps s (allSlots.foldl
      (fun s n => s.applyInput n (p.slots.get n) (s.pe.active.slots.get n)) s) :=
    foldl_related .refl .trans (fun s n => applyInput_keeps s n _ _) _ _
  refine foldl_slots (P := fun u => u.pe.active = s.pe.active) allSlots_nodup
    (fun u m same => (congrArg _ (applyLane_frame u p m).pe).trans same)
    (fun u m same before => ?_) (fun u m k apart => applyLane_other apart) inputs.active
    (fun m _ => (inputs.slots m).trans (old m)) fun outside => absurd (mem_allSlots n) outside
  rw [applyLane_slot before, same]

theorem cut_keeps (s : State) (y : Tx) : Keeps s (s.setProtection y ((s.protection y).cut s.limits)) :=
  Keeps.of_sameLo (setProtection_keepsBut (fun _ => by simp [ChainProtection.cut]; omega) id le_rfl id fun _ => id)
    (setProtection_sameLo ..)

theorem cut_trips (s : State) (y : Tx) : (s.setProtection y ((s.protection y).cut s.limits)).TripsOk y := by
  rw [State.TripsOk, State.protection_setProtection_same]
  simp only [ChainProtection.cut, List.length_drop]
  show _ ≤ s.limits.tripLimit
  omega

theorem applyProtection_keeps (s : State) (p : Plan) : Keeps s (s.applyProtection p) := by
  have cut : Keeps s (allTx.foldl (fun s t => s.setProtection t ((s.protection t).cut s.limits)) s) :=
    foldl_related .refl .trans cut_keeps _ s
  unfold State.applyProtection
  dsimp only
  split
  · exact cut
  · exact cut.trans (protectAll_keeps _)

/-- After an apply no trip list is longer than the new limit, and where a severity has changed every chain's S
is what it is with the new ones (R148). -/
theorem applyProtection_sound (s : State) (p : Plan) (x : Tx) :
    (s.applyProtection p).TripsOk x ∧
      ((p.severities = s.severities → s.LevelOk x) → (s.applyProtection p).LevelOk x) := by
  have cut : Keeps s (allTx.foldl (fun s t => s.setProtection t ((s.protection t).cut s.limits)) s) :=
    foldl_related .refl .trans cut_keeps _ s
  have trips : (allTx.foldl (fun s t => s.setProtection t ((s.protection t).cut s.limits)) s).TripsOk x := by
    have later {u v : State} (h : Keeps u v) (k : u.TripsOk x) : v.TripsOk x := h.trips x k
    simp only [allTx, List.foldl_cons, List.foldl_nil]
    cases x
    · exact later (cut_keeps ..) (later (cut_keeps ..) (later (cut_keeps ..) (cut_trips ..)))
    · exact later (cut_keeps ..) (later (cut_keeps ..) (cut_trips ..))
    · exact later (cut_keeps ..) (cut_trips ..)
    · exact cut_trips ..
  have severities : (allTx.foldl (fun s t => s.setProtection t ((s.protection t).cut s.limits)) s).severities
      = s.severities := congrArg Plan.severities cut.active
  unfold State.applyProtection
  dsimp only
  split
  · next same => exact ⟨trips, fun level => cut.level x (level (same.trans severities))⟩
  · exact ⟨(protectAll_keeps _).trips x trips, fun _ => protectAll_level ..⟩

theorem applySeq_keeps (s : State) (y : Tx) : Keeps s (s.applySeq y) := by
  unfold State.applySeq
  refine Keeps.trans ?_ (decideSeq_keeps ..)
  split
  · exact .refl s
  · next down =>
    refine handOver_keeps ?_
    by_contra on
    exact down (SeqState.live_of_paOn (Bool.not_eq_false _ ▸ on))

/-- A write of a controller that leaves its state, its wanted LO and lost as they are. -/
theorem setSynth_keeps {s : State} {c : Chain} {x : SynContext} (state : x.state = (s.synth c).state)
    (lost : x.lost = (s.synth c).lost) (wanted : x.wanted = (s.synth c).wanted)
    (counter : s.CounterSound → (s.setSynth c x).CounterSound) : Keeps s (s.setSynth c x) := by
  have same (d : Chain) : ((s.setSynth c x).synth d).state = (s.synth d).state ∧
      ((s.setSynth c x).synth d).lost = (s.synth d).lost := by
    rw [State.synth_setSynth]
    split
    · next eq => rw [eq]; exact ⟨state, lost⟩
    · exact ⟨rfl, rfl⟩
  have lo : SameLo s (s.setSynth c x) := setSynth_sameLo wanted
  refine Keeps.of_sameLo { setSynth_keepsBut counter with
    conditions := fun _ y _ k => ?_
    verified := fun _ y _ _ _ k => ⟨(same _).1.trans k, lo.wanted _⟩
    powerUp := fun _ y _ before after => absurd (before.symm.trans after) Bool.false_ne_true } lo
  exact (SynContext.conditions_congr (same _).2 (by rw [(same _).1])).trans k

/-- A sound context in place of a sound one of the same state, with the same audit outstanding. -/
theorem State.CounterSound.setSynth_same {s : State} (k : s.CounterSound) {c : Chain} {x : SynContext}
    (sound : x.Sound) (state : x.state = (s.synth c).state) (auditing : x.auditing = (s.synth c).auditing) :
    (s.setSynth c x).CounterSound := by
  refine k.setSynth sound (fun q mem same => ?_) fun m current same => ?_
  · have waits := same ▸ k.queued q mem
    rwa [SynContext.queues, ← state, ← auditing] at waits
  · have measured := same ▸ (k.measured m current).1
    rwa [SynContext.measures, ← state, ← auditing] at measured

theorem setAudit_keeps {s : State} {c : Chain} {audit : Timer}
    (sound : s.CounterSound → audit.isSome → (s.synth c).state = .verified ∧ (s.synth c).auditing = false) :
    Keeps s (s.setSynth c { s.synth c with audit := audit }) := by
  refine setSynth_keeps rfl rfl rfl fun k => k.setSynth_same ?_ rfl rfl
  obtain ⟨settle, retry, -, auditing, transfer⟩ := k.contexts c
  exact ⟨settle, retry, sound k, auditing, transfer⟩

theorem applyAudit_keeps (s : State) (a b : Nat) (c : Chain) : Keeps s (s.applyAudit a b c) := by
  unfold State.applyAudit
  dsimp only
  split
  · exact .refl s
  · split
    · exact setAudit_keeps fun _ => nofun
    · split
      · next starts => exact setAudit_keeps fun _ _ => starts.2
      · exact .refl s

theorem applySynths_keeps (s : State) (p : Plan) : Keeps s (s.applySynths p) :=
  foldl_related .refl .trans (fun s c => applyAudit_keeps s _ _ c) _ s

theorem applyReference_keeps (s : State) (p : Plan) : Keeps s (s.applyReference p) := by
  unfold State.applyReference
  dsimp only
  have timer (r : RefMonitor) : Keeps s { s with ref := r } :=
    Untouched.keeps ⟨rfl, rfl, rfl, rfl, rfl, rfl⟩ fun _ => rfl
  split
  · split
    · exact .refl s
    · split
      · exact setReference_keeps ..
      · exact timer _
  · split
    · exact .refl s
    · split
      · exact timer _
      · split
        · exact setReference_keeps ..
        · exact timer _
  all_goals exact .refl s

theorem applyPorts_keeps (s : State) : Keeps s s.applyPorts := (setPort_keeps ..).trans (setPort_keeps ..)

/-- What follows the slots of an apply and of start-up selection alike. -/
theorem handRest_keeps (s : State) (p : Plan) :
    Keeps s ((((allTx.foldl State.applySeq ((s.takeRxLo .rx0).takeRxLo .rx1)).applySynths p).applyReference
      p).applyPorts) :=
  (((((takeRxLo_keeps s .rx0).trans (takeRxLo_keeps ..)).trans (foldl_related .refl .trans applySeq_keeps _ _)).trans
    (applySynths_keeps ..)).trans (applyReference_keeps ..)).trans (applyPorts_keeps _)

theorem handPlan_keepsChains (s : State) (p : Plan) : KeepsChains s (s.handPlan p) :=
  (((takeAllSeqFields_keeps s).toKeepsChains.trans (applySlots_keepsChains _ p)).trans
    (applyProtection_keeps ..).toKeepsChains).trans (handRest_keeps _ p).toKeepsChains

/-- What an apply settles anew: trip lists, S and the lanes' slots. -/
theorem handPlan_sound {s : State} {p : Plan} :
    (∀ x, (s.handPlan p).TripsOk x) ∧
      (∀ x, (p.severities = s.severities → s.LevelOk x) → (s.handPlan p).LevelOk x) ∧
      ((∀ n, (s.lane n).slot = p.slots.get n) → ∀ n, ((s.handPlan p).lane n).slot = s.pe.active.slots.get n) := by
  have fields := takeAllSeqFields_keeps s
  have slots := applySlots_keepsChains (allTx.foldl State.takeSeqFields s) p
  have protect := applyProtection_sound ((allTx.foldl State.takeSeqFields s).applySlots p) p
  have rest := handRest_keeps (((allTx.foldl State.takeSeqFields s).applySlots p).applyProtection p) p
  have severities : ((allTx.foldl State.takeSeqFields s).applySlots p).severities = s.severities :=
    congrArg Plan.severities (slots.active.trans fields.active)
  refine ⟨fun x => rest.trips x (protect x).1, fun x k => rest.level x ((protect x).2 fun same => ?_),
    fun old n => ?_⟩
  · exact slots.level x (fields.level x (k (same.trans severities)))
  · exact (rest.slots n).trans (((applyProtection_keeps ..).slots n).trans
      ((applySlots_slots (fun m => (fields.slots m).trans (old m)) n).trans (by rw [fields.active])))

end Sys2Proof.Machine
end

section
/-! PROOFS. The synthesizer cycles: programming, settling, failure and audit. -/

namespace Sys2Proof.Machine

/-! ## The events of one synthesizer (R75 to R82) -/

/-- `t` comes from `s` by a change of controller `c` and then by operations that keep everything; the conditions
of its chain end as those of its synthesizer. -/
structure Changes (c : Chain) (s t : State) : Prop where
  split : ∃ u, KeepsBut (some c) s u ∧ SameLo s u ∧ Keeps u t
  conditions : s.CounterSound → ∀ x, c = .tx x → s.ConditionsOk x → t.ConditionsOk x

/-- The same as `Keeps`, but for a synthesizer that leaves VERIFIED. -/
structure Loses (s t : State) : Prop extends KeepsState none s t where
  sequencer : ∀ x, s.SequencerOk x → t.SequencerOk x
  slots : ∀ n, (t.lane n).slot = (s.lane n).slot
  powerUp : s.CounterSound → ∀ x, (s.seq x).state.paOn = false → (t.seq x).state.paOn = true →
    s.phase = .running ∧ s.DriveReady x ∧ (s.pe.active.tx.get x).enabled = true ∧
    (t.synth (.tx x)).state = .verified ∧ (t.synth (.tx x)).wanted = (s.pe.active.tx.get x).lo ∧
    (s.protection x).level < 3 ∧ (s.protection x).lockedOut = false

theorem Changes.of_keepsBut {c : Chain} {s t : State} (h : KeepsBut (some c) s t) (lo : SameLo s t)
    (conditions : s.CounterSound → ∀ x, c = .tx x → s.ConditionsOk x → t.ConditionsOk x) : Changes c s t :=
  ⟨⟨t, h, lo, .refl t⟩, conditions⟩

theorem Changes.andKeeps {c : Chain} {s t v : State} (h : Changes c s t) (k : Keeps t v) : Changes c s v := by
  obtain ⟨⟨u, a, lo, b⟩, conditions⟩ := h
  exact ⟨⟨u, a, lo, b.trans k⟩, fun sound x same old =>
    k.conditions (b.counter (a.counter sound)) x nofun (conditions sound x same old)⟩

theorem Changes.after {c : Chain} {s t v : State} (k : Keeps s t) (lo : SameLo s t) (h : Changes c t v) :
    Changes c s v := by
  obtain ⟨⟨u, a, lo', b⟩, conditions⟩ := h
  exact ⟨⟨u, (k.but _).trans a, lo.trans lo', b⟩, fun sound x same old =>
    conditions (k.counter sound) x same (k.conditions sound x nofun old)⟩

theorem Changes.loses {c : Chain} {s t : State} (h : Changes c s t) : Loses s t := by
  obtain ⟨⟨u, a, lo, b⟩, conditions⟩ := h
  refine ⟨{ (a.trans (b.but _)).toKeepsState with conditions := fun sound x _ old => ?_ },
    fun x k => b.sequencer x (lo.sequencer x k), fun n => (b.slots n).trans (lo.slots n),
    fun sound x before after => ?_⟩
  · by_cases same : c = .tx x
    · exact conditions sound x same old
    · exact (a.trans (b.but _)).conditions sound x (by simpa using same) old
  · obtain ⟨running, ready, enabled, verified, wanted, level, lockedOut⟩ :=
      b.powerUp (a.counter sound) x nofun (by rw [lo.seq_eq]; exact before) after
    refine ⟨a.phase ▸ running, a.ready x ready, a.active ▸ enabled, verified, a.active ▸ wanted,
      lt_of_le_of_lt (a.rises x) level, ?_⟩
    by_contra locked
    rw [Bool.not_eq_false] at locked
    rw [a.locked x locked] at lockedOut
    cases lockedOut

/-- A change of a controller that was not VERIFIED keeps everything. -/
theorem Changes.keeps {c : Chain} {s t : State} (h : Changes c s t)
    (calm : s.CounterSound → (s.synth c).state ≠ .verified) : Keeps s t := by
  have loses := h.loses
  obtain ⟨⟨u, a, lo, b⟩, -⟩ := h
  refine ⟨⟨⟨loses.toKeepsState, fun sound x _ before after k => ?_, fun sound x _ => loses.powerUp sound x⟩,
    loses.sequencer⟩, loses.slots⟩
  by_cases same : c = .tx x
  · exact absurd k (same ▸ calm sound)
  · exact (a.trans (b.but _)).verified sound x (by simpa using same) before after k

/-- A controller whose state changes, neither to nor from FAILED. -/
theorem setSynth_changes {s : State} {c : Chain} {x : SynContext} (wanted : x.wanted = (s.synth c).wanted)
    (lost : x.lost = (s.synth c).lost)
    (failed : s.CounterSound → (x.state = .failed ↔ (s.synth c).state = .failed))
    (counter : s.CounterSound → (s.setSynth c x).CounterSound) : Changes c s (s.setSynth c x) := by
  refine .of_keepsBut (setSynth_keepsBut counter) (setSynth_sameLo wanted) fun sound y same old => ?_
  subst same
  rw [State.ConditionsOk, State.synth_setSynth_same]
  exact (SynContext.conditions_congr (x := s.synth (.tx y)) lost (failed sound)).trans old

/-- What an attempt that ends finds: a controller away from the counter, with no timer running and no
programming on its control line, and neither VERIFIED nor FAILED. -/
structure State.Trying (s : State) (c : Chain) : Prop where
  absent : s.Absent c
  quiet : (s.synth c).NoTimers
  line : ∀ w, (s.synth c).transfer ≠ .programming w
  verified : (s.synth c).state ≠ .verified
  failed : (s.synth c).state ≠ .failed

theorem startProgramming_keeps {s : State} {c : Chain} (trying : s.Trying c) :
    Keeps s (s.startProgramming c) := by
  unfold State.startProgramming
  refine (setSynth_changes ?_ ?_ (fun k => ?_) fun k => ?_).keeps fun k => trying.verified
  · rfl
  · rfl
  · exact ⟨nofun, fun failed => absurd failed trying.failed⟩
  · obtain ⟨settle, retry, audit, auditing⟩ := trying.quiet
    exact k.setSynth_absent trying.absent (SynContext.NoTimers.sound ⟨settle, retry, audit, auditing⟩ fun _ => rfl)

/-- A write of the controller followed by a report of its conditions. -/
theorem reported_changes {c : Chain} {s u v : State} (a : KeepsBut (some c) s u) (lo : SameLo s u) (b : Keeps u v) :
    Changes c s (v.reportSynth c) := by
  refine ⟨⟨u, a, lo, b.trans (reportSynth_keeps v c)⟩, fun sound x same _ => ?_⟩
  subst same
  exact reportSynth_conditions (b.counter (a.counter sound)) x

theorem enterFailed_keeps {s : State} {c : Chain} (trying : s.Trying c) :
    Keeps s (s.enterFailed c) := by
  set u := s.setSynth c { s.synth c with state := .failed, retry := s.afterSeconds s.limits.retryHold } with hu
  have counter (k : s.CounterSound) : u.CounterSound := by
    obtain ⟨absent, ⟨settle, -, audit, auditing⟩, line, -, -⟩ := trying
    refine k.setSynth_absent absent ⟨fun runs => ?_, fun _ => rfl, fun runs => ?_, fun out => ?_,
      fun ⟨w, sent⟩ => absurd sent (line w)⟩
    · exact absurd runs (by simp [settle])
    · exact absurd runs (by simp [audit])
    · exact absurd out (by simp [auditing])
  have told : Keeps u (if (u.notifyBoth .synthFailed).pe.active.uses c then
      (u.notifyBoth .synthFailed).probationFailure else u.notifyBoth .synthFailed) := by
    split
    · exact (notifyBoth_keeps ..).trans (probationFailure_keeps _)
    · exact notifyBoth_keeps ..
  exact (reported_changes (setSynth_keepsBut counter) (setSynth_sameLo rfl) told).keeps fun k => trying.verified

theorem failedAttempt_keeps {s : State} {c : Chain} (trying : s.Trying c) :
    Keeps s (s.failedAttempt c) := by
  unfold State.failedAttempt
  split
  · exact startProgramming_keeps trying
  · exact enterFailed_keeps trying

/-- A synthesizer in QUEUED joins the queue (R77, R87). -/
theorem joinQueued_keeps {s : State} {c : Chain} (state : (s.synth c).state = .queued) :
    Keeps s (s.joinQueue c false) := by
  refine joinQueue_keeps fun k => ⟨state, fun m current same => ?_⟩
  have measured := same ▸ (k.measured m current).1
  rw [SynContext.measures, state] at measured
  split at measured
  · cases measured.1
  · cases measured

theorem becomeQueued_keeps {s : State} {c : Chain} (trying : s.Trying c) :
    Keeps s ((s.setSynth c { s.synth c with state := .queued }).joinQueue c false) := by
  have written : Changes c s (s.setSynth c { s.synth c with state := .queued }) := by
    refine setSynth_changes (x := { s.synth c with state := .queued }) rfl rfl (fun k => ?_) fun k => ?_
    · exact ⟨nofun, fun failed => absurd failed trying.failed⟩
    · obtain ⟨absent, ⟨settle, retry, audit, auditing⟩, line, -, -⟩ := trying
      exact k.setSynth_absent absent (SynContext.NoTimers.sound ⟨settle, retry, audit, auditing⟩
        fun ⟨w, sent⟩ => absurd sent (line w))
  exact (written.keeps fun k => trying.verified).trans
    (joinQueued_keeps (congrArg SynContext.state (State.synth_setSynth_same ..)))

/-- The part of `Keeps` and of `Loses` that does not rest on the counter's agreement. -/
structure Plain (s t : State) : Prop where
  phase : t.phase = s.phase
  active : t.pe.active = s.pe.active
  trips : ∀ x, s.TripsOk x → t.TripsOk x
  level : ∀ x, s.LevelOk x → t.LevelOk x
  rises : ∀ x, (s.protection x).level ≤ (t.protection x).level
  locked : ∀ x, (s.protection x).lockedOut = true → (t.protection x).lockedOut = true
  off : s.phase ≠ .running → ∀ x, s.Rests x → t.Rests x
  ready : ∀ x, t.DriveReady x → s.DriveReady x
  sequencer : ∀ x, s.SequencerOk x → t.SequencerOk x
  slots : ∀ n, (t.lane n).slot = (s.lane n).slot

theorem Keeps.plain {s t : State} (h : Keeps s t) : Plain s t := { h with }

theorem Plain.trans {s t u : State} (a : Plain s t) (b : Plain t u) : Plain s u where
  phase := b.phase.trans a.phase
  active := b.active.trans a.active
  trips x k := b.trips x (a.trips x k)
  level x k := b.level x (a.level x k)
  rises x := (a.rises x).trans (b.rises x)
  locked x k := b.locked x (a.locked x k)
  off held x k := b.off (a.phase ▸ held) x (a.off held x k)
  ready x k := a.ready x (b.ready x k)
  sequencer x k := b.sequencer x (a.sequencer x k)
  slots n := (b.slots n).trans (a.slots n)

theorem setSynth_plain {s : State} {c : Chain} {x : SynContext} (wanted : x.wanted = (s.synth c).wanted) :
    Plain s (s.setSynth c x) :=
  ⟨rfl, rfl, fun _ => id, fun _ => id, fun _ => le_rfl, fun _ => id, fun _ _ => id, fun _ => id,
    (setSynth_sameLo wanted).sequencer, fun _ => rfl⟩

theorem fc_plain (s : State) (f : Counter) : Plain s { s with fc := f } :=
  ⟨rfl, rfl, fun _ => id, fun _ => id, fun _ => le_rfl, fun _ => id, fun _ _ => id, fun _ => id, fun _ => id,
    fun _ => rfl⟩

theorem joinQueue_plain (s : State) (c : Chain) (audit : Bool) : Plain s (s.joinQueue c audit) := by
  unfold State.joinQueue
  split
  · exact (Keeps.refl s).plain
  · exact fc_plain ..

theorem withdrawSynth_plain (s : State) (c : Chain) : Plain s (s.withdrawSynth c) :=
  { withdrawSynth_keepsBut s c with
    sequencer := (withdrawSynth_sameLo s c).sequencer
    slots := (withdrawSynth_sameLo s c).slots }

theorem startProgramming_plain (s : State) (c : Chain) : Plain s (s.startProgramming c) := setSynth_plain rfl

theorem failedAttempt_plain (s : State) (c : Chain) : Plain s (s.failedAttempt c) := by
  unfold State.failedAttempt
  split
  · exact startProgramming_plain ..
  · unfold State.enterFailed
    have written : Plain s (s.setSynth c
        { s.synth c with state := .failed, retry := s.afterSeconds s.limits.retryHold }) := setSynth_plain rfl
    refine written.trans (Keeps.plain (Keeps.trans ?_ (reportSynth_keeps ..)))
    dsimp only
    split
    · exact (notifyBoth_keeps ..).trans (probationFailure_keeps _)
    · exact notifyBoth_keeps ..

theorem goIdle_plain {s : State} {c : Chain} (none : (s.synth c).wanted = none) : Plain s (s.goIdle c) :=
  ((setSynth_plain none.symm).trans (refreshWords_keeps ..).plain).trans (withdrawSynth_plain ..)

theorem Keeps.of_sound {s t : State} (plain : Plain s t) (h : s.CounterSound → Keeps s t) : Keeps s t where
  phase := plain.phase
  active := plain.active
  trips := plain.trips
  level := plain.level
  rises := plain.rises
  locked := plain.locked
  counter k := (h k).counter k
  off := plain.off
  ready := plain.ready
  conditions k := (h k).conditions k
  verified k := (h k).verified k
  powerUp k := (h k).powerUp k
  sequencer := plain.sequencer
  slots := plain.slots

theorem Loses.of_sound {s t : State} (plain : Plain s t) (h : s.CounterSound → Loses s t) : Loses s t where
  phase := plain.phase
  active := plain.active
  trips := plain.trips
  level := plain.level
  rises := plain.rises
  locked := plain.locked
  counter k := (h k).counter k
  off := plain.off
  ready := plain.ready
  conditions k := (h k).conditions k
  powerUp k := (h k).powerUp k
  sequencer := plain.sequencer
  slots := plain.slots

/-! ### Programming complete, power-down end, and the settle, retry and audit timers -/

/-- A programming that has just ended (R76). -/
theorem endProgramming_keeps {s : State} {c : Chain} (w : DividerWords) : Keeps s (s.endProgramming c w) := by
  have written : Keeps s (s.setSynth c
      { s.synth c with transfer := .none, output := .enabled, programmed := some w }) := by
    refine setSynth_keeps rfl rfl rfl fun k => k.setSynth_same ?_ rfl rfl
    obtain ⟨settle, retry, audit, auditing, -⟩ := k.contexts c
    exact ⟨settle, retry, audit, auditing, nofun⟩
  unfold State.endProgramming
  dsimp only
  split
  · exact written
  · exact written.trans (refreshWords_laneKeeps ..).keeps

theorem endProgramming_synth (s : State) (c : Chain) (w : DividerWords) :
    (s.endProgramming c w).synth c =
      { s.synth c with transfer := .none, output := .enabled, programmed := some w } := by
  unfold State.endProgramming
  dsimp only
  split
  · exact State.synth_setSynth_same ..
  · exact (((refreshWords_laneKeeps ..).untouched.synth_eq c).trans (State.synth_setSynth_same ..))

/-- A controller in PROGRAMMING whose transfer is over is trying. -/
theorem State.CounterSound.trying {s : State} (k : s.CounterSound) {c : Chain}
    (state : (s.synth c).state = .programming) (line : ∀ w, (s.synth c).transfer ≠ .programming w) :
    s.Trying c := by
  obtain ⟨absent, quiet⟩ := k.quiet (.inr state)
  exact ⟨absent, quiet, line, by simp [state], by simp [state]⟩

theorem setSynth_startProgramming_plain {s : State} {c : Chain} {x : SynContext}
    (wanted : x.wanted = (s.synth c).wanted) : Plain s ((s.setSynth c x).startProgramming c) :=
  (setSynth_plain wanted).trans (startProgramming_plain ..)

theorem afterProgramming_plain (s : State) (c : Chain) : Plain s (s.afterProgramming c) := by
  unfold State.afterProgramming
  dsimp only
  split
  · split
    · exact setSynth_startProgramming_plain rfl
    · next none => exact goIdle_plain none
  · exact setSynth_plain rfl

theorem goIdle_keeps {s : State} {c : Chain} (trying : s.Trying c) (none : (s.synth c).wanted = none) :
    Keeps s (s.goIdle c) := by
  refine (Changes.of_keepsBut (goIdle_keepsBut fun _ => ⟨trying.absent, trying.quiet⟩) ?_
    fun _ x same _ => ?_).keeps fun _ => trying.verified
  · have gives := goIdle_givesLo s c
    rw [← none] at gives
    exact gives.sameLo
  · subst same
    exact withdraw_goIdle ..

theorem afterProgramming_keeps {s : State} {c : Chain} (trying : s.Trying c) : Keeps s (s.afterProgramming c) := by
  obtain ⟨absent, ⟨settle, retry, audit, auditing⟩, line, verified, failed⟩ := trying
  unfold State.afterProgramming
  dsimp only
  split
  · split
    · have cleared : Keeps s (s.setSynth c { s.synth c with restartPending := false, attempts := 0 }) :=
        setSynth_keeps rfl rfl rfl fun k => k.setSynth_same
          (SynContext.NoTimers.sound ⟨settle, retry, audit, auditing⟩ fun ⟨w, sent⟩ => absurd sent (line w)) rfl rfl
      refine cleared.trans (startProgramming_keeps ⟨absent, ?_, ?_, ?_, ?_⟩) <;>
        rw [State.synth_setSynth_same]
      · exact ⟨settle, retry, audit, auditing⟩
      · exact line
      · exact verified
      · exact failed
    · next none => exact goIdle_keeps ⟨absent, ⟨settle, retry, audit, auditing⟩, line, verified, failed⟩ none
  · refine (setSynth_changes (x := { s.synth c with state := .settling, settle := s.afterMs s.limits.settle })
      rfl rfl (fun _ => ⟨nofun, fun f => absurd f failed⟩) fun k => ?_).keeps fun _ => verified
    refine k.setSynth_absent absent ⟨fun _ => rfl, fun runs => ?_, fun runs => ?_, fun out => ?_,
      fun ⟨w, sent⟩ => absurd sent (line w)⟩
    · exact absurd runs (by simp [retry])
    · exact absurd runs (by simp [audit])
    · exact absurd out (by simp [auditing])

theorem programmed_keeps {s : State} {c : Chain} {w : DividerWords} (line : (s.synth c).transfer = .programming w) :
    Keeps s ((s.endProgramming c w).afterProgramming c) := by
  have ended := endProgramming_keeps (s := s) (c := c) w
  refine .of_sound (ended.plain.trans (afterProgramming_plain ..)) fun k => ended.trans (afterProgramming_keeps ?_)
  refine (ended.counter k).trying ?_ ?_ <;> rw [endProgramming_synth]
  · exact (k.contexts c).transfer ⟨w, line⟩
  · exact nofun

theorem poweredDown_keeps (s : State) (c : Chain) :
    let u := s.setSynth c { s.synth c with transfer := .none, output := .disabled }
    Keeps s (if (u.synth c).state = .programming then u.startProgramming c else u) := by
  intro u
  have written : Keeps s u := by
    refine setSynth_keeps rfl rfl rfl fun k => k.setSynth_same ?_ rfl rfl
    obtain ⟨settle, retry, audit, auditing, -⟩ := k.contexts c
    exact ⟨settle, retry, audit, auditing, nofun⟩
  split
  · next state =>
    refine written.trans (.of_sound (startProgramming_plain ..) fun k => startProgramming_keeps (k.trying state ?_))
    rw [State.synth_setSynth_same]
    exact nofun
  · exact written

/-- The settle timer's expiry finds a controller in SETTLING (R77). -/
theorem State.CounterSound.settled {s : State} (k : s.CounterSound) {c : Chain}
    (state : (s.synth c).state = .settling) : (s.setSynth c { s.synth c with settle := none }).Trying c := by
  have absent : s.Absent c := k.absent (by simp [state]) (by simp [state]) (by simp [state])
  obtain ⟨-, retry, audit, auditing, transfer⟩ := k.contexts c
  have quiet {o : Timer} {st : SynState} (runs : o.isSome → (s.synth c).state = st) (other : st ≠ .settling) :
      o = none := by
    by_contra running
    exact other ((runs (Option.isSome_iff_ne_none.mpr running)).symm.trans state)
  refine ⟨absent, ?_, ?_, ?_, ?_⟩ <;> rw [State.synth_setSynth_same]
  · refine ⟨rfl, quiet retry nofun, quiet (fun runs => (audit runs).1) nofun, ?_⟩
    by_contra out
    exact absurd (auditing (Bool.not_eq_false _ ▸ out)) (by simp [state])
  · exact fun w sent => absurd (transfer ⟨w, sent⟩) (by simp [state])
  · simp [state]
  · simp [state]

theorem clearSettle_keeps (s : State) (c : Chain) : Keeps s (s.setSynth c { s.synth c with settle := none }) := by
  refine setSynth_keeps rfl rfl rfl fun k => k.setSynth_same ?_ rfl rfl
  obtain ⟨-, retry, audit, auditing, transfer⟩ := k.contexts c
  exact ⟨nofun, retry, audit, auditing, transfer⟩

theorem enterQueued_plain (s : State) (c : Chain) : Plain s (s.enterQueued c) := by
  have written : Plain s (s.setSynth c { s.synth c with state := .queued }) := setSynth_plain rfl
  exact (written.trans (joinQueue_plain ..)).trans (startMeasurement_keeps _).plain

theorem settled_keeps {s : State} {c : Chain} (timer : (s.synth c).settle.isSome) (lock : Bool) :
    let u := s.setSynth c { s.synth c with settle := none }
    Keeps s (if lock then u.enterQueued c else u.failedAttempt c) := by
  intro u
  have cleared : Keeps s u := clearSettle_keeps s c
  have trying (k : s.CounterSound) : u.Trying c := k.settled ((k.contexts c).settle timer)
  split
  · exact .of_sound (cleared.plain.trans (enterQueued_plain ..)) fun k =>
      cleared.trans ((becomeQueued_keeps (trying k)).trans (startMeasurement_keeps _))
  · exact .of_sound (cleared.plain.trans (failedAttempt_plain ..)) fun k =>
      cleared.trans (failedAttempt_keeps (trying k))

/-- A fresh cycle from FAILED (R79, R90). -/
theorem freshCycle_keeps {s : State} {c : Chain} (failed : s.CounterSound → (s.synth c).state = .failed) :
    Keeps s (s.freshCycle c) := by
  set u := s.setSynth c { s.synth c with retry := none, attempts := 0 } with hu
  have cleared : Keeps s u := by
    refine setSynth_keeps rfl rfl rfl fun k => k.setSynth_same ?_ rfl rfl
    obtain ⟨settle, -, audit, auditing, transfer⟩ := k.contexts c
    exact ⟨settle, nofun, audit, auditing, transfer⟩
  refine .of_sound ((cleared.plain.trans (startProgramming_plain ..)).trans (withdrawSynth_plain ..)) fun k => ?_
  have state := failed k
  have absent : u.Absent c := k.absent (by simp [state]) (by simp [state]) (by simp [state])
  have quiet : (u.synth c).NoTimers := by
    have context := k.contexts c
    rw [hu, State.synth_setSynth_same]
    refine ⟨?_, rfl, ?_, ?_⟩
    · by_contra running
      exact absurd (context.settle (Option.isSome_iff_ne_none.mpr running)) (by simp [state])
    · by_contra running
      exact absurd (context.audit (Option.isSome_iff_ne_none.mpr running)).1 (by simp [state])
    · by_contra out
      exact absurd (context.auditing (Bool.not_eq_false _ ▸ out)) (by simp [state])
  refine (Changes.of_keepsBut (c := c) ?_ ?_ fun _ x same _ => ?_).keeps fun _ => by simp [state]
  · exact ((cleared.but _).trans (startProgramming_keepsBut fun _ => ⟨absent, quiet⟩)).trans
      (withdrawSynth_keepsBut ..)
  · refine SameLo.trans (SameLo.trans (setSynth_sameLo ?_) (startProgramming_sameLo ..)) (withdrawSynth_sameLo ..)
    rfl
  · subst same
    exact withdrawSynth_conditions ..

/-- An audit becomes outstanding (R81, R90). -/
theorem startAudit_keeps {s : State} {c : Chain}
    (verified : s.CounterSound → (s.synth c).state = .verified ∧ (s.synth c).auditing = false) :
    Keeps s (s.startAudit c) := by
  set u := s.setSynth c { s.synth c with audit := none, auditing := true } with hu
  have synth : u.synth c = { s.synth c with audit := none, auditing := true } := State.synth_setSynth_same ..
  have written (k : s.CounterSound) : Keeps s u := by
    obtain ⟨state, auditing⟩ := verified k
    have absent : s.Absent c := k.absent (by simp [state]) (by simp [state]) fun _ => auditing
    refine setSynth_keeps rfl rfl rfl fun _ => k.setSynth_absent absent ?_
    obtain ⟨settle, retry, -, -, transfer⟩ := k.contexts c
    exact ⟨settle, retry, nofun, fun _ => state, transfer⟩
  have plain : Plain s u := setSynth_plain rfl
  refine .of_sound ((plain.trans (joinQueue_plain ..)).trans (startMeasurement_keeps _).plain) fun k => ?_
  obtain ⟨state, auditing⟩ := verified k
  have absent : s.Absent c := k.absent (by simp [state]) (by simp [state]) fun _ => auditing
  refine ((written k).trans (joinQueue_keeps fun _ => ⟨?_, absent.2⟩)).trans (startMeasurement_keeps _)
  rw [synth]
  exact ⟨state, rfl⟩

end Sys2Proof.Machine
end

section
/-! PROOFS. Lock drops, verdicts and the end of a measurement. -/

namespace Sys2Proof.Machine

/-! ### Lock drops and verdicts (R80 to R82, R87) -/

theorem Keeps.loses {s t : State} (h : Keeps s t) : Loses s t :=
  { h with
    conditions := fun sound x _ => h.conditions sound x nofun
    powerUp := fun sound x => h.powerUp sound x nofun }

theorem Loses.andKeeps {s t u : State} (h : Loses s t) (k : Keeps t u) : Loses s u where
  toKeepsState := h.toKeepsState.trans k.toKeepsState
  sequencer x old := k.sequencer x (h.sequencer x old)
  slots n := (k.slots n).trans (h.slots n)
  powerUp sound x before after := by
    cases between : (t.seq x).state.paOn with
    | true =>
      obtain ⟨running, ready, enabled, verified, wanted, level, lockedOut⟩ := h.powerUp sound x before between
      obtain ⟨verified, wanted'⟩ := k.verified (h.counter sound) x nofun between after verified
      exact ⟨running, ready, enabled, verified, wanted'.trans wanted, level, lockedOut⟩
    | false =>
      obtain ⟨running, ready, enabled, verified, wanted, level, lockedOut⟩ :=
        k.powerUp (h.counter sound) x nofun between after
      refine ⟨h.phase ▸ running, h.ready x ready, h.active ▸ enabled, verified, h.active ▸ wanted,
        lt_of_le_of_lt (h.rises x) level, ?_⟩
      by_contra locked
      rw [Bool.not_eq_false] at locked
      rw [h.locked x locked] at lockedOut
      cases lockedOut

theorem Loses.after {s t u : State} (k : Keeps s t) (lo : SameLo s t) (h : Loses t u) : Loses s u where
  toKeepsState := k.toKeepsState.trans h.toKeepsState
  sequencer x old := h.sequencer x (k.sequencer x old)
  slots n := (h.slots n).trans (k.slots n)
  powerUp sound x before after := by
    obtain ⟨running, ready, enabled, verified, wanted, level, lockedOut⟩ :=
      h.powerUp (k.counter sound) x (by rw [lo.seq_eq]; exact before) after
    refine ⟨k.phase ▸ running, k.ready x ready, k.active ▸ enabled, verified, k.active ▸ wanted,
      lt_of_le_of_lt (k.rises x) level, ?_⟩
    by_contra locked
    rw [Bool.not_eq_false] at locked
    rw [k.locked x locked] at lockedOut
    cases lockedOut

/-- What a lock drop or failed audit writes in the controller (R82). -/
def SynContext.dropped (x : SynContext) (settle : Timer) : SynContext :=
  { x with state := .settling, attempts := 1, settle := settle, audit := none, auditing := false, lost := true }

theorem loseLock_eq (s : State) (c : Chain) (now : Nat) :
    s.loseLock c now =
      ((((s.leaveCounter c).setSynth c
        ((s.synth c).dropped (expiryFrom now s.limits.settle))).startMeasurement).leftVerified c).reportSynth c := rfl

theorem dropped_sameLo (s : State) (c : Chain) (settle : Timer) :
    SameLo s ((s.leaveCounter c).setSynth c ((s.synth c).dropped settle)) :=
  (leaveCounter_sameLo s c).trans (setSynth_sameLo rfl)

theorem loseLock_changes {s : State} {c : Chain} (now : Nat) (retry : (s.synth c).retry = none)
    (line : ∀ w, (s.synth c).transfer ≠ .programming w) : Changes c s (s.loseLock c now) := by
  have dropped (settle : Timer) :
      KeepsBut (some c) s ((s.leaveCounter c).setSynth c ((s.synth c).dropped settle)) := by
    refine ((leaveCounter_keeps s c).but _).trans (setSynth_keepsBut fun k => ?_)
    refine k.setSynth_absent (leaveCounter_absent s c) ⟨fun _ => rfl, fun runs => ?_, nofun, nofun,
      fun ⟨w, sent⟩ => absurd sent (line w)⟩
    exact absurd (show (s.synth c).retry.isSome from runs) (by simp [retry])
  rw [loseLock_eq]
  exact reported_changes (dropped _) (dropped_sameLo ..)
    ((startMeasurement_keeps _).trans (leftVerified_keeps ..))

theorem loseLock_plain (s : State) (c : Chain) (now : Nat) : Plain s (s.loseLock c now) := by
  have dropped (settle : Timer) : Plain s ((s.leaveCounter c).setSynth c ((s.synth c).dropped settle)) :=
    (leaveCounter_keeps s c).plain.trans (setSynth_plain rfl)
  rw [loseLock_eq]
  exact (dropped _).trans
    (((startMeasurement_keeps _).trans (leftVerified_keeps ..)).trans (reportSynth_keeps ..)).plain

/-- A VERIFIED controller runs no retry timer and no programming. -/
theorem State.CounterSound.verified {s : State} (k : s.CounterSound) {c : Chain}
    (state : (s.synth c).state = .verified) :
    (s.synth c).settle = none ∧ (s.synth c).retry = none ∧ ∀ w, (s.synth c).transfer ≠ .programming w := by
  obtain ⟨settle, retry, -, -, transfer⟩ := k.contexts c
  refine ⟨?_, ?_, fun w sent => absurd (transfer ⟨w, sent⟩) (by simp [state])⟩
  · by_contra running
    exact absurd (settle (Option.isSome_iff_ne_none.mpr running)) (by simp [state])
  · by_contra running
    exact absurd (retry (Option.isSome_iff_ne_none.mpr running)) (by simp [state])

theorem loseLock_loses {s : State} {c : Chain} (now : Nat)
    (verified : s.CounterSound → (s.synth c).state = .verified) : Loses s (s.loseLock c now) :=
  .of_sound (loseLock_plain s c now) fun k =>
    (loseLock_changes now (k.verified (verified k)).2.1 (k.verified (verified k)).2.2).loses

theorem enterVerified_plain (s : State) (c : Chain) : Plain s (s.enterVerified c) := by
  unfold State.enterVerified
  dsimp only
  refine Plain.trans ?_ ((reportSynth_keeps ..).trans (enteredVerified_keeps ..)).plain
  exact setSynth_plain rfl

theorem enterVerified_keeps {s : State} {c : Chain} (trying : s.Trying c) : Keeps s (s.enterVerified c) := by
  obtain ⟨absent, ⟨settle, retry, -, auditing⟩, line, verified, -⟩ := trying
  set u := s.setSynth c
    { s.synth c with
      state := .verified
      attempts := 0
      lost := false
      audit := if 0 < s.limits.auditInterval then s.afterSeconds s.limits.auditInterval else none } with hu
  have counter (k : s.CounterSound) : u.CounterSound := by
    refine k.setSynth_absent absent ⟨fun runs => ?_, fun runs => ?_, fun _ => ⟨rfl, auditing⟩, fun _ => rfl,
      fun ⟨w, sent⟩ => absurd sent (line w)⟩
    · exact absurd runs (by simp [settle])
    · exact absurd runs (by simp [retry])
  have lo : SameLo s u := setSynth_sameLo rfl
  exact ((reported_changes (setSynth_keepsBut counter) lo (.refl u)).andKeeps
    (enteredVerified_keeps ..)).keeps fun _ => verified

/-- A verdict and its count recorded. -/
theorem record_keeps {s : State} {c : Chain} (v : Option Verdict) (n : Option Nat) :
    Keeps s (s.setSynth c { s.synth c with lastVerdict := v, lastCount := n }) := by
  refine setSynth_keeps rfl rfl rfl fun k => k.setSynth_same ?_ rfl rfl
  obtain ⟨settle, retry, audit, auditing, transfer⟩ := k.contexts c
  exact ⟨settle, retry, audit, auditing, transfer⟩

theorem takeVerdict_plain (s : State) (c : Chain) (v : Verdict) (n : Option Nat) :
    Plain s (s.takeVerdict c v n) := by
  have recorded : Plain s (s.setSynth c { s.synth c with lastVerdict := some v, lastCount := n }) :=
    (record_keeps ..).plain
  refine recorded.trans ?_
  cases v
  · exact enterVerified_plain ..
  · exact failedAttempt_plain ..
  · exact failedAttempt_plain ..
  · refine Plain.trans (setSynth_plain ?_) (joinQueue_plain ..)
    rfl

theorem takeVerdict_keeps {s : State} {c : Chain} (trying : s.Trying c) (v : Verdict) (n : Option Nat) :
    Keeps s (s.takeVerdict c v n) := by
  have recorded : Keeps s (s.setSynth c { s.synth c with lastVerdict := some v, lastCount := n }) :=
    record_keeps ..
  have trying : (s.setSynth c { s.synth c with lastVerdict := some v, lastCount := n }).Trying c := by
    obtain ⟨absent, ⟨settle, retry, audit, auditing⟩, line, verified, failed⟩ := trying
    refine ⟨absent, ?_, ?_, ?_, ?_⟩ <;> rw [State.synth_setSynth_same]
    · exact ⟨settle, retry, audit, auditing⟩
    · exact line
    · exact verified
    · exact failed
  refine recorded.trans ?_
  cases v
  · exact enterVerified_keeps trying
  · exact failedAttempt_keeps trying
  · exact failedAttempt_keeps trying
  · exact becomeQueued_keeps trying

theorem takeAudit_plain (s : State) (c : Chain) (v : Verdict) (n : Option Nat) (now : Nat) :
    Plain s (s.takeAudit c v n now) := by
  have cleared : Plain s (s.setSynth c { s.synth c with auditing := false }) := setSynth_plain rfl
  refine cleared.trans ?_
  cases v
  · exact (record_keeps ..).plain.trans (setSynth_plain rfl)
  · exact (record_keeps ..).plain.trans (loseLock_plain ..)
  · exact (record_keeps ..).plain.trans (loseLock_plain ..)
  · exact setSynth_plain rfl

theorem takeAudit_loses {s : State} {c : Chain} (verified : (s.synth c).state = .verified)
    (absent : s.Absent c) (v : Verdict) (n : Option Nat) (now : Nat) : Loses s (s.takeAudit c v n now) := by
  set u := s.setSynth c { s.synth c with auditing := false } with hu
  set r := u.setSynth c { u.synth c with lastVerdict := some v, lastCount := n } with hr
  have cleared : Keeps s u := by
    refine setSynth_keeps rfl rfl rfl fun k => k.setSynth_absent absent ?_
    obtain ⟨settle, retry, audit, -, transfer⟩ := k.contexts c
    exact ⟨settle, retry, fun runs => ⟨verified, rfl⟩, nofun, transfer⟩
  have lo : SameLo s u := setSynth_sameLo rfl
  have recorded : Keeps u r := record_keeps ..
  have lo' : SameLo u r := setSynth_sameLo rfl
  have atU : (u.synth c).state = .verified ∧ (u.synth c).auditing = false := by
    rw [hu, State.synth_setSynth_same]
    exact ⟨verified, rfl⟩
  have atR : (r.synth c).state = .verified ∧ (r.synth c).auditing = false := by
    rw [hr, State.synth_setSynth_same]
    exact atU
  unfold State.takeAudit
  dsimp only
  cases v
  · exact ((cleared.trans recorded).trans (setAudit_keeps fun _ _ => atR)).loses
  · exact .after (cleared.trans recorded) (lo.trans lo') (loseLock_loses now fun _ => atR.1)
  · exact .after (cleared.trans recorded) (lo.trans lo') (loseLock_loses now fun _ => atR.1)
  · exact (cleared.trans (setAudit_keeps fun _ _ => atU)).loses

/-- The counter becomes idle with a record of the measurement that has ended (R87). -/
theorem counterIdle_keeps (s : State) (last : Option LastMeasurement) :
    Keeps s { s with fc := { s.fc with current := none, last := last } } :=
  .of_fc fun k => ⟨k.contexts, k.nodup, k.queued, nofun⟩

/-- The counter after the end of measurement `m` with a verdict (R87). -/
def State.counterFreed (s : State) (m : Measurement) (v : Verdict) (n : Option Nat) : State :=
  { s with
    fc :=
      { s.fc with
        current := none
        last := some { syn := m.syn, audit := m.audit, verdict := v, count := n, expected := m.expected,
                       tolerance := m.tolerance } } }

theorem endMeasurement_eq (s : State) (m : Measurement) (v : Verdict) (n : Option Nat) (now : Nat) :
    s.endMeasurement m v n now =
      (if m.audit then (s.counterFreed m v n).takeAudit m.syn v n now
        else (s.counterFreed m v n).takeVerdict m.syn v n).startMeasurement.dateMeasurement now := rfl

theorem endMeasurement_loses {s : State} {m : Measurement} (v : Verdict) (n : Option Nat) (now : Nat)
    (current : s.fc.current = some m) : Loses s (s.endMeasurement m v n now) := by
  set u := s.counterFreed m v n with hu
  have freed : Keeps s u := counterIdle_keeps s _
  have lo : SameLo s u := ⟨rfl, fun _ => rfl, fun _ => rfl⟩
  rw [endMeasurement_eq]
  refine .andKeeps ?_ ((startMeasurement_keeps _).trans (dateMeasurement_keeps ..))
  split
  · next audit =>
    refine .of_sound (freed.plain.trans (takeAudit_plain ..)) fun k => .after freed lo ?_
    obtain ⟨measured, apart⟩ := k.measured m current
    rw [SynContext.measures, if_pos audit] at measured
    have absent : u.Absent m.syn := ⟨apart, fun _ none => by cases none⟩
    exact takeAudit_loses (s := u) measured.1 absent v n now
  · next audit =>
    refine (Keeps.of_sound (freed.plain.trans (takeVerdict_plain ..)) fun k => freed.trans ?_).loses
    obtain ⟨measured, apart⟩ := k.measured m current
    rw [SynContext.measures, if_neg audit] at measured
    have absent : u.Absent m.syn := ⟨apart, fun _ none => by cases none⟩
    refine takeVerdict_keeps (s := u) ⟨absent, (k.contexts _).noTimers ?_ ?_ ?_, fun w sent => ?_, ?_, ?_⟩ v n
    · simp [measured]
    · simp [measured]
    · simp [measured]
    · exact absurd ((k.contexts _).transfer ⟨w, sent⟩) (by simp [measured])
    · exact fun state => absurd (measured.symm.trans state) nofun
    · exact fun state => absurd (measured.symm.trans state) nofun

end Sys2Proof.Machine
end

section
/-! PROOFS. What a whole step keeps (`StepKeeps`), and the operations that meet it. -/

namespace Sys2Proof.Machine

/-! ## What a step keeps -/

theorem lanesSound_iff (s : State) :
    s.LanesSound ↔ (∀ n, (s.lane n).slot = s.pe.active.slots.get n) ∧ s.Blank := Iff.rfl

/-- Command `c` switches the PA of chain `x` on as R127 asks, if it does. -/
structure SwitchesOn (c : Instr) (s t : State) (x : Tx) : Prop where
  running : t.phase = .running
  state : (s.seq x).state = .driveSettle
  settled : (s.seq x).driveSettled = true ∨ c = .driveSettleExpiry x
  enabled : (t.pe.active.tx.get x).enabled = true
  verified : (t.synth (.tx x)).state = .verified
  wanted : (t.synth (.tx x)).wanted = (t.pe.active.tx.get x).lo
  level : (s.protection x).level < 3 ∨ (t.protection x).level < 3
  lockedOut : (s.protection x).lockedOut = false ∨ (t.protection x).lockedOut = false

/-- What command `c` keeps of each invariant as it takes `s` to `t`. -/
structure StepKeeps (c : Instr) (s t : State) : Prop where
  trips : s.TripsSound → t.TripsSound
  level : s.LevelSound → t.LevelSound
  counter : s.CounterSound → t.CounterSound
  conditions : s.CounterSound → s.ConditionsSound → t.ConditionsSound
  sequencers : s.SequencersSound → t.SequencersSound
  off : s.SequencersSound → s.SequencersOff → t.SequencersOff
  lanes : s.LanesSound → t.LanesSound
  plan : PlanKeeps s t
  locked : ¬Resets c → c ≠ .startUpSelection → ¬CarriesRestore c → ∀ x,
    (s.protection x).lockedOut = true → (t.protection x).lockedOut = true
  issue : ¬Resets c → c ≠ .startUpSelection →
    t.pe.lastIssued = s.pe.lastIssued ∨ t.pe.lastIssued = s.pe.lastIssued + 1
  powerUp : s.Sound → ∀ x, (s.seq x).state.paOn = false → (t.seq x).state.paOn = true → SwitchesOn c s t x

theorem Loses.step {s t : State} (h : Loses s t) (plan : PlanKeeps s t)
    (issue : t.pe.lastIssued = s.pe.lastIssued ∨ t.pe.lastIssued = s.pe.lastIssued + 1) (c : Instr) :
    StepKeeps c s t where
  trips k x := h.trips x (k x)
  level k x := h.level x (k x)
  counter := h.counter
  conditions sound k x := h.conditions sound x nofun (k x)
  sequencers k x := h.sequencer x (k x)
  off m k held x := (h.off (h.phase ▸ held) x ((m x).1.rests (k (h.phase ▸ held) x))).1
  lanes k := ⟨fun n => (h.slots n).trans (by rw [h.active]; exact k.1 n), plan.blank k.2⟩
  plan := plan
  locked _ _ _ := h.locked
  issue _ _ := issue
  powerUp sound x before after := by
    obtain ⟨running, ready, enabled, verified, wanted, level, lockedOut⟩ :=
      h.powerUp sound.counter x before after
    exact ⟨h.phase.trans running, ready.1, .inl ready.2, h.active ▸ enabled, verified, h.active ▸ wanted,
      .inl level, .inl lockedOut⟩

/-- The Plan Engine is as it was, or has taken a probation failure; and the phase is as it was. -/
structure PlanFrame (s t : State) : Prop where
  phase : t.phase = s.phase
  pe : t.pe = s.pe ∨ (s.pe.status = .onProbation ∧ t.pe = s.pe.failProbation)

theorem RefFrame.plan {s t : State} (h : RefFrame s t) : PlanFrame s t := ⟨h.phase, h.pe⟩

theorem ProtFrame.plan {s t : State} (h : ProtFrame s t) : PlanFrame s t := ⟨h.phase, h.pe⟩

theorem SeqFrame.plan {s t : State} (h : SeqFrame s t) : PlanFrame s t := h.toProt.plan

theorem SynthFrame.plan {s t : State} (h : SynthFrame s t) : PlanFrame s t := h.toSeq.plan

theorem LaneFrame.plan {s t : State} (h : LaneFrame s t) : PlanFrame s t := h.toSeq.plan

theorem TimeFrame.plan {s t : State} (h : TimeFrame s t) : PlanFrame s t := ⟨h.phase, .inl h.pe⟩

theorem PlanFrame.refl (s : State) : PlanFrame s s := ⟨rfl, .inl rfl⟩

theorem PlanFrame.trans {s t u : State} (a : PlanFrame s t) (b : PlanFrame t u) : PlanFrame s u := by
  refine ⟨b.phase.trans a.phase, ?_⟩
  rcases a.pe with same | ⟨on, failed⟩
  · rcases b.pe with same' | ⟨on', failed'⟩
    · exact .inl (same'.trans same)
    · exact .inr ⟨same ▸ on', same ▸ failed'⟩
  · rcases b.pe with same' | ⟨on', -⟩
    · exact .inr ⟨on, same'.trans failed⟩
    · rw [failed] at on'
      cases on'

theorem PlanFrame.keeps {s t : State} (h : PlanFrame s t) : PlanKeeps s t := .of_failProbation h.phase h.pe

theorem PlanFrame.issue {s t : State} (h : PlanFrame s t) : t.pe.lastIssued = s.pe.lastIssued := by
  rcases h.pe with same | ⟨-, failed⟩
  · rw [same]
  · rw [failed]
    rfl

theorem Loses.stepFrame {s t : State} (h : Loses s t) (frame : PlanFrame s t) (c : Instr) : StepKeeps c s t :=
  h.step frame.keeps (.inl frame.issue) c

theorem Keeps.stepFrame {s t : State} (h : Keeps s t) (frame : PlanFrame s t) (c : Instr) : StepKeeps c s t :=
  h.loses.stepFrame frame c

theorem StepKeeps.refl (s : State) (c : Instr) : StepKeeps c s s := (Keeps.refl s).stepFrame (.refl s) c

theorem Keeps.sound {s t : State} (h : Keeps s t) (plan : PlanKeeps s t) (k : s.Sound) : t.Sound where
  grant := plan.grant k.grant
  probation := plan.probation k.probation
  history := (plan.history k.history k.revert).1
  revert := (plan.history k.history k.revert).2
  counter := h.counter k.counter
  sequencers x := h.sequencer x (k.sequencers x)
  off held x := (h.off (h.phase ▸ held) x ((k.sequencers x).1.rests (k.off (h.phase ▸ held) x))).1
  trips x := h.trips x (k.trips x)
  level x := h.level x (k.level x)
  conditions x := h.conditions k.counter x nofun (k.conditions x)
  lanes := ⟨fun n => (h.slots n).trans (by rw [h.active]; exact k.lanes.1 n), plan.blank k.lanes.2⟩

/-- The time base may move before a step. -/
theorem StepKeeps.later {c : Instr} {s t u : State} (time : TimeFrame s t) (h : StepKeeps c t u) :
    StepKeeps c s u := by
  have keeps := time.keeps
  have plan := time.plan.keeps
  have seq := time.untouched.seq_eq
  have protection := time.untouched.protection_eq
  refine ⟨fun k => h.trips fun x => keeps.trips x (k x), fun k => h.level fun x => keeps.level x (k x),
    fun k => h.counter (keeps.counter k), fun k l => h.conditions (keeps.counter k) fun x =>
      keeps.conditions k x nofun (l x), fun k => h.sequencers fun x => keeps.sequencer x (k x),
    fun k l => h.off (fun x => keeps.sequencer x (k x)) fun held x => ?_,
    fun k => h.lanes ⟨fun n => ?_, plan.blank k.2⟩, plan.trans h.plan, fun a b r x k => ?_, fun a b => ?_,
    fun k x before after => ?_⟩
  · rw [seq]
    exact l (time.phase ▸ held) x
  · rw [keeps.slots, time.pe]
    exact k.1 n
  · exact h.locked a b r x (by rwa [protection])
  · rw [← time.pe]
    exact h.issue a b
  · obtain ⟨running, state, settled, enabled, verified, wanted, level, lockedOut⟩ :=
      h.powerUp (keeps.sound plan k) x (by rwa [seq]) after
    rw [seq] at state settled
    rw [protection] at level lockedOut
    exact ⟨running, state, settled, enabled, verified, wanted, level, lockedOut⟩

/-! ### Timers, inputs and the reference -/

/-- A command that answers a state as it was, or one that `StepKeeps` relates to it. -/
def Answers (R : State → State → Prop) (f : State → Host.Outcome State Fault Refusal) : Prop :=
  ∀ s t, f s = .next t → R s t

theorem step_rampStepExpiry (x : Tx) : Answers (StepKeeps (.rampStepExpiry x)) (execRampStepExpiry x) := by
  intro s t next
  unfold execRampStepExpiry at next
  split at next
  · obtain rfl := Host.Outcome.next.inj next
    exact .refl s _
  · next d timer =>
    obtain rfl := Host.Outcome.next.inj next
    exact .later (advanceTo_frame s d) (((stepRamp_laneKeeps ..).keeps.trans (decideSeq_keeps ..)).stepFrame
      ((stepRamp_frame ..).plan.trans (decideSeq_frame ..).plan) _)

end Sys2Proof.Machine
end

section
/-! PROOFS. A decision that switches a PA on, and a write before an operation. -/

namespace Sys2Proof.Machine

/-! ## A decision that switches a PA on (R127) -/

/-- A sequencer with its PA on, or discharging, stays so (R128 to R130). -/
theorem nextSeq_airborne {s : State} {y : Tx} {st : SeqState} (next : s.nextSeq y = some st)
    (up : (s.seq y).state.paOn = true ∨ (s.seq y).state = .paDischarge) : st.paOn = true ∨ st = .paDischarge := by
  unfold State.nextSeq at next
  dsimp only at next
  split at next
  case h_4 =>
    split at next
    · cases next; exact .inl rfl
    · split at next
      · cases next
      · cases next; exact .inl rfl
  case h_5 =>
    split at next
    · cases next; exact .inl rfl
    · cases next
  case h_6 =>
    split at next
    · cases next; exact .inr rfl
    · split at next
      · cases next; exact .inl rfl
      · cases next
  case h_7 =>
    split at next
    · cases next; exact .inl rfl
    · split at next
      · cases next
        split
        · exact .inl rfl
        · exact .inr rfl
      · cases next
  case h_8 => cases next
  all_goals next state => rw [state] at up; rcases up with up | up <;> cases up

theorem moveSeq_seq (s : State) (y : Tx) (st : SeqState) (x : Tx) : (s.moveSeq y st).seq x = (s.entered y st).seq x :=
  (entered_moveSeq s y st).untouched.seq_eq x

theorem moveSeq_seq_state (s : State) (y : Tx) (st : SeqState) :
    ((s.moveSeq y st).seq y).state = st ∧ ((s.moveSeq y st).seq y).driveSettled = false := by
  rw [moveSeq_seq]
  exact entered_seq_state s y st

/-- A move within the live states, or into one, hands no LO over: the Protection Unit hears nothing. -/
theorem moveSeq_pu {s : State} {y : Tx} {st : SeqState} (live : st.live = true) : (s.moveSeq y st).pu = s.pu := by
  rw [(entered_moveSeq s y st).pu]
  rcases entered_cases s y st with ⟨-, down, -⟩ | ⟨-, eq⟩
  · rw [live] at down
    cases down
  · rw [eq]
    rfl

theorem SeqState.live_of_airborne {st : SeqState} (h : st.paOn = true ∨ st = .paDischarge) : st.live = true := by
  rcases h with on | rfl
  · exact SeqState.live_of_paOn on
  · rfl

theorem settleSeq_pu_of_airborne (fuel : Nat) {s : State} {y : Tx}
    (up : (s.seq y).state.paOn = true ∨ (s.seq y).state = .paDischarge) : (State.settleSeq fuel s y).pu = s.pu := by
  induction fuel generalizing s with
  | zero => rfl
  | succ fuel ih =>
    unfold State.settleSeq
    split
    · rfl
    · next st next =>
      have up' := nextSeq_airborne next up
      refine (ih ?_).trans (moveSeq_pu (SeqState.live_of_airborne up'))
      rwa [(moveSeq_seq_state ..).1]

/-- Without its drive settled a chain's PA stays off (R127). -/
theorem settleSeq_paOff (fuel : Nat) {s : State} {y : Tx} (running : s.phase = .running)
    (off : (s.seq y).state.paOn = false) (unsettled : (s.seq y).driveSettled = false) :
    ((State.settleSeq fuel s y).seq y).state.paOn = false := by
  induction fuel generalizing s with
  | zero => exact off
  | succ fuel ih =>
    unfold State.settleSeq
    split
    · exact off
    · next st next =>
      obtain ⟨state, unsettled'⟩ := moveSeq_seq_state s y st
      refine ih ((moveSeq_frame s y st).phase.trans running) ?_ unsettled'
      rw [state]
      by_contra on
      obtain ⟨-, settled⟩ := (nextSeq_mayPowerUp running next off (Bool.not_eq_false _ ▸ on)).ready
      exact Bool.false_ne_true (unsettled.symm.trans settled)

/-- One decision switches a PA on only where R127 allows it as it decides, and the Protection Unit is as it
was. -/
theorem decideSeq_mayPowerUp {s : State} {y : Tx} (off : (s.seq y).state.paOn = false)
    (on : ((s.decideSeq y).seq y).state.paOn = true) : s.MayPowerUp y ∧ (s.decideSeq y).pu = s.pu := by
  unfold State.decideSeq at on ⊢
  split at on
  · next running =>
    rw [if_pos running]
    unfold State.settleSeq at on ⊢
    split at on
    · exact absurd (off.symm.trans on) Bool.false_ne_true
    · next st next =>
      obtain ⟨state, unsettled⟩ := moveSeq_seq_state s y st
      have running' := (moveSeq_frame s y st).phase.trans running
      have up : st.paOn = true := by
        by_contra down
        have off' := settleSeq_paOff 3 running' (by rw [state]; exact Bool.not_eq_true _ ▸ down) unsettled
        exact Bool.false_ne_true (off'.symm.trans on)
      exact ⟨nextSeq_mayPowerUp running next off up, (settleSeq_pu_of_airborne 3 (.inl (state.symm ▸ up))).trans
        (moveSeq_pu (SeqState.live_of_paOn up))⟩
  · exact absurd (off.symm.trans on) Bool.false_ne_true

theorem decideSeq_seq_other (s : State) {x y : Tx} (apart : x ≠ y) : (s.decideSeq y).seq x = s.seq x := by
  have settle (fuel : Nat) (s : State) : (State.settleSeq fuel s y).seq x = s.seq x := by
    induction fuel generalizing s with
    | zero => rfl
    | succ fuel ih =>
      unfold State.settleSeq
      split
      · rfl
      · exact (ih _).trans ((moveSeq_seq ..).trans (entered_seq_other _ _ apart))
  unfold State.decideSeq
  split
  · exact settle 4 s
  · rfl

/-! ## A write before an operation -/

/-- Command `c` writes `v` from `s` before it lets an operation run: the plans and controllers stand, and what
the invariants read chain by chain still meets them. -/
structure Prepares (c : Instr) (s v : State) : Prop where
  phase : v.phase = s.phase
  pe : v.pe = s.pe
  syn : v.syn = s.syn
  fc : v.fc = s.fc
  lanes : v.lanes = s.lanes
  state : ∀ x, (v.seq x).state = (s.seq x).state
  settled : ∀ x, (v.seq x).driveSettled = true → (s.seq x).driveSettled = true ∨ c = .driveSettleExpiry x
  trips : ∀ x, s.TripsOk x → v.TripsOk x
  level : ∀ x, s.LevelOk x → v.LevelOk x
  conditions : ∀ x, s.ConditionsOk x → v.ConditionsOk x
  sequencer : ∀ x, s.SequencerOk x → v.SequencerOk x
  locked : ¬CarriesRestore c → ∀ x, (s.protection x).lockedOut = true → (v.protection x).lockedOut = true

theorem Prepares.counter {c : Instr} {s v : State} (h : Prepares c s v) (k : s.CounterSound) : v.CounterSound := by
  have synth (d : Chain) : v.synth d = s.synth d := by simp only [State.synth, h.syn]
  refine ⟨fun d => ?_, ?_, fun q mem => ?_, fun m current => ?_⟩
  · rw [synth]; exact k.contexts d
  · rw [State.QueueSound, h.fc]; exact k.nodup
  · rw [synth]; rw [h.fc] at mem; exact k.queued q mem
  · rw [synth, h.fc]; rw [h.fc] at current; exact k.measured m current

/-- The step, where each PA that comes on finds its chain below level 3 and not locked out. -/
theorem Prepares.step {c : Instr} {s v t : State} (h : Prepares c s v) (k : Keeps v t) (frame : PlanFrame v t)
    (allowed : ∀ x, (v.seq x).state.paOn = false → (t.seq x).state.paOn = true →
      (v.protection x).level < 3 → (v.protection x).lockedOut = false → ((s.protection x).level < 3 ∨ (t.protection x).level < 3) ∧
        ((s.protection x).lockedOut = false ∨ (t.protection x).lockedOut = false)) : StepKeeps c s t := by
  have plan : PlanKeeps s t := (PlanKeeps.of_eq h.phase h.pe).trans frame.keeps
  have active : t.pe.active = s.pe.active := k.active.trans (congrArg _ h.pe)
  refine ⟨fun l x => k.trips x (h.trips x (l x)), fun l x => k.level x (h.level x (l x)),
    fun l => k.counter (h.counter l), fun l m x => k.conditions (h.counter l) x nofun (h.conditions x (m x)),
    fun l x => k.sequencer x (h.sequencer x (l x)), fun m l held x => ?_, fun l => ⟨fun n => ?_, plan.blank l.2⟩, plan,
    fun _ _ r x l => k.locked x (h.locked r x l), fun _ _ => .inl ?_, fun sound x before after => ?_⟩
  · rw [k.phase, h.phase] at held
    exact (k.off (h.phase ▸ held) x
      ((h.sequencer x (m x)).1.rests ((h.state x).trans (l held x)))).1
  · rw [k.slots, active, State.lane, h.lanes]
    exact l.1 n
  · rw [frame.issue, h.pe]
  · have before' : (v.seq x).state.paOn = false := by rwa [h.state]
    obtain ⟨running, ready, enabled, verified, wanted, level, lockedOut⟩ :=
      k.powerUp (h.counter sound.counter) x nofun before' after
    obtain ⟨level', lockedOut'⟩ := allowed x before' after level lockedOut
    refine ⟨k.phase.trans running, (h.state x).symm.trans ready.1, h.settled x ready.2, ?_, verified, ?_, level',
      lockedOut'⟩
    · rw [k.active]; exact enabled
    · rw [k.active]; exact wanted

end Sys2Proof.Machine
end

section
/-! PROOFS. The events of the transmit chains. -/

namespace Sys2Proof.Machine

/-! ### The chains' events -/

theorem step_driveSettleExpiry (y : Tx) : Answers (StepKeeps (.driveSettleExpiry y)) (execDriveSettleExpiry y) := by
  intro s t next
  unfold execDriveSettleExpiry at next
  split at next
  · obtain rfl := Host.Outcome.next.inj next
    exact .refl s _
  · next d timer =>
    obtain rfl := Host.Outcome.next.inj next
    refine .later (advanceTo_frame s d) ?_
    have timer' : ((s.advanceTo d).seq y).settleTimer.isSome := by
      rw [(advanceTo_frame s d).untouched.seq_eq, timer]; rfl
    generalize s.advanceTo d = u at timer' ⊢
    have prepared : Prepares (.driveSettleExpiry y) u
        (u.setSeq y { u.seq y with settleTimer := none, driveSettled := true }) := by
      refine ⟨rfl, rfl, rfl, rfl, rfl, fun x => ?_, fun x k => ?_, fun _ => id, fun _ => id, fun _ => id,
        fun x k => ?_, fun _ _ => id⟩
      · rw [setSeq_seq]
        split
        · next eq => rw [eq]
        · rfl
      · rw [setSeq_seq] at k
        split at k
        · next eq => exact .inr (by rw [eq])
        · exact .inl k
      · rw [State.SequencerOk, setSeq_seq]
        split
        · next eq =>
          subst eq
          obtain ⟨⟨settle, settled, waits, discharge, retune, runDown⟩, handed⟩ := k
          exact ⟨⟨nofun, fun _ => ⟨settle timer', rfl⟩, nofun, discharge, retune, runDown⟩, handed⟩
        · exact k
    exact prepared.step (decideSeq_keeps ..) (decideSeq_frame ..).plan fun x _ _ level lockedOut =>
      ⟨.inl level, .inl lockedOut⟩

theorem step_paDischargeExpiry (y : Tx) : Answers (StepKeeps (.paDischargeExpiry y)) (execPaDischargeExpiry y) := by
  intro s t next
  unfold execPaDischargeExpiry at next
  split at next
  · obtain rfl := Host.Outcome.next.inj next
    exact .refl s _
  · next d timer =>
    obtain rfl := Host.Outcome.next.inj next
    refine .later (advanceTo_frame s d) ?_
    have timer' : ((s.advanceTo d).seq y).dischargeTimer = some d := by
      rw [(advanceTo_frame s d).untouched.seq_eq, timer]
    refine Keeps.stepFrame ((moveSeq_keeps (fun _ rests => ?_) fun _ on => ?_).trans (decideSeq_keeps ..))
      ((moveSeq_frame ..).plan.trans (decideSeq_frame ..).plan) _
    · exact absurd (rests.2.symm.trans timer') nofun
    · split at on <;> cases on

/-- A sample of an amplifier input, and its condition. -/
theorem sampled_keeps {s : State} {y : Tx} {q : Sequencer} {c : ChainConditions}
    (state : q.state = (s.seq y).state) (settled : q.driveSettled = (s.seq y).driveSettled)
    (discharge : q.dischargeTimer = (s.seq y).dischargeTimer)
    (handedOver : q.handedOver = (s.seq y).handedOver) (sound : (s.seq y).Sound → q.Sound)
    (lost : c.txLoLost = (s.protection y).present.txLoLost)
    (unverified : c.txLoUnverified = (s.protection y).present.txLoUnverified) :
    Keeps s ((s.setSeq y q).setPresent y c) := by
  refine (setSeq_keeps state settled discharge handedOver sound).trans (setPresent_keeps fun ok => ?_)
  have ok' : (s.synth (.tx y)).conditions (s.protection y).present = (s.protection y).present := ok
  unfold SynContext.conditions at ok' ⊢
  have lost' := congrArg ChainConditions.txLoLost ok'
  have unverified' := congrArg ChainConditions.txLoUnverified ok'
  dsimp only at lost' unverified'
  cases c
  simp_all [State.synth]

theorem step_paFaultInput (y : Tx) (b : Bool) : Answers (StepKeeps (.paFaultInput y b)) (execPaFaultInput y b) := by
  intro s t next
  unfold execPaFaultInput at next
  split at next
  · obtain rfl := Host.Outcome.next.inj next
    exact .refl s _
  · obtain rfl := Host.Outcome.next.inj next
    have sampled : Keeps s ((s.setSeq y { s.seq y with faultSample := b }).setPresent y
        { (s.protection y).present with paFault := b }) :=
      sampled_keeps rfl rfl rfl rfl (fun k => ⟨k.settle, k.settled, k.waits, k.discharge, k.retune, k.runDown⟩)
        rfl rfl
    exact sampled.stepFrame ((setSeq_frame ..).plan.trans (setPresent_frame ..).plan) _

theorem step_paWarningInput (y : Tx) (b : Bool) :
    Answers (StepKeeps (.paWarningInput y b)) (execPaWarningInput y b) := by
  intro s t next
  unfold execPaWarningInput at next
  split at next
  · obtain rfl := Host.Outcome.next.inj next
    exact .refl s _
  · obtain rfl := Host.Outcome.next.inj next
    have sampled : Keeps s ((s.setSeq y { s.seq y with warningSample := b }).setPresent y
        { (s.protection y).present with paWarning := b }) :=
      sampled_keeps rfl rfl rfl rfl (fun k => ⟨k.settle, k.settled, k.waits, k.discharge, k.retune, k.runDown⟩)
        rfl rfl
    exact sampled.stepFrame ((setSeq_frame ..).plan.trans (setPresent_frame ..).plan) _

theorem tellChange_same {s u : State} (h : s.pu = u.pu ∧ s.os = u.os) (b : Bool) :
    (s.tellChange b).pu = u.pu ∧ (s.tellChange b).os = u.os := by
  unfold State.tellChange
  split <;> exact h

theorem probationFailure_same {s u : State} (h : s.pu = u.pu ∧ s.os = u.os) :
    s.probationFailure.pu = u.pu ∧ s.probationFailure.os = u.os := by
  unfold State.probationFailure
  split
  · dsimp only
    split <;> exact h
  · exact h

theorem tellLockout_same {s u : State} (h : s.pu = u.pu ∧ s.os = u.os) (b : Bool) :
    (s.tellLockout b).pu = u.pu ∧ (s.tellLockout b).os = u.os := by
  unfold State.tellLockout
  split
  · rw [requestSite_eq]
    exact probationFailure_same h
  · exact h

/-- A PA that a chain's news switches on leaves the Protection Unit as it was. -/
theorem tellChain_mayPowerUp {s : State} {y : Tx} {b : Bool} (off : (s.seq y).state.paOn = false)
    (on : ((s.tellChain y b).seq y).state.paOn = true) : (s.tellChain y b).pu = s.pu := by
  unfold State.tellChain at on ⊢
  split at on
  · next told =>
    have lanes := decideLanes_frame s (s.lanesOn y)
    rw [if_pos told, (decideSeq_mayPowerUp (by rwa [lanes.untouched.seq_eq]) on).2, lanes.pu]
  · exact absurd (off.symm.trans on) Bool.false_ne_true

theorem step_recoveryHoldExpiry (y : Tx) :
    Answers (StepKeeps (.recoveryHoldExpiry y)) (execRecoveryHoldExpiry y) := by
  intro s t next
  unfold execRecoveryHoldExpiry at next
  split at next
  · obtain rfl := Host.Outcome.next.inj next
    exact .refl s _
  · next d timer =>
    obtain rfl := Host.Outcome.next.inj next
    refine .later (advanceTo_frame s d) ?_
    generalize s.advanceTo d = u
    set v := u.setProtection y ((u.protection y).expire u.severities u.pu.device) with hv
    have protection (x : Tx) : v.protection x =
        if x = y then (u.protection y).expire u.severities u.pu.device else u.protection x :=
      State.protection_setProtection ..
    have prepared : Prepares (.recoveryHoldExpiry y) u v := by
      refine ⟨rfl, rfl, rfl, rfl, rfl, fun _ => rfl, fun _ => .inl, fun x k => ?_, fun x k => ?_, fun x k => ?_,
        fun _ => id, fun _ x k => ?_⟩
      · rw [State.TripsOk, protection]
        split
        · next eq => exact eq ▸ k
        · exact k
      · rw [State.LevelOk, protection]
        split
        · next eq => exact eq ▸ ⟨k.1, le_rfl⟩
        · exact k
      · rw [State.ConditionsOk, protection]
        split
        · next eq => exact eq ▸ k
        · exact k
      · rw [protection]
        split
        · next eq => exact eq ▸ k
        · exact k
    refine prepared.step (handProtection_keeps u v y) (handProtection_frame ..).plan fun x before after level lockedOut => ?_
    by_cases same : x = y
    · subst same
      have pu : (State.handProtection u v x).pu = v.pu := by
        unfold State.handProtection at after ⊢
        dsimp only at after ⊢
        generalize told : State.tellLockout _ _ = w at after ⊢
        have same : w.pu = v.pu ∧ w.os = v.os := by
          rw [← told]
          exact tellLockout_same (tellChange_same ⟨rfl, rfl⟩ _) _
        rw [tellChain_mayPowerUp ?_ after, same.1]
        simpa only [State.seq, same.2] using before
      have protection' : (State.handProtection u v x).protection x = v.protection x := by
        rw [State.protection, pu]
        rfl
      rw [protection']
      exact ⟨.inr level, .inr lockedOut⟩
    · rw [protection, if_neg same] at level lockedOut
      exact ⟨.inl level, .inl lockedOut⟩

end Sys2Proof.Machine
end

section
/-! PROOFS. The events of the inputs, the reference, the synthesizers, the counter and the store. -/

namespace Sys2Proof.Machine

/-! ### The inputs' and the reference's events -/

/-- `t` differs from `s` at most outside the chains' blocks, the lanes and the Plan Engine. -/
structure Outside (s t : State) : Prop where
  phase : t.phase = s.phase
  pe : t.pe = s.pe
  syn : t.syn = s.syn
  fc : t.fc = s.fc
  os : t.os = s.os
  pu : t.pu = s.pu
  lanes : t.lanes = s.lanes

theorem Outside.keeps {s t : State} (h : Outside s t) : Keeps s t :=
  Untouched.keeps ⟨h.phase, congrArg _ h.pe, h.syn, h.fc, h.os, h.pu⟩ fun n => by rw [State.lane, h.lanes]; rfl

theorem Outside.plan {s t : State} (h : Outside s t) : PlanFrame s t := ⟨h.phase, .inl h.pe⟩

/-- The windows just ended, examined slot by slot (R110). -/
def State.examineAll (s : State) (results : Vector Int 16) : State :=
  allSlots.foldl (fun s n => s.examineSlot n (PerSlot.get results n)) s

/-- The boundary noted as the latest at which windows were examined (R110). -/
def State.noteBoundary (s : State) : State := { s with time := { s.time with lastWindow := s.time.steps } }

theorem execInputWindowBoundary_eq (results : Vector Int 16) (s : State) :
    execInputWindowBoundary results s =
      if s.phase = .held then .next s
      else .next (allSlots.foldl State.beginWindow
        ((s.advanceTo s.time.nextWindow).examineAll results).noteBoundary) := by
  unfold execInputWindowBoundary State.examineAll State.noteBoundary
  dsimp only

theorem examineAll_keeps (s : State) (results : Vector Int 16) : Keeps s (s.examineAll results) :=
  foldl_related .refl .trans (fun s n => examineSlot_keeps s n _) _ s

theorem examineAll_frame (s : State) (results : Vector Int 16) : SeqFrame s (s.examineAll results) :=
  foldl_related .refl .trans (fun s n => examineSlot_frame s n _) _ s

theorem noteBoundary_outside (s : State) : Outside s s.noteBoundary := ⟨rfl, rfl, rfl, rfl, rfl, rfl, rfl⟩

theorem beginWindows_laneKeeps (s : State) : LaneKeeps s (allSlots.foldl State.beginWindow s) :=
  foldl_related .refl .trans beginWindow_laneKeeps _ s

theorem step_inputWindowBoundary (r : Vector Int 16) :
    Answers (StepKeeps (.inputWindowBoundary r)) (execInputWindowBoundary r) := by
  intro s t next
  rw [execInputWindowBoundary_eq] at next
  split at next
  · obtain rfl := Host.Outcome.next.inj next
    exact .refl s _
  · obtain rfl := Host.Outcome.next.inj next
    exact .later (advanceTo_frame ..)
      ((((examineAll_keeps ..).trans (noteBoundary_outside _).keeps).trans (beginWindows_laneKeeps _).keeps).stepFrame
        (((examineAll_frame ..).plan.trans (noteBoundary_outside _).plan).trans (beginWindows_laneKeeps _).plan) _)

theorem step_discardHalfExpiry : Answers (StepKeeps .discardHalfExpiry) execDiscardHalfExpiry := by
  intro s t next
  unfold execDiscardHalfExpiry at next
  split at next
  · next d n _ _ _ =>
    obtain rfl := Host.Outcome.next.inj next
    refine .later (advanceTo_frame s d) ?_
    generalize s.advanceTo d = u
    have judging : Outside u { u with probe := { u.probe with
        phase := some .judge, timer := u.afterMs 100, clean := u.probe.clean && u.primarySound n } } :=
      ⟨rfl, rfl, rfl, rfl, rfl, rfl, rfl⟩
    exact judging.keeps.stepFrame judging.plan _
  · obtain rfl := Host.Outcome.next.inj next
    exact .refl s _

theorem step_judgeHalfExpiry (r : Int) : Answers (StepKeeps (.judgeHalfExpiry r)) (execJudgeHalfExpiry r) := by
  intro s t next
  unfold execJudgeHalfExpiry at next
  split at next
  · next d n _ _ _ =>
    obtain rfl := Host.Outcome.next.inj next
    refine .later (advanceTo_frame s d) ?_
    generalize s.advanceTo d = u
    have stopped : Outside u { u with probe := u.probe.stop } := ⟨rfl, rfl, rfl, rfl, rfl, rfl, rfl⟩
    exact ((stopped.keeps.trans (endVisit_keeps ..)).trans (startVisit_keeps ..)).stepFrame
      ((stopped.plan.trans (endVisit_frame ..).plan).trans (startVisit_frame ..).plan) _
  · obtain rfl := Host.Outcome.next.inj next
    exact .refl s _

theorem passWindow_frame (s : State) (present : Bool) : TimeFrame s (s.passWindow present) := by
  unfold State.passWindow
  dsimp only
  split <;> constructor <;> rfl

theorem judgeWindow_keeps (s : State) (present previous sample : Bool) :
    Keeps s (s.judgeWindow present previous sample) := by
  unfold State.judgeWindow
  dsimp only
  split
  · have drawn : Outside s { s with draws := s.draws + 1 } := ⟨rfl, rfl, rfl, rfl, rfl, rfl, rfl⟩
    refine drawn.keeps.trans (Keeps.trans ?_ (setReference_keeps ..))
    split
    · exact setReference_keeps ..
    · exact .refl _
  · exact (moveReference_keeps ..).trans (moveReference_keeps ..)

theorem judgeWindow_plan (s : State) (present previous sample : Bool) :
    PlanFrame s (s.judgeWindow present previous sample) := by
  obtain ⟨d, -, -, frame⟩ := judgeWindow_frame s present previous sample
  exact ⟨frame.phase, frame.pe⟩

theorem step_presenceWindowEnd (e : Nat) (b : Bool) :
    Answers (StepKeeps (.presenceWindowEnd e b)) (execPresenceWindowEnd e b) := by
  intro s t next
  unfold execPresenceWindowEnd at next
  split at next
  · obtain rfl := Host.Outcome.next.inj next
    exact .refl s _
  · obtain rfl := Host.Outcome.next.inj next
    refine .later (passWindow_frame s (judgedPresent e)) ?_
    generalize s.passWindow (judgedPresent e) = u
    have counted : Outside u { u with ref := { u.ref with lastCount := e, disciplined := b } } :=
      ⟨rfl, rfl, rfl, rfl, rfl, rfl, rfl⟩
    exact (counted.keeps.trans (judgeWindow_keeps ..)).stepFrame (counted.plan.trans (judgeWindow_plan ..)) _

theorem step_qualifyExpiry : Answers (StepKeeps .qualifyExpiry) execQualifyExpiry := by
  intro s t next
  unfold execQualifyExpiry at next
  split at next
  · obtain rfl := Host.Outcome.next.inj next
    exact .refl s _
  · obtain rfl := Host.Outcome.next.inj next
    exact .later (advanceTo_frame ..) ((setReference_keeps ..).stepFrame (setReference_frame ..).1.plan _)

theorem step_holdoverExpiry : Answers (StepKeeps .holdoverExpiry) execHoldoverExpiry := by
  intro s t next
  unfold execHoldoverExpiry at next
  split at next
  · obtain rfl := Host.Outcome.next.inj next
    exact .refl s _
  · obtain rfl := Host.Outcome.next.inj next
    exact .later (advanceTo_frame ..) ((setReference_keeps ..).stepFrame (setReference_frame ..).1.plan _)

/-! ### The synthesizers' and the counter's events -/

theorem step_programmingComplete (c : Chain) :
    Answers (StepKeeps (.programmingComplete c)) (execProgrammingComplete c) := by
  intro s t next
  unfold execProgrammingComplete at next
  split at next
  · next w line =>
    obtain rfl := Host.Outcome.next.inj next
    exact (programmed_keeps line).stepFrame
      ((endProgramming_frame ..).plan.trans (afterProgramming_frame ..).plan) _
  all_goals
    obtain rfl := Host.Outcome.next.inj next
    exact .refl s _

theorem step_powerDownTransferEnd (c : Chain) :
    Answers (StepKeeps (.powerDownTransferEnd c)) (execPowerDownTransferEnd c) := by
  intro s t next
  unfold execPowerDownTransferEnd at next
  split at next
  · obtain rfl := Host.Outcome.next.inj next
    refine (poweredDown_keeps s c).stepFrame ?_ _
    split
    · exact (setSynth_frame ..).plan.trans (startProgramming_frame ..).plan
    · exact (setSynth_frame ..).plan
  all_goals
    obtain rfl := Host.Outcome.next.inj next
    exact .refl s _

theorem TimeFrame.synth_eq {s t : State} (h : TimeFrame s t) (c : Chain) : t.synth c = s.synth c :=
  h.untouched.synth_eq c

theorem step_settleExpiry (c : Chain) (b : Bool) : Answers (StepKeeps (.settleExpiry c b)) (execSettleExpiry c b) := by
  intro s t next
  unfold execSettleExpiry at next
  split at next
  · obtain rfl := Host.Outcome.next.inj next
    exact .refl s _
  · next d timer =>
    obtain rfl := Host.Outcome.next.inj next
    have timer' : ((s.advanceTo d).synth c).settle.isSome := by
      rw [(advanceTo_frame s d).synth_eq, timer]; rfl
    refine .later (advanceTo_frame s d) ?_
    have keeps := settled_keeps timer' b
    have cleared := (setSynth_frame (s.advanceTo d) c { (s.advanceTo d).synth c with settle := none }).plan
    refine keeps.stepFrame (cleared.trans ?_) _
    split
    · exact (enterQueued_frame ..).plan
    · exact (failedAttempt_frame ..).plan

theorem step_retryExpiry (c : Chain) : Answers (StepKeeps (.retryExpiry c)) (execRetryExpiry c) := by
  intro s t next
  unfold execRetryExpiry at next
  split at next
  · obtain rfl := Host.Outcome.next.inj next
    exact .refl s _
  · next d timer =>
    obtain rfl := Host.Outcome.next.inj next
    refine .later (advanceTo_frame s d) ((freshCycle_keeps fun k => ?_).stepFrame (freshCycle_frame ..).plan _)
    refine (k.contexts c).retry ?_
    rw [(advanceTo_frame s d).synth_eq, timer]
    rfl

theorem step_auditExpiry (c : Chain) : Answers (StepKeeps (.auditExpiry c)) (execAuditExpiry c) := by
  intro s t next
  unfold execAuditExpiry at next
  split at next
  · obtain rfl := Host.Outcome.next.inj next
    exact .refl s _
  · next d timer =>
    obtain rfl := Host.Outcome.next.inj next
    refine .later (advanceTo_frame s d) ((startAudit_keeps fun k => ?_).stepFrame (startAudit_frame ..).plan _)
    refine (k.contexts c).audit ?_
    rw [(advanceTo_frame s d).synth_eq, timer]
    rfl

theorem step_lockDrop (c : Chain) : Answers (StepKeeps (.lockDrop c)) (execLockDrop c) := by
  intro s t next
  unfold execLockDrop at next
  obtain rfl := Host.Outcome.next.inj next
  split
  · next verified =>
    exact (loseLock_loses _ fun _ => by simpa [State.isVerified] using verified).stepFrame (loseLock_frame ..).plan _
  · exact .refl s _

theorem step_gateClose (g : GateClosing) : Answers (StepKeeps (.gateClose g)) (execGateClose g) := by
  intro s t next
  unfold execGateClose at next
  split at next
  · obtain rfl := Host.Outcome.next.inj next
    exact .refl s _
  · next m current =>
    obtain rfl := Host.Outcome.next.inj next
    split
    · exact .refl s _
    · have current' : (s.advanceTo (ceilDiv m.gateEnd 10)).fc.current = some m := by
        rw [(advanceTo_frame ..).fc, current]
      exact .later (advanceTo_frame ..) ((endMeasurement_loses _ _ _ current').stepFrame
        (endMeasurement_frame ..).plan _)

theorem advanceBackup_frame (s : State) (d : Nat) : TimeFrame s (s.advanceBackup d) := by
  unfold State.advanceBackup
  dsimp only
  split
  · exact advanceTo_frame ..
  · constructor <;> rfl

theorem step_measurementTimeout : Answers (StepKeeps .measurementTimeout) execMeasurementTimeout := by
  intro s t next
  unfold execMeasurementTimeout at next
  split at next
  · obtain rfl := Host.Outcome.next.inj next
    exact .refl s _
  · next m current =>
    obtain rfl := Host.Outcome.next.inj next
    have current' : (s.advanceBackup m.timeout).fc.current = some m := by
      rw [(advanceBackup_frame ..).fc, current]
    exact .later (advanceBackup_frame ..) ((endMeasurement_loses _ _ _ current').stepFrame
      (endMeasurement_frame ..).plan _)

/-! ### The store's and the supply's events -/

theorem setRecord_outside (s : State) (r : RecordName) (x : StoredRecord) : Outside s (s.setRecord r x) :=
  ⟨rfl, rfl, rfl, rfl, rfl, rfl, rfl⟩

theorem notifyBoth_outside (s : State) (n : Notice) : Outside s (s.notifyBoth n) :=
  ⟨rfl, rfl, rfl, rfl, rfl, rfl, rfl⟩

theorem setPort_outside (s : State) (p : Port) (x : PortState) : Outside s (s.setPort p x) :=
  ⟨rfl, rfl, rfl, rfl, rfl, rfl, rfl⟩

theorem requestWrite_outside (s : State) (r : RecordName) (c : Content) : Outside s (s.requestWrite r c) := by
  rw [requestWrite_eq]
  exact ⟨rfl, rfl, rfl, rfl, rfl, rfl, rfl⟩

theorem writerStart_outside (s : State) : Outside s s.writerStart := by
  rw [writerStart_eq]
  exact ⟨rfl, rfl, rfl, rfl, rfl, rfl, rfl⟩

theorem Outside.refl (s : State) : Outside s s := ⟨rfl, rfl, rfl, rfl, rfl, rfl, rfl⟩

theorem Outside.trans {s t u : State} (a : Outside s t) (b : Outside t u) : Outside s u :=
  ⟨b.phase.trans a.phase, b.pe.trans a.pe, b.syn.trans a.syn, b.fc.trans a.fc, b.os.trans a.os, b.pu.trans a.pu,
    b.lanes.trans a.lanes⟩

theorem Outside.step {s t : State} (h : Outside s t) (c : Instr) : StepKeeps c s t := h.keeps.stepFrame h.plan c

theorem completeWrite_outside (s : State) (w : InFlight) (b : Bool) : Outside s (s.completeWrite w b) := by
  unfold State.completeWrite
  dsimp only
  split
  · exact (setRecord_outside ..).trans (notifyBoth_outside ..)
  · split
    · exact (setRecord_outside ..).trans (notifyBoth_outside ..)
    · exact setRecord_outside ..

theorem step_storeWriteCompletion (b : Bool) :
    Answers (StepKeeps (.storeWriteCompletion b)) (execStoreWriteCompletion b) := by
  intro s t next
  unfold execStoreWriteCompletion at next
  split at next
  · obtain rfl := Host.Outcome.next.inj next
    exact .refl s _
  · next w _ =>
    obtain rfl := Host.Outcome.next.inj next
    have idle : Outside s { s with store := { s.store with inFlight := none } } :=
      ⟨rfl, rfl, rfl, rfl, rfl, rfl, rfl⟩
    exact ((idle.trans (completeWrite_outside ..)).trans (writerStart_outside ..)).step _

theorem step_storeRetryExpiry (r : RecordName) :
    Answers (StepKeeps (.storeRetryExpiry r)) (execStoreRetryExpiry r) := by
  intro s t next
  unfold execStoreRetryExpiry at next
  split at next
  · obtain rfl := Host.Outcome.next.inj next
    exact .refl s _
  · next d _ =>
    obtain rfl := Host.Outcome.next.inj next
    exact .later (advanceTo_frame s d) (((setRecord_outside ..).trans (writerStart_outside ..)).step _)

theorem moveSupply_keeps (s : State) (st : SupplyState) : Keeps s (s.moveSupply st) ∧ PlanFrame s (s.moveSupply st) := by
  unfold State.moveSupply
  split
  · exact ⟨.refl s, .refl s⟩
  · have told : Outside s ({ s with supply := { s.supply with state := st } }.notifyBoth .supplyChanged) :=
      ⟨rfl, rfl, rfl, rfl, rfl, rfl, rfl⟩
    exact ⟨(told.keeps.trans (setDevice_keeps ..)).trans (writerStart_keeps ..),
      (told.plan.trans (setDevice_frame ..).plan).trans (writerStart_outside ..).plan⟩

end Sys2Proof.Machine
end

section
/-! PROOFS. Reset: the state after it is sound, and the commands into it and out of it. -/

namespace Sys2Proof.Machine

/-! ### Reset -/

/-- The Plan Engine, the controllers, the counter, the lanes and the sequencers are in their state after reset,
no chain condition is present and no trip recorded. -/
structure State.AtReset (s : State) : Prop where
  pe : s.pe = State.reset.pe
  syn : s.syn = State.reset.syn
  fc : s.fc = State.reset.fc
  os : s.os = State.reset.os
  lanes : s.lanes = State.reset.lanes
  trips : ∀ x, (s.protection x).trips = []
  present : ∀ x, (s.protection x).present = ⟨false, false, false, false⟩
  level : ∀ x, s.LevelOk x

section AtReset
variable {s : State} (h : s.AtReset)
include h

theorem State.AtReset.synth_eq (c : Chain) : s.synth c = .reset := by
  rw [State.synth, h.syn]
  cases c with
  | rx r => cases r <;> rfl
  | tx x => cases x <;> rfl

theorem State.AtReset.seq_eq (x : Tx) : s.seq x = .reset := by
  rw [State.seq, h.os]
  cases x <;> rfl

theorem State.AtReset.sound : s.Sound := by
  have plan : PlanKeeps s s := .of_reset h.pe
  have history : s.HistorySound ∧ s.RevertSound := by
    refine ⟨fun k _ => ?_, fun on => ?_, fun _ => ?_⟩
    · rw [h.pe]
      exact (show ∀ k, State.reset.pe.entry k = none by decide) _
    · rw [h.pe] at on; cases on
    · rw [h.pe]; rfl
  refine ⟨?_, ?_, history.1, history.2, ⟨fun c => ?_, ?_, ?_, ?_⟩, fun x => ?_, fun _ x => ?_, fun x => ?_, h.level,
    fun x => ?_, fun n => ?_, fun _ => ?_⟩
  · rw [State.GrantSound, h.pe]; rfl
  · rw [State.ProbationSound, h.pe]; decide
  · rw [h.synth_eq]; exact ⟨nofun, nofun, nofun, nofun, nofun⟩
  · rw [State.QueueSound, h.fc]; exact List.nodup_nil
  · rw [h.fc]; exact nofun
  · rw [h.fc]; exact nofun
  · rw [h.seq_eq, h.synth_eq]
    exact ⟨⟨nofun, nofun, nofun, ⟨nofun, nofun⟩, nofun, nofun⟩, rfl⟩
  · rw [h.seq_eq]; rfl
  · rw [h.trips]; exact Nat.zero_le _
  · rw [h.synth_eq, h.present]; rfl
  · rw [State.lane, h.lanes, h.pe]
    exact (show ∀ n, (State.reset.lanes.get n).slot = State.reset.pe.active.slots.get n by decide) n
  · rw [h.pe]
    exact ⟨rfl, rfl, by decide⟩

theorem State.AtReset.step {u : State} {c : Instr} (resets : Resets c) : StepKeeps c u s where
  trips _ := h.sound.trips
  level _ := h.sound.level
  counter _ := h.sound.counter
  conditions _ _ := h.sound.conditions
  sequencers _ := h.sound.sequencers
  off _ _ := h.sound.off
  lanes _ := h.sound.lanes
  plan := .of_reset h.pe
  locked not := absurd resets not
  issue not := absurd resets not
  powerUp _ x _ after := by
    rw [h.seq_eq] at after
    cases after

/-- What else the Supply Monitor, the ports and the store do at a reset leaves the blocks so. -/
theorem State.AtReset.outside {t : State} (o : Outside s t) : t.AtReset := by
  have protection (x : Tx) : t.protection x = s.protection x := by rw [State.protection, o.pu]; rfl
  refine ⟨o.pe.trans h.pe, o.syn.trans h.syn, o.fc.trans h.fc, o.os.trans h.os, o.lanes.trans h.lanes,
    fun x => ?_, fun x => ?_, fun x => ?_⟩
  · rw [protection]; exact h.trips x
  · rw [protection]; exact h.present x
  · rw [State.LevelOk, protection, State.severities, o.pe, o.pu]
    exact h.level x

end AtReset

theorem highestSeverity_none (v : Severities) :
    highestSeverity v ⟨false, false, false, false, false⟩ ⟨false, false, false, false⟩ = 0 := rfl

theorem enterHold_atReset (s : State) : s.enterHold.AtReset := by
  refine ⟨rfl, rfl, rfl, rfl, rfl, fun x => ?_, fun x => ?_, fun x => ?_⟩
  · cases x <;> rfl
  · cases x <;> rfl
  · cases x <;> exact ⟨(highestSeverity_none _).symm, le_rfl⟩

theorem reset_atReset : State.reset.AtReset := by
  refine ⟨rfl, rfl, rfl, rfl, rfl, fun x => ?_, fun x => ?_, fun x => ?_⟩
  · cases x <;> rfl
  · cases x <;> rfl
  · cases x <;> exact ⟨by decide, le_rfl⟩

theorem released_atReset (s : State) (m : HalfPercent) (strap : Strap) : (s.released m strap).AtReset := by
  have severities : ∀ b, highestSeverity State.reset.severities { State.reset.pu.device with supplyWarning := b }
      ⟨false, false, false, false⟩ = 3 := by decide
  refine ⟨rfl, rfl, rfl, rfl, rfl, fun x => ?_, fun x => ?_, fun x => ?_⟩
  · cases x <;> rfl
  · cases x <;> rfl
  · cases x <;> exact ⟨(severities _).symm, le_rfl⟩

theorem loseRecord_outside (s : State) : Outside s s.loseRecord := ⟨rfl, rfl, rfl, rfl, rfl, rfl, rfl⟩

theorem setSupply_outside (s : State) (x : Supply) : Outside s { s with supply := x } :=
  ⟨rfl, rfl, rfl, rfl, rfl, rfl, rfl⟩

theorem measureHeld_outside (s : State) (m : HalfPercent) : Outside s (s.measureHeld m) := by
  unfold State.measureHeld
  dsimp only
  split
  · exact (setSupply_outside ..).trans (loseRecord_outside _)
  · exact setSupply_outside ..

theorem step_supplyMeasurement (m : HalfPercent) :
    Answers (StepKeeps (.supplyMeasurement m)) (execSupplyMeasurement m) := by
  intro s t next
  unfold execSupplyMeasurement at next
  split at next
  · obtain rfl := Host.Outcome.next.inj next
    exact (measureHeld_outside s m).step _
  · split at next
    · next below =>
      obtain rfl := Host.Outcome.next.inj next
      exact ((enterHold_atReset s).outside (measureHeld_outside _ m)).step (.inl ⟨m, below, rfl⟩)
    · obtain rfl := Host.Outcome.next.inj next
      have measured := setSupply_outside s { s.supply with measurement := m }
      obtain ⟨keeps, plan⟩ := moveSupply_keeps { s with supply := { s.supply with measurement := m } }
        (s.supply.state.after m)
      exact (measured.keeps.trans keeps).stepFrame (measured.plan.trans plan) _

theorem step_powerOn : Answers (StepKeeps .powerOn) execPowerOn := by
  intro s t next
  obtain rfl := Host.Outcome.next.inj next
  exact ((enterHold_atReset s).outside ((setSupply_outside ..).trans (loseRecord_outside _))).step (.inr (.inl rfl))

theorem step_resetPinAssert : Answers (StepKeeps .resetPinAssert) execResetPinAssert := by
  intro s t next
  obtain rfl := Host.Outcome.next.inj next
  split
  · exact (setSupply_outside ..).step _
  · exact ((enterHold_atReset s).outside (setSupply_outside ..)).step (.inr (.inr (.inl rfl)))

theorem step_resetRelease (m : HalfPercent) (pin : Bool) (strap : Strap) :
    Answers (StepKeeps (.resetRelease m pin strap)) (execResetRelease m pin strap) := by
  intro s t next
  unfold execResetRelease at next
  split at next
  · obtain rfl := Host.Outcome.next.inj next
    exact .refl s _
  · split at next
    · obtain rfl := Host.Outcome.next.inj next
      exact (released_atReset s m strap).step (.inr (.inr (.inr ⟨m, pin, strap, rfl⟩)))
    · obtain rfl := Host.Outcome.next.inj next
      exact ((measureHeld_outside s m).trans (setSupply_outside ..)).step _

end Sys2Proof.Machine
end

section
/-! PROOFS. The requests and the frames. -/

namespace Sys2Proof.Machine

/-! ### Operations before and after a step -/

/-- An operation may run before a step that keeps the synthesizer of a PA that is on. -/
theorem StepKeeps.after {c : Instr} {s t u : State} (a : Keeps s t) (frame : PlanFrame s t) (h : StepKeeps c t u)
    (other : ∀ x, c ≠ .driveSettleExpiry x)
    (stays : t.CounterSound → ∀ x, (t.seq x).state.paOn = true → (u.seq x).state.paOn = true →
      (t.synth (.tx x)).state = .verified →
      (u.synth (.tx x)).state = .verified ∧ (u.synth (.tx x)).wanted = (t.synth (.tx x)).wanted ∧
        u.phase = t.phase ∧ u.pe.active = t.pe.active) : StepKeeps c s u where
  trips k := h.trips fun x => a.trips x (k x)
  level k := h.level fun x => a.level x (k x)
  counter k := h.counter (a.counter k)
  conditions k l := h.conditions (a.counter k) fun x => a.conditions k x nofun (l x)
  sequencers k := h.sequencers fun x => a.sequencer x (k x)
  off k l := h.off (fun x => a.sequencer x (k x)) fun held x =>
    (a.off (a.phase ▸ held) x ((k x).1.rests (l (a.phase ▸ held) x))).1
  lanes k := h.lanes ⟨fun n => (a.slots n).trans (by rw [a.active]; exact k.1 n), frame.keeps.blank k.2⟩
  plan := frame.keeps.trans h.plan
  locked p q r x k := h.locked p q r x (a.locked x k)
  issue p q := frame.issue ▸ h.issue p q
  powerUp sound x before after := by
    cases between : (t.seq x).state.paOn with
    | true =>
      obtain ⟨running, ready, enabled, verified, wanted, level, lockedOut⟩ :=
        a.powerUp sound.counter x nofun before between
      obtain ⟨verified', wanted', phase, active⟩ := stays (a.counter sound.counter) x between after verified
      refine ⟨phase.trans (a.phase.trans running), ready.1, .inl ready.2, ?_, verified', ?_, .inl level,
        .inl lockedOut⟩
      · rw [active, a.active]; exact enabled
      · rw [active, a.active]; exact wanted'.trans wanted
    | false =>
      obtain ⟨running, state, settled, enabled, verified, wanted, level, lockedOut⟩ :=
        h.powerUp (a.sound frame.keeps sound) x between after
      have ready := a.ready x ⟨state, settled.resolve_right (other x)⟩
      refine ⟨running, ready.1, .inl ready.2, enabled, verified, wanted, ?_, ?_⟩
      · exact level.imp_left (lt_of_le_of_lt (a.rises x))
      · refine lockedOut.imp_left fun free => ?_
        by_contra locked
        rw [a.locked x (Bool.not_eq_false _ ▸ locked)] at free
        cases free

/-- A write outside the blocks may follow a step. -/
theorem StepKeeps.then {c : Instr} {s t u : State} (h : StepKeeps c s t) (o : Outside t u) : StepKeeps c s u := by
  have keeps := o.keeps
  have protection (x : Tx) : u.protection x = t.protection x := by rw [State.protection, o.pu]; rfl
  have seq (x : Tx) : u.seq x = t.seq x := by rw [State.seq, o.os]; rfl
  have synth (d : Chain) : u.synth d = t.synth d := by rw [State.synth, o.syn]; rfl
  refine ⟨fun k x => keeps.trips x (h.trips k x), fun k x => keeps.level x (h.level k x),
    fun k => keeps.counter (h.counter k), fun k l x => keeps.conditions (h.counter k) x nofun (h.conditions k l x),
    fun k x => keeps.sequencer x (h.sequencers k x), fun k l held x => ?_, fun k => ⟨fun n => ?_, ?_⟩,
    h.plan.trans o.plan.keeps, fun p q r x k => ?_, fun p q => ?_, fun sound x before after => ?_⟩
  · rw [seq]; exact h.off k l (o.phase ▸ held) x
  · rw [keeps.slots, o.pe]; exact (h.lanes k).1 n
  · exact o.plan.keeps.blank (h.lanes k).2
  · rw [protection]; exact h.locked p q r x k
  · rw [o.pe]; exact h.issue p q
  · rw [seq] at after
    obtain ⟨running, state, settled, enabled, verified, wanted, level, lockedOut⟩ := h.powerUp sound x before after
    refine ⟨o.phase.trans running, state, settled, ?_, ?_, ?_, ?_, ?_⟩
    · rw [o.pe]; exact enabled
    · rw [synth]; exact verified
    · rw [o.pe, synth]; exact wanted
    · rw [protection]; exact level
    · rw [protection]; exact lockedOut

/-! ### The requests (R167) -/

theorem heard_keeps (s : State) (p : Port) : Keeps s (s.heard p) := by
  unfold State.heard
  dsimp only
  split
  · exact ((setPort_keeps ..).trans (setPort_keeps ..)).trans (setDevice_keeps ..)
  · exact setPort_keeps ..

/-- A request's owner keeps every invariant, and the plans' own. -/
structure Serves (s t : State) : Prop where
  keeps : Keeps s t
  plan : PlanKeeps s t
  issue : t.pe.lastIssued = s.pe.lastIssued ∨ t.pe.lastIssued = s.pe.lastIssued + 1

theorem Outside.serves {s t : State} (h : Outside s t) : Serves s t := ⟨h.keeps, h.plan.keeps, .inl h.plan.issue⟩

theorem Serves.refl (s : State) : Serves s s := (Outside.refl s).serves

/-- A request that changes the grant, the staged plan or the pending apply alone. -/
theorem Serves.of_plan {s : State} {e : PlanEngine} (running : s.phase = .running)
    (history : e.history = s.pe.history ∧ e.top = s.pe.top) (active : e.active = s.pe.active)
    (status : e.status = s.pe.status ∧ e.probation = s.pe.probation)
    (grant : s.GrantSound → e.grant.isSome = e.staged.isSome)
    (pending : s.HistorySound → s.RevertSound → e.pendingPlan = none → e.pendingApply = none)
    (issue : e.lastIssued = s.pe.lastIssued ∨ e.lastIssued = s.pe.lastIssued + 1) : Serves s { s with pe := e } where
  keeps := Untouched.keeps ⟨rfl, active, rfl, rfl, rfl, rfl⟩ fun _ => rfl
  plan := .of_history rfl history active grant
    (fun k => by simpa only [State.ProbationSound, status.1, status.2] using k) (fun k => status.1 ▸ k) pending
    fun held => absurd running held
  issue := issue

theorem pendingPlan_of_change {e : PlanEngine} {r : PendingApply} (pending : e.pendingApply = some r)
    (found : r.change = .revert → e.entry 0 ≠ none) : e.pendingPlan ≠ none := by
  cases change : r.change with
  | commit plan =>
    rw [PlanEngine.pendingPlan_commit pending change]
    exact nofun
  | revert =>
    rw [PlanEngine.pendingPlan_revert pending change]
    exact found change

theorem HistorySound.entry_zero {s : State} (h : s.HistorySound) (deep : s.pe.depth ≠ 0) : s.pe.entry 0 ≠ none := by
  intro none
  refine deep (s.pe.depth_eq_zero_iff.mpr fun k => ?_)
  have one := h 0 none
  have two := h 1 one
  have three := h 2 two
  match k with
  | 0 => exact none
  | 1 => exact one
  | 2 => exact two
  | 3 => exact three

theorem measure_keeps (s : State) (c : Chain) : Keeps s (s.measure c).1 := by
  unfold State.measure
  dsimp only
  split
  · next verified =>
    dsimp only
    split
    · exact .refl s
    · next quiet => exact startAudit_keeps fun _ => ⟨verified, Bool.not_eq_true _ ▸ quiet⟩
  · next failed => exact freshCycle_keeps fun _ => failed
  all_goals exact .refl s

section Serve
variable {s : State} (running : s.phase = .running) (p : Port) (b : List Byte)
include running

theorem edit_serves (f : Plan → Plan) : Serves s (s.edit f) := by
  refine .of_plan running ⟨rfl, rfl⟩ rfl ⟨rfl, rfl⟩ (fun k => ?_) (fun _ r => r.2) (.inl rfl)
  rw [Option.isSome_map]
  exact k

theorem takeEdit_serves : Serves s (serveTakeEdit p s).1 := by
  unfold serveTakeEdit
  split
  · exact .of_plan running ⟨rfl, rfl⟩ rfl ⟨rfl, rfl⟩ (fun _ => rfl) (fun _ r => r.2) (.inl rfl)
  · split <;> exact .refl s

theorem releaseGrant_serves : Serves s s.releaseGrant :=
  .of_plan running ⟨rfl, rfl⟩ rfl ⟨rfl, rfl⟩ (fun _ => rfl) (fun _ r => r.2) (.inl rfl)

theorem commit_serves : Serves s (serveCommit p s).1 := by
  unfold serveCommit
  split
  · exact .refl s
  · next plan staged =>
    split
    · exact .refl s
    · split
      · exact .refl s
      · refine .of_plan running ⟨rfl, rfl⟩ rfl ⟨rfl, rfl⟩ (fun k => ?_) (fun _ _ none => ?_) (.inr rfl)
        · rw [State.GrantSound, staged] at k
          exact k
        · exact absurd none (pendingPlan_of_change rfl nofun)

theorem cancelCommit_serves : Serves s (serveCancelCommit s).1 := by
  unfold serveCancelCommit
  split
  · exact .refl s
  · have cancelled : Serves s { s with pe := { s.pe with pendingApply := none } } :=
      .of_plan running ⟨rfl, rfl⟩ rfl ⟨rfl, rfl⟩ id (fun _ _ _ => rfl) (.inl rfl)
    have told := notifyBoth_outside { s with pe := { s.pe with pendingApply := none } } .commitCancelled
    exact ⟨cancelled.keeps.trans told.keeps, cancelled.plan.trans told.plan.keeps, .inl rfl⟩

theorem revert_serves : Serves s (serveRevert p s).1 := by
  unfold serveRevert
  split
  · exact .refl s
  · next deep =>
    split
    · exact .refl s
    · refine .of_plan running ⟨rfl, rfl⟩ rfl ⟨rfl, rfl⟩ id (fun h _ none => ?_) (.inl rfl)
      exact absurd none (pendingPlan_of_change rfl fun _ => HistorySound.entry_zero h deep)

theorem serve_serves {k : RequestKind} (other : k ≠ .restoreChain) : Serves s (serve k p b s).1 := by
  cases k with
  | nop => exact .refl s
  | readStatus =>
    change Serves s (serveReadStatus p b s).1
    unfold serveReadStatus
    split
    · exact .refl s
    · split <;> exact .refl s
  | readPlan =>
    change Serves s (serveReadPlan p b s).1
    unfold serveReadPlan
    split
    · exact .refl s
    · split <;> exact .refl s
  | readNotices => exact (setPort_outside ..).serves
  | takeEdit => exact takeEdit_serves running p
  | releaseEdit => exact releaseGrant_serves running
  | setChain =>
    change Serves s (serveSetChain b s).1
    unfold serveSetChain
    split
    · exact .refl s
    · exact edit_serves running _
  | setSlot =>
    change Serves s (serveSetSlot b s).1
    unfold serveSetSlot
    split
    · exact .refl s
    · exact edit_serves running _
  | clearSlot =>
    change Serves s (serveClearSlot b s).1
    unfold serveClearSlot
    split
    · exact .refl s
    · exact edit_serves running _
  | setProfile =>
    change Serves s (serveSetProfile b s).1
    unfold serveSetProfile
    split
    · exact .refl s
    · exact edit_serves running _
  | commit => exact commit_serves running p
  | cancelCommit => exact cancelCommit_serves running
  | revert => exact revert_serves running p
  | restoreChain => exact absurd rfl other
  | measure =>
    change Serves s (serveMeasure b s).1
    unfold serveMeasure
    split
    · exact .refl s
    · next c _ =>
      have frame := (measure_frame s c).plan
      exact ⟨measure_keeps s c, frame.keeps, .inl frame.issue⟩
  | storeDefault =>
    change Serves s (serveStoreDefault s).1
    unfold serveStoreDefault
    split
    · exact (requestWrite_outside ..).serves
    · exact .refl s
  | clearResetCause =>
    exact (((setSupply_outside ..).trans (setRecord_outside ..)).trans (setRecord_outside ..)).serves

end Serve

/-! ### RESTORE_CHAIN (R147) -/

theorem requestSite_outside (s : State) : Outside s s.requestSite := requestWrite_outside ..

/-- The trip list emptied and the lockout lifted (R147). -/
def State.unlocked (s : State) (y : Tx) : State :=
  s.setProtection y { s.protection y with trips := [], lockedOut := false }

theorem unlocked_prepares (s : State) (y : Tx) {c : Instr} (carries : CarriesRestore c) :
    Prepares c s (s.unlocked y) := by
  have protection (x : Tx) : (s.unlocked y).protection x =
      if x = y then { s.protection y with trips := [], lockedOut := false } else s.protection x :=
    State.protection_setProtection ..
  refine ⟨rfl, rfl, rfl, rfl, rfl, fun _ => rfl, fun _ => .inl, fun x k => ?_, fun x k => ?_, fun x k => ?_,
    fun _ => id, fun not => absurd carries not⟩
  · rw [State.TripsOk, protection]
    split
    · exact Nat.zero_le _
    · exact k
  · rw [State.LevelOk, protection]
    split
    · next eq => exact eq ▸ k
    · exact k
  · rw [State.ConditionsOk, protection]
    split
    · next eq => exact eq ▸ k
    · exact k

theorem lockoutRemoved_keeps (s : State) (y : Tx) : Keeps s (s.setSeq y (s.seq y).lockoutRemoved) := by
  refine setSeq_keeps rfl rfl rfl rfl fun k => ⟨k.settle, k.settled, k.waits, k.discharge, k.retune, fun down => ?_⟩
  simp only [Sequencer.lockoutRemoved, Bool.or_eq_true, beq_iff_eq] at down
  exact down.elim k.runDown .inl

/-- What follows the lifting of a lockout: the write, the notice and the sequencer's decision. -/
def State.tellRestored (s : State) (y : Tx) : State :=
  let s' := s.requestSite.notifyBoth .chainChanged
  (s'.setSeq y (s'.seq y).lockoutRemoved).decideSeq y

theorem restore_eq (s : State) (y : Tx) :
    s.restore y = if (s.protection y).lockedOut then (s.unlocked y).tellRestored y else s.unlocked y := rfl

theorem tellRestored_keeps (s : State) (y : Tx) : Keeps s (s.tellRestored y) :=
  (((requestSite_outside s).trans (notifyBoth_outside ..)).keeps.trans (lockoutRemoved_keeps ..)).trans
    (decideSeq_keeps ..)

theorem tellRestored_plan (s : State) (y : Tx) : PlanFrame s (s.tellRestored y) :=
  (((requestSite_outside s).trans (notifyBoth_outside ..)).plan.trans (setSeq_frame ..).plan).trans
    (decideSeq_frame ..).plan

theorem tellRestored_pu {s : State} {y x : Tx} (off : (s.seq x).state.paOn = false)
    (on : ((s.tellRestored y).seq x).state.paOn = true) : x = y ∧ (s.tellRestored y).pu = s.pu := by
  unfold State.tellRestored at on ⊢
  dsimp only at on ⊢
  have told := (requestSite_outside s).trans (notifyBoth_outside _ .chainChanged)
  generalize s.requestSite.notifyBoth .chainChanged = u at told on ⊢
  have seq (x : Tx) : u.seq x = s.seq x := by rw [State.seq, told.os]; rfl
  by_cases same : x = y
  · subst same
    refine ⟨rfl, (decideSeq_mayPowerUp ?_ on).2.trans told.pu⟩
    rw [State.seq_setSeq_same, seq]
    exact off
  · rw [decideSeq_seq_other _ same, setSeq_seq, if_neg same, seq, off] at on
    cases on

theorem restore_verified (s : State) (y : Tx) : s.CounterSound → ∀ x, (s.seq x).state.paOn = true →
    ((s.restore y).seq x).state.paOn = true → (s.synth (.tx x)).state = .verified →
    ((s.restore y).synth (.tx x)).state = .verified ∧
      ((s.restore y).synth (.tx x)).wanted = (s.synth (.tx x)).wanted ∧
      (s.restore y).phase = s.phase ∧ (s.restore y).pe.active = s.pe.active := by
  intro sound x before after verified
  have sound' : (s.unlocked y).CounterSound :=
    (unlocked_prepares s y (.inl ⟨.a, 0, ⟨[], 0⟩, rfl⟩)).counter sound
  rw [restore_eq] at after ⊢
  by_cases locked : (s.protection y).lockedOut = true
  · rw [if_pos locked] at after ⊢
    have keeps := tellRestored_keeps (s.unlocked y) y
    obtain ⟨verified', wanted'⟩ := keeps.verified sound' x nofun before after verified
    exact ⟨verified', wanted', keeps.phase, keeps.active⟩
  · rw [if_neg locked]
    exact ⟨verified, rfl, rfl, rfl⟩

theorem restore_step (s : State) (y : Tx) {c : Instr} (carries : CarriesRestore c) :
    StepKeeps c s (s.restore y) := by
  have prepared := unlocked_prepares s y carries
  rw [restore_eq]
  split
  · refine prepared.step (tellRestored_keeps ..) (tellRestored_plan ..) fun x before after level lockedOut => ?_
    obtain ⟨-, pu⟩ := tellRestored_pu before after
    have protection : ((s.unlocked y).tellRestored y).protection x = (s.unlocked y).protection x := by
      rw [State.protection, pu]; rfl
    rw [protection]
    exact ⟨.inr level, .inr lockedOut⟩
  · exact prepared.step (.refl _) (.refl _) fun _ _ _ level lockedOut => ⟨.inr level, .inr lockedOut⟩

/-! ### Frames -/

theorem clockOut_outside (s : State) (p : Port) (n : Nat) : Outside s (s.clockOut p n) := setPort_outside ..

theorem respond_outside (s : State) (p : Port) (r : Response) : Outside s (s.respond p r) := setPort_outside ..

theorem answer_outside (s : State) (k : RequestKind) (p : Port) (tag : Byte) (r : Reply) :
    Outside s (s.answer k p tag r) := by
  unfold State.answer
  split
  · exact .refl s
  · exact respond_outside ..

theorem frameFailed_outside (s : State) (p : Port) (n : Nat) (k tag : Byte) : Outside s (s.frameFailed p n k tag) :=
  (clockOut_outside ..).trans (respond_outside ..)

theorem framed_keeps (s : State) (p : Port) (n : Nat) : Keeps s (s.framed p n) :=
  (clockOut_outside ..).keeps.trans (heard_keeps ..)

theorem CarriesRestore.other {c : Instr} (carries : CarriesRestore c) (x : Tx) : c ≠ .driveSettleExpiry x := by
  rintro rfl
  rcases carries with ⟨_, _, _, eq⟩ | ⟨_, _, _, _, eq⟩ | ⟨_, _, eq⟩ <;> cases eq

theorem Serves.step {s t : State} (h : Serves s t) (c : Instr) : StepKeeps c s t := h.keeps.loses.step h.plan h.issue c

/-- A request reaches its owner, or is refused and changes nothing (R167). -/
theorem dispatch_cases (s : State) (k : RequestKind) (p : Port) (b : List Byte) :
    (s.dispatch k p b).1 = s ∨ s.dispatch k p b = serve k p b s := by
  unfold State.dispatch
  split
  · exact .inl rfl
  · split
    · exact .inl rfl
    · exact .inr rfl

theorem takeRequest_step (s : State) {c : Instr} {k : RequestKind} (p : Port) (tag : Byte) (x : Sent)
    (carries : k = .restoreChain → CarriesRestore c) : StepKeeps c s (s.takeRequest k p tag x) := by
  unfold State.takeRequest
  split
  · exact (clockOut_outside ..).step c
  · next running =>
    rw [ne_eq, not_not] at running
    split
    · exact (frameFailed_outside ..).step c
    · refine StepKeeps.then ?_ (answer_outside ..)
      change StepKeeps c s ((s.framed p (clocked x)).dispatch k p x.payload).1
      have framed := framed_keeps s p (clocked x)
      have plan := (framed_frame s p (clocked x)).plan
      generalize s.framed p (clocked x) = u at framed plan ⊢
      have running' := plan.phase.trans running
      rcases dispatch_cases u k p x.payload with same | served
      · rw [same]
        exact framed.stepFrame plan c
      · rw [served]
        by_cases restores : k = .restoreChain
        · subst restores
          have carries := carries rfl
          change StepKeeps c s (serveRestoreChain x.payload u).1
          unfold serveRestoreChain
          split
          · exact framed.stepFrame plan c
          · next y _ => exact (restore_step u y carries).after framed plan carries.other (restore_verified u y)
        · obtain ⟨keeps, plan', issue⟩ := serve_serves running' p x.payload restores
          exact (framed.trans keeps).loses.step (plan.keeps.trans plan') (plan.issue ▸ issue) c

theorem takeKind_step (s : State) {c : Instr} (p : Port) (kind tag : Byte) (x : Sent) (carries : CarriesRestore c) :
    StepKeeps c s (s.takeKind p kind tag x) := by
  unfold State.takeKind
  split
  · exact takeRequest_step s p tag x fun _ => carries
  · split
    · exact (clockOut_outside ..).step c
    · split
      · exact (frameFailed_outside ..).step c
      · exact ((framed_keeps s p (clocked x)).stepFrame (framed_frame s p (clocked x)).plan c).then
          (respond_outside ..)

theorem step_request (k : RequestKind) (p : Port) (tag : Byte) (x : Sent) :
    Answers (StepKeeps (k.command p tag x)) (exec (k.command p tag x)) := by
  intro s t next
  rw [exec_command] at next
  obtain rfl := Host.Outcome.next.inj next
  refine takeRequest_step s p tag x ?_
  rintro rfl
  exact .inl ⟨p, tag, x, rfl⟩

theorem step_unknownRequest (p : Port) (kind tag : Byte) (x : Sent) :
    Answers (StepKeeps (.unknownRequest p kind tag x)) (execUnknownRequest p kind tag x) := by
  intro s t next
  obtain rfl := Host.Outcome.next.inj next
  exact takeKind_step s p kind tag x (.inr (.inl ⟨p, kind, tag, x, rfl⟩))

theorem step_frameError (p : Port) (bytes : List Byte) :
    Answers (StepKeeps (.frameError p bytes)) (execFrameError p bytes) := by
  intro s t next
  unfold execFrameError at next
  split at next
  · obtain rfl := Host.Outcome.next.inj next
    exact .refl s _
  · split at next
    · obtain rfl := Host.Outcome.next.inj next
      exact (clockOut_outside ..).step _
    · split at next
      · obtain rfl := Host.Outcome.next.inj next
        exact (frameFailed_outside ..).step _
      · obtain rfl := Host.Outcome.next.inj next
        exact takeKind_step s p _ _ _ (.inr (.inr ⟨p, bytes, rfl⟩))

theorem step_frameDiscarded (p : Port) (d : Discarded) :
    Answers (StepKeeps (.frameDiscarded p d)) (execFrameDiscarded p d) := by
  intro s t next
  unfold execFrameDiscarded at next
  obtain rfl := Host.Outcome.next.inj next
  split
  · exact .refl s _
  · exact (setPort_outside ..).step _

end Sys2Proof.Machine
end

section
/-! PROOFS. The marks, the probation and the silence. -/

namespace Sys2Proof.Machine

/-! ### The mark, the probation and the silence -/

/-- `v` differs from `s` at most in the Plan Engine and outside the chains' blocks and the lanes. -/
structure Replans (s v : State) : Prop where
  phase : v.phase = s.phase
  syn : v.syn = s.syn
  fc : v.fc = s.fc
  os : v.os = s.os
  pu : v.pu = s.pu
  lanes : v.lanes = s.lanes

section Replans
variable {s v : State} (h : Replans s v)
include h

theorem Replans.seq_eq (x : Tx) : v.seq x = s.seq x := by rw [State.seq, h.os]; rfl

theorem Replans.protection_eq (x : Tx) : v.protection x = s.protection x := by rw [State.protection, h.pu]; rfl

theorem Replans.synth_eq (c : Chain) : v.synth c = s.synth c := by rw [State.synth, h.syn]; rfl

theorem Replans.counter (k : s.CounterSound) : v.CounterSound := by
  refine ⟨fun d => ?_, ?_, fun q mem => ?_, fun m current => ?_⟩
  · rw [h.synth_eq]; exact k.contexts d
  · rw [State.QueueSound, h.fc]; exact k.nodup
  · rw [h.synth_eq]; rw [h.fc] at mem; exact k.queued q mem
  · rw [h.synth_eq, h.fc]; rw [h.fc] at current; exact k.measured m current

theorem Replans.andOutside {u : State} (o : Outside v u) : Replans s u :=
  ⟨o.phase.trans h.phase, o.syn.trans h.syn, o.fc.trans h.fc, o.os.trans h.os, o.pu.trans h.pu,
    o.lanes.trans h.lanes⟩

/-- A new active plan handed to every block (R49). -/
theorem Replans.handPlan {c : Instr} (plan : PlanKeeps s v) (issue : v.pe.lastIssued = s.pe.lastIssued) :
    StepKeeps c s (v.handPlan s.pe.active) := by
  have keeps := handPlan_keepsChains v s.pe.active
  have frame := (handPlan_frame v s.pe.active).plan
  obtain ⟨trips, level, slots⟩ := handPlan_sound (s := v) (p := s.pe.active)
  refine ⟨fun _ => trips, fun k x => level x fun same => ?_, fun k => keeps.counter (h.counter k),
    fun k l x => keeps.conditions (h.counter k) x nofun ?_, fun k x => keeps.sequencer x ?_,
    fun m k held x => ?_, fun k => ⟨fun n => ?_, (plan.trans frame.keeps).blank k.2⟩, plan.trans frame.keeps,
    fun _ _ _ x k => keeps.locked x ?_, fun _ _ => .inl (frame.issue.trans issue), fun sound x before after => ?_⟩
  · have level : s.LevelOk x := k x
    rw [State.LevelOk, ← same, h.protection_eq, h.pu]
    exact level
  · rw [State.ConditionsOk, h.protection_eq, h.synth_eq]
    exact l x
  · rw [State.SequencerOk, h.seq_eq, h.synth_eq]
    exact k x
  · rw [keeps.phase] at held
    refine (keeps.off held x ?_).1
    rw [State.Rests, h.seq_eq]
    exact (m x).1.rests (k (h.phase ▸ held) x)
  · rw [keeps.active]
    refine slots (fun m => ?_) n
    rw [State.lane, h.lanes]
    exact k.1 m
  · rwa [h.protection_eq]
  · obtain ⟨running, ready, enabled, verified, wanted, level, lockedOut⟩ :=
      keeps.powerUp (h.counter sound.counter) x nofun (by rwa [h.seq_eq]) after
    rw [State.DriveReady, h.seq_eq] at ready
    rw [h.protection_eq] at level lockedOut
    refine ⟨keeps.phase.trans running, ready.1, .inl ready.2, ?_, verified, ?_, .inl level, .inl lockedOut⟩
    · rw [keeps.active]; exact enabled
    · rw [keeps.active]; exact wanted

theorem Replans.applied {c : Instr} {n : Notice} (plan : PlanKeeps s v)
    (issue : v.pe.lastIssued = s.pe.lastIssued) : StepKeeps c s (v.applied s.pe.active n) := by
  have told := (notifyBoth_outside v n).trans (requestSite_outside _)
  exact (h.andOutside told).handPlan (plan.trans told.plan.keeps) (told.plan.issue.trans issue)

end Replans

/-- The state at a second mark: the second counted and the boundary noted (R67). -/
def State.marked (s : State) : State :=
  { s with time := { s.time with seconds := s.time.seconds + 1, lastMark := s.time.steps } }

theorem mark_none {s : State} (idle : s.pe.pendingApply = none) : s.mark = .next s.marked := by
  simp only [State.mark, idle, State.marked]

theorem mark_commit {s : State} {p : PendingApply} {plan : Plan} (pending : s.pe.pendingApply = some p)
    (change : p.change = .commit plan) :
    s.mark = .next ({ s.marked with pe := s.pe.commitApply p plan s.time.steps (s.time.seconds + 1) }.applied
      s.pe.active .planApplied) := by
  simp only [State.mark, pending, change, State.marked]

theorem mark_revert {s : State} {p : PendingApply} {plan : Plan} (pending : s.pe.pendingApply = some p)
    (change : p.change = .revert) (entry : s.pe.entry 0 = some plan) :
    s.mark = .next ({ s.marked with pe := s.pe.revertApply p plan (s.time.seconds + 1) }.applied
      s.pe.active .planReverted) := by
  rw [PlanEngine.entry_zero] at entry
  simp only [State.mark, pending, change, entry, State.marked]

theorem mark_fault {s : State} {p : PendingApply} (pending : s.pe.pendingApply = some p)
    (change : p.change = .revert) (entry : s.pe.entry 0 = none) : s.mark = .fault .revertWithEmptyHistory := by
  rw [PlanEngine.entry_zero] at entry
  simp only [State.mark, pending, change, entry]

theorem marked_outside (s : State) : Outside s s.marked := ⟨rfl, rfl, rfl, rfl, rfl, rfl, rfl⟩

/-- The Plan Engine of a state written. -/
theorem setPe_replans (s : State) (e : PlanEngine) : Replans s { s.marked with pe := e } :=
  ⟨rfl, rfl, rfl, rfl, rfl, rfl⟩

theorem mark_step {c : Instr} : Answers (StepKeeps c) State.mark := by
  intro s t next
  cases pending : s.pe.pendingApply with
  | none =>
    rw [mark_none pending] at next
    obtain rfl := Host.Outcome.next.inj next
    exact (marked_outside s).step c
  | some p =>
    cases change : p.change with
    | commit plan =>
      rw [mark_commit pending change] at next
      obtain rfl := Host.Outcome.next.inj next
      exact (setPe_replans s _).applied (.of_commitApply rfl pending rfl) rfl
    | revert =>
      cases entry : s.pe.entry 0 with
      | none =>
        rw [mark_fault pending change entry] at next
        cases next
      | some plan =>
        rw [mark_revert pending change entry] at next
        obtain rfl := Host.Outcome.next.inj next
        exact (setPe_replans s _).applied (.of_revertApply rfl pending rfl) rfl

theorem step_secondMark : Answers (StepKeeps .secondMark) execSecondMark := by
  intro s t next
  unfold execSecondMark at next
  split at next
  · obtain rfl := Host.Outcome.next.inj next
    exact .refl s _
  · exact .later (advanceTo_frame ..) (mark_step _ t next)

theorem step_ppsEdge : Answers (StepKeeps .ppsEdge) execPpsEdge := by
  intro s t next
  unfold execPpsEdge at next
  split at next
  · exact mark_step s t next
  · obtain rfl := Host.Outcome.next.inj next
    exact .refl s _

theorem step_substitutedMark : Answers (StepKeeps .substitutedMark) execSubstitutedMark := by
  intro s t next
  unfold execSubstitutedMark at next
  split at next
  · obtain rfl := Host.Outcome.next.inj next
    exact .refl s _
  · refine .later (advanceTo_frame s (s.time.lastMark + 150)) (.later ?_ (mark_step _ t next))
    constructor <;> rfl

theorem step_probationExpiry : Answers (StepKeeps .probationExpiry) execProbationExpiry := by
  intro s t next
  unfold execProbationExpiry at next
  split at next
  · obtain rfl := Host.Outcome.next.inj next
    exact .refl s _
  · next d _ =>
    obtain rfl := Host.Outcome.next.inj next
    refine .later (advanceTo_frame s d) ?_
    generalize s.advanceTo d = u
    have settled : Keeps u { u with pe := { u.pe with status := .settled, probation := none } } :=
      Untouched.keeps ⟨rfl, rfl, rfl, rfl, rfl, rfl⟩ fun _ => rfl
    refine settled.loses.step (.of_history rfl ⟨rfl, rfl⟩ rfl id (fun _ => ?_) nofun (fun _ r => r.2)
      fun _ pending _ => ⟨pending, rfl⟩) (.inl rfl) _
    exact ⟨nofun, nofun⟩

theorem Serves.trans {s t u : State} (a : Serves s t) (b : Serves t u)
    (same : t.pe.lastIssued = s.pe.lastIssued) : Serves s u :=
  ⟨a.keeps.trans b.keeps, a.plan.trans b.plan, same ▸ b.issue⟩

theorem releaseGrant_serves_always (s : State) : Serves s s.releaseGrant where
  keeps := Untouched.keeps ⟨rfl, rfl, rfl, rfl, rfl, rfl⟩ fun _ => rfl
  plan := .of_history rfl ⟨rfl, rfl⟩ rfl (fun _ => rfl) id id (fun _ r => r.2) fun _ pending status =>
    ⟨pending, status⟩
  issue := .inl rfl

/-- The release of a grant that a SILENT port held (R39). -/
def State.grantLost (s : State) (p : Port) : State :=
  if s.pe.grant = some p then s.releaseGrant.notifyBoth .grantLost else s

theorem grantLost_serves (s : State) (p : Port) : Serves s (s.grantLost p) := by
  unfold State.grantLost
  split
  · exact (releaseGrant_serves_always s).trans (notifyBoth_outside ..).serves rfl
  · exact .refl s

theorem grantLost_issue (s : State) (p : Port) : (s.grantLost p).pe.lastIssued = s.pe.lastIssued := by
  unfold State.grantLost
  split <;> rfl

theorem silenced_eq (s : State) (p : Port) :
    s.silenced p =
      let u := ((s.setPort p { s.port p with link := .silent, silence := none }).notify p.other .peerSilent).grantLost p
      if (u.port p.other).link = .silent then u.setDevice { u.pu.device with linksSilent := true } else u := rfl

theorem silenced_serves (s : State) (p : Port) : Serves s (s.silenced p) := by
  rw [silenced_eq]
  dsimp only
  have silent : Outside s ((s.setPort p { s.port p with link := .silent, silence := none }).notify p.other .peerSilent) :=
    (setPort_outside ..).trans (setPort_outside ..)
  generalize (s.setPort p _).notify p.other .peerSilent = u at silent ⊢
  have lost := silent.serves.trans (grantLost_serves u p) silent.plan.issue
  have issue := (grantLost_issue u p).trans silent.plan.issue
  split
  · have frame := (setDevice_frame (u.grantLost p) { (u.grantLost p).pu.device with linksSilent := true }).plan
    exact lost.trans ⟨setDevice_keeps .., frame.keeps, .inl frame.issue⟩ issue
  · exact lost

theorem step_silenceExpiry (p : Port) : Answers (StepKeeps (.silenceExpiry p)) (execSilenceExpiry p) := by
  intro s t next
  unfold execSilenceExpiry at next
  split at next
  · obtain rfl := Host.Outcome.next.inj next
    exact .refl s _
  · obtain rfl := Host.Outcome.next.inj next
    exact .later (advanceTo_frame ..) ((silenced_serves ..).step _)

end Sys2Proof.Machine
end

section
/-! PROOFS. Start-up selection, every command, and the statements O4 to O10. -/

namespace Sys2Proof.Machine

/-! ### Start-up selection (R161, R162) -/

/-- `t` comes from `s` by the steps of start-up selection: the invariants chain by chain are kept, and a chain
whose PA is off and that does not wait for it stays so. -/
structure Starts (s t : State) : Prop extends KeepsState none s t where
  sequencer : ∀ x, s.SequencerOk x → t.SequencerOk x
  dark : s.CounterSound → ∀ x, (s.seq x).state.paOn = false → ¬s.DriveReady x → (t.seq x).state.paOn = false

theorem Starts.trans {s t u : State} (a : Starts s t) (b : Starts t u) : Starts s u :=
  ⟨a.toKeepsState.trans b.toKeepsState, fun x k => b.sequencer x (a.sequencer x k), fun sound x off waits =>
    b.dark (a.counter sound) x (a.dark sound x off waits) fun ready => waits (a.ready x ready)⟩

theorem KeepsChains.starts {s t : State} (h : KeepsChains s t) : Starts s t := by
  refine ⟨h.toKeepsState, h.sequencer, fun sound x off waits => ?_⟩
  by_contra on
  exact waits (h.powerUp sound x nofun off (Bool.not_eq_false _ ▸ on)).2.1

theorem Starts.refl (s : State) : Starts s s := (Keeps.refl s).starts

theorem handOver_starts (s : State) (y : Tx) : Starts s (s.handOver y) := by
  refine ⟨handOver_keepsState s y, fun _ => handOver_sequencer y, fun _ x off _ => ?_⟩
  rw [handOver_seq]
  split
  · next eq => exact eq ▸ off
  · exact off

theorem moveSeq_lockedOut_keeps {s : State} {y : Tx} (running : s.phase = .running) :
    Keeps s (s.moveSeq y .lockedOut) := moveSeq_keeps (fun held => absurd running held) nofun

theorem startSeq_starts {s : State} (y : Tx) (running : s.phase = .running) : Starts s (s.startSeq y) := by
  have rest (u : State) : Starts u ((u.handOver y).decideSeq y) :=
    (handOver_starts u y).trans (decideSeq_keeps ..).starts
  unfold State.startSeq
  dsimp only
  split
  · exact (moveSeq_lockedOut_keeps running).starts.trans (rest _)
  · exact rest s

theorem startSeq_slots (s : State) (y : Tx) (n : Slot) : ((s.startSeq y).lane n).slot = (s.lane n).slot := by
  have rest (u : State) : (((u.handOver y).decideSeq y).lane n).slot = (u.lane n).slot :=
    ((decideSeq_keeps ..).slots n).trans (handOver_slots ..)
  unfold State.startSeq
  dsimp only
  split
  · refine (rest _).trans ?_
    exact ((entered_moveSeq s y .lockedOut).slots n).trans (entered_slots ..)
  · exact rest s

theorem startSeqs_starts {s : State} (running : s.phase = .running) : Starts s (allTx.foldl State.startSeq s) := by
  have fold (l : List Tx) : ∀ {s : State}, s.phase = .running → Starts s (l.foldl State.startSeq s) := by
    induction l with
    | nil => exact fun _ => .refl _
    | cons y l ih =>
      exact fun running => (startSeq_starts y running).trans (ih ((startSeq_frame _ y).phase.trans running))
  exact fold allTx running

theorem startSeqs_slots (s : State) (n : Slot) : ((allTx.foldl State.startSeq s).lane n).slot = (s.lane n).slot :=
  foldl_related (R := fun s t => (t.lane n).slot = (s.lane n).slot) (fun _ => rfl) (fun a b => b.trans a)
    (fun s y => startSeq_slots s y n) allTx s

theorem startSlot_slot {s : State} {n : Slot} (blank : (s.lane n).slot = none) :
    ((s.startSlot n).lane n).slot = s.pe.active.slots.get n := by
  unfold State.startSlot
  split
  · next none => rw [blank, none]
  · next e some => rw [State.lane_setLane_same, some]; rfl

theorem startSlot_other (s : State) {n m : Slot} (apart : m ≠ n) : (s.startSlot n).lane m = s.lane m := by
  unfold State.startSlot
  split
  · rfl
  · rw [State.lane_setLane, if_neg apart]
    rfl

theorem startSlots_frame (s : State) : LaneFrame s (allSlots.foldl State.startSlot s) :=
  foldl_related .refl .trans startSlot_frame _ s

theorem startSlots_slots {s : State} (blank : ∀ n, (s.lane n).slot = none) (n : Slot) :
    ((allSlots.foldl State.startSlot s).lane n).slot = s.pe.active.slots.get n := by
  refine foldl_slots (old := fun _ => none) (new := fun n => s.pe.active.slots.get n)
    (P := fun u => u.pe.active = s.pe.active) allSlots_nodup
    (fun u m same => (congrArg _ (startSlot_frame u m).pe).trans same) (fun u m same before => ?_)
    (fun u m k apart => startSlot_other u apart) rfl (fun m _ => blank m) fun outside => absurd (mem_allSlots n) outside
  rw [startSlot_slot before, same]

theorem startMixers_laneKeeps (s : State) : LaneKeeps s (allTx.foldl State.startMixer s) :=
  foldl_related .refl .trans (fun s y => setMixer_laneKeeps s y _) _ s

/-- The loaded plan and lockout set, before any block takes them. -/
def State.loaded (s : State) : State := s.loadPlan.loadLockouts s.store.startLockout

/-- The lanes and mixers of a loaded plan (R94, R109). -/
def State.startLanes (s : State) : State :=
  (allTx.foldl State.startMixer (allSlots.foldl State.startSlot (allTx.foldl State.takeSeqFields s))).decideLanes
    allSlots

/-- What the synthesizers, the sequencers and the profile's other readers take at start-up. -/
def State.startRest (s : State) (outgoing : Plan) : State :=
  (((allTx.foldl State.startSeq ((s.takeRxLo .rx0).takeRxLo .rx1)).applySynths outgoing).applyReference
    outgoing).applyPorts

theorem startUp_eq (s : State) :
    s.startUp = ((s.loaded.startLanes).applyProtection s.pe.active).startRest s.pe.active := by
  unfold State.startUp State.startRest State.startLanes State.loaded
  dsimp only

theorem startLanes_keepsChains (s : State) : KeepsChains s s.startLanes :=
  (((takeAllSeqFields_keeps s).toKeepsChains.trans (startSlots_frame _).untouched.keepsChains).trans
    (startMixers_laneKeeps _).keeps.toKeepsChains).trans (decideLanes_laneKeeps ..).keeps.toKeepsChains

theorem startLanes_slots {s : State} (blank : ∀ n, (s.lane n).slot = none) (n : Slot) :
    ((s.startLanes).lane n).slot = s.pe.active.slots.get n := by
  have fields := takeAllSeqFields_keeps s
  refine (((decideLanes_laneKeeps ..).slots n).trans ((startMixers_laneKeeps _).slots n)).trans ?_
  rw [startSlots_slots (fun m => (fields.slots m).trans (blank m)), fields.active]

theorem startRest_starts {s : State} (p : Plan) (running : s.phase = .running) : Starts s (s.startRest p) := by
  have los := (takeRxLo_keeps s .rx0).trans (takeRxLo_keeps _ .rx1)
  exact (los.starts.trans (startSeqs_starts (los.phase.trans running))).trans
    (((applySynths_keeps ..).trans (applyReference_keeps ..)).trans (applyPorts_keeps _)).starts

theorem startRest_slots (s : State) (p : Plan) (n : Slot) : ((s.startRest p).lane n).slot = (s.lane n).slot := by
  have los := (takeRxLo_keeps s .rx0).trans (takeRxLo_keeps _ .rx1)
  have rest (u : State) : Keeps u ((u.applySynths p).applyReference p).applyPorts :=
    ((applySynths_keeps ..).trans (applyReference_keeps ..)).trans (applyPorts_keeps _)
  exact (((rest _).slots n).trans (startSeqs_slots _ n)).trans (los.slots n)

/-! #### The loaded state -/

theorem loadLockout_protection (s : State) (v : PerTx Bool) (y x : Tx) :
    (s.loadLockout v y).protection x =
      if x = y then { s.protection y with lockedOut := v.get y } else s.protection x :=
  State.protection_setProtection ..

/-- `t` differs from `s` at most in the chains' protection and outside the chains' blocks. -/
structure Loads (s t : State) : Prop where
  syn : t.syn = s.syn
  fc : t.fc = s.fc
  os : t.os = s.os
  lanes : t.lanes = s.lanes
  device : t.pu.device = s.pu.device

theorem Loads.refl (s : State) : Loads s s := ⟨rfl, rfl, rfl, rfl, rfl⟩

theorem Loads.trans {s t u : State} (a : Loads s t) (b : Loads t u) : Loads s u :=
  ⟨b.syn.trans a.syn, b.fc.trans a.fc, b.os.trans a.os, b.lanes.trans a.lanes, b.device.trans a.device⟩

theorem loadEach_loads (s : State) (v : PerTx Bool) : Loads s (allTx.foldl (fun s t => s.loadLockout v t) s) :=
  foldl_related .refl .trans (fun _ _ => ⟨rfl, rfl, rfl, rfl, rfl⟩) allTx s

theorem loadEach_protection (s : State) (v : PerTx Bool) (x : Tx) :
    (allTx.foldl (fun s t => s.loadLockout v t) s).protection x = { s.protection x with lockedOut := v.get x } := by
  simp only [allTx, List.foldl_cons, List.foldl_nil, loadLockout_protection]
  cases x <;> simp

/-- The loading of the lockout set changes no other field of a chain's protection, and no other block. -/
theorem loadLockouts_same (s : State) (v : PerTx Bool) :
    (s.loadLockouts v).syn = s.syn ∧ (s.loadLockouts v).fc = s.fc ∧ (s.loadLockouts v).os = s.os ∧
      (s.loadLockouts v).lanes = s.lanes ∧ (s.loadLockouts v).pu.device = s.pu.device ∧
      ∀ x, (s.loadLockouts v).protection x = { s.protection x with lockedOut := v.get x } := by
  have told {u : State} (o : Outside (allTx.foldl (fun s t => s.loadLockout v t) s) u) :
      u.syn = s.syn ∧ u.fc = s.fc ∧ u.os = s.os ∧ u.lanes = s.lanes ∧ u.pu.device = s.pu.device ∧
        ∀ x, u.protection x = { s.protection x with lockedOut := v.get x } := by
    obtain ⟨syn, fc, os, lanes, device⟩ := loadEach_loads s v
    refine ⟨o.syn.trans syn, o.fc.trans fc, o.os.trans os, o.lanes.trans lanes, (congrArg _ o.pu).trans device,
      fun x => ?_⟩
    rw [State.protection, o.pu]
    exact loadEach_protection s v x
  unfold State.loadLockouts
  dsimp only
  split
  · exact told (notifyBoth_outside ..)
  · exact told (.refl _)

theorem loadPlan_planKeeps (s : State) : PlanKeeps s s.loadPlan where
  grant := id
  probation := id
  history h r := ⟨h, r⟩
  blank _ held := absurd rfl held

theorem startUp_step {s : State} (start : s.phase = .startDelay) : StepKeeps .startUpSelection s s.startUp := by
  have held : s.phase ≠ .running := by rw [start]; nofun
  obtain ⟨syn, fc, os, lanes, device, protection⟩ := loadLockouts_same s.loadPlan s.store.startLockout
  have frame := loadLockouts_frame s.loadPlan s.store.startLockout
  have running : s.loaded.phase = .running := frame.phase
  have synth_eq (c : Chain) : s.loaded.synth c = s.synth c := by rw [State.loaded, State.synth, syn]; rfl
  have seq_eq (x : Tx) : s.loaded.seq x = s.seq x := by rw [State.loaded, State.seq, os]; rfl
  have counter (k : s.CounterSound) : s.loaded.CounterSound := by
    refine ⟨fun d => ?_, ?_, fun q mem => ?_, fun m current => ?_⟩
    · rw [synth_eq]; exact k.contexts d
    · rw [State.QueueSound, State.loaded, fc]; exact k.nodup
    · rw [synth_eq]; rw [State.loaded, fc] at mem; exact k.queued q mem
    · rw [synth_eq, State.loaded, fc]; rw [State.loaded, fc] at current; exact k.measured m current
  have chains := startLanes_keepsChains s.loaded
  have protect := applyProtection_keeps s.loaded.startLanes s.pe.active
  have rest := startRest_starts s.pe.active (s := s.loaded.startLanes.applyProtection s.pe.active)
    (protect.phase.trans (chains.phase.trans running))
  have starts : Starts s.loaded s.startUp := by
    rw [startUp_eq]
    exact (chains.starts.trans protect.toKeepsChains.starts).trans rest
  have plan : PlanKeeps s s.startUp := (loadPlan_planKeeps s).trans (startUp_frame s).planKeeps
  refine ⟨fun _ x => ?_, fun k x => ?_, fun k => starts.counter (counter k),
    fun k l x => starts.conditions (counter k) x nofun ?_, fun k x => starts.sequencer x ?_,
    fun _ _ held' => absurd (starts.phase.trans running) held', fun k => ⟨fun n => ?_, plan.blank k.2⟩, plan,
    fun _ other => absurd rfl other, fun _ other => absurd rfl other, fun sound x _ after => ?_⟩
  · rw [startUp_eq]
    exact rest.trips x (applyProtection_sound ..).1
  · rw [startUp_eq]
    refine rest.level x ((applyProtection_sound ..).2 fun same => ?_)
    have same' : s.pe.active.severities = s.loaded.severities :=
      same.trans (congrArg Plan.severities chains.active)
    refine chains.level x ?_
    have level : s.LevelOk x := k x
    rw [State.LevelOk, ← same', State.loaded, protection, device]
    exact level
  · rw [State.ConditionsOk, synth_eq, State.loaded, protection]
    exact l x
  · rw [State.SequencerOk, seq_eq, synth_eq]
    exact k x
  · obtain ⟨slots, blank⟩ := k
    obtain ⟨-, -, none⟩ := blank held
    rw [starts.active, startUp_eq, startRest_slots, protect.slots]
    refine startLanes_slots (fun m => ?_) n
    rw [State.loaded, State.lane, lanes]
    exact (slots m).trans (none m)
  · have off := sound.off held x
    have dark := starts.dark (counter sound.counter) x (by rw [seq_eq, off]; rfl) fun ready => by
      have state := ready.1
      rw [seq_eq, off] at state
      cases state
    rw [dark] at after
    cases after

theorem step_startUpSelection : Answers (StepKeeps .startUpSelection) execStartUpSelection := by
  intro s t next
  unfold execStartUpSelection at next
  split at next
  · next d start _ =>
    obtain rfl := Host.Outcome.next.inj next
    exact .later (advanceTo_frame s d) (startUp_step ((advanceTo_frame s d).phase.trans start))
  · obtain rfl := Host.Outcome.next.inj next
    exact .refl s _

/-! ## Every step -/

theorem exec_keeps (c : Instr) : Answers (StepKeeps c) (exec c) := by
  cases c with
  | nop p tag x => exact step_request .nop p tag x
  | readStatus p tag x => exact step_request .readStatus p tag x
  | readPlan p tag x => exact step_request .readPlan p tag x
  | readNotices p tag x => exact step_request .readNotices p tag x
  | takeEdit p tag x => exact step_request .takeEdit p tag x
  | releaseEdit p tag x => exact step_request .releaseEdit p tag x
  | setChain p tag x => exact step_request .setChain p tag x
  | setSlot p tag x => exact step_request .setSlot p tag x
  | clearSlot p tag x => exact step_request .clearSlot p tag x
  | setProfile p tag x => exact step_request .setProfile p tag x
  | commit p tag x => exact step_request .commit p tag x
  | cancelCommit p tag x => exact step_request .cancelCommit p tag x
  | revert p tag x => exact step_request .revert p tag x
  | restoreChain p tag x => exact step_request .restoreChain p tag x
  | measure p tag x => exact step_request .measure p tag x
  | storeDefault p tag x => exact step_request .storeDefault p tag x
  | clearResetCause p tag x => exact step_request .clearResetCause p tag x
  | frameError p bytes => exact step_frameError p bytes
  | unknownRequest p kind tag x => exact step_unknownRequest p kind tag x
  | frameDiscarded p d => exact step_frameDiscarded p d
  | silenceExpiry p => exact step_silenceExpiry p
  | secondMark => exact step_secondMark
  | ppsEdge => exact step_ppsEdge
  | substitutedMark => exact step_substitutedMark
  | probationExpiry => exact step_probationExpiry
  | presenceWindowEnd e b => exact step_presenceWindowEnd e b
  | qualifyExpiry => exact step_qualifyExpiry
  | holdoverExpiry => exact step_holdoverExpiry
  | programmingComplete c => exact step_programmingComplete c
  | powerDownTransferEnd c => exact step_powerDownTransferEnd c
  | settleExpiry c b => exact step_settleExpiry c b
  | retryExpiry c => exact step_retryExpiry c
  | auditExpiry c => exact step_auditExpiry c
  | lockDrop c => exact step_lockDrop c
  | gateClose g => exact step_gateClose g
  | measurementTimeout => exact step_measurementTimeout
  | rampStepExpiry y => exact step_rampStepExpiry y
  | driveSettleExpiry y => exact step_driveSettleExpiry y
  | paDischargeExpiry y => exact step_paDischargeExpiry y
  | paFaultInput y b => exact step_paFaultInput y b
  | paWarningInput y b => exact step_paWarningInput y b
  | recoveryHoldExpiry y => exact step_recoveryHoldExpiry y
  | inputWindowBoundary r => exact step_inputWindowBoundary r
  | discardHalfExpiry => exact step_discardHalfExpiry
  | judgeHalfExpiry r => exact step_judgeHalfExpiry r
  | storeWriteCompletion b => exact step_storeWriteCompletion b
  | storeRetryExpiry r => exact step_storeRetryExpiry r
  | supplyMeasurement m => exact step_supplyMeasurement m
  | powerOn => exact step_powerOn
  | resetPinAssert => exact step_resetPinAssert
  | resetRelease m pin strap => exact step_resetRelease m pin strap
  | startUpSelection => exact step_startUpSelection

theorem idle_frame (s : State) : TimeFrame s s.idle := by
  unfold State.idle
  split
  · exact .refl s
  · exact passReference_frame ..

/-- The taking of a command from the queue is seen by no invariant. -/
theorem StepKeeps.popped {c : Instr} {s t : State} {rest : List Instr}
    (h : StepKeeps c { s with pending := rest } t) : StepKeeps c s t where
  trips := h.trips
  level := h.level
  counter k := h.counter ⟨k.contexts, k.nodup, k.queued, k.measured⟩
  conditions k := h.conditions ⟨k.contexts, k.nodup, k.queued, k.measured⟩
  sequencers := h.sequencers
  off := h.off
  lanes := h.lanes
  plan := (PlanKeeps.of_eq (s := s) (t := { s with pending := rest }) rfl rfl).trans h.plan
  locked := h.locked
  issue := h.issue
  powerUp k x before after := by
    obtain ⟨running, state, settled, enabled, verified, wanted, level, lockedOut⟩ :=
      h.powerUp ⟨k.grant, k.probation, k.history, k.revert,
        ⟨k.counter.contexts, k.counter.nodup, k.counter.queued, k.counter.measured⟩, k.sequencers, k.off, k.trips,
        k.level, k.conditions, k.lanes⟩ x before after
    exact ⟨running, state, settled, enabled, verified, wanted, level, lockedOut⟩

/-- Every step keeps what its command keeps; that of an empty queue is the passing of time. -/
theorem step_keeps {s t : State} (next : step s = .next t) :
    ∃ c, StepKeeps c s t ∧ ∀ x, c = .driveSettleExpiry x → s.pending.head? = some (.driveSettleExpiry x) := by
  unfold step at next
  split at next
  · obtain rfl := Host.Outcome.next.inj next
    exact ⟨.nop .a 0 ⟨[], 0⟩, .later (idle_frame s) (.refl _ _), nofun⟩
  · next c rest pending =>
    refine ⟨c, (exec_keeps c _ t next).popped, ?_⟩
    rintro x rfl
    rw [pending]
    rfl

/-- Only a REVERT that finds no history plan stops the machine (R48). -/
theorem mark_next {s : State} (sound : s.RevertSound) : ∃ t, s.mark = .next t := by
  cases pending : s.pe.pendingApply with
  | none => exact ⟨_, mark_none pending⟩
  | some p =>
    cases change : p.change with
    | commit plan => exact ⟨_, mark_commit pending change⟩
    | revert =>
      cases entry : s.pe.entry 0 with
      | none =>
        have none := sound.2 ((PlanEngine.pendingPlan_revert pending change).trans entry)
        rw [pending] at none
        cases none
      | some plan => exact ⟨_, mark_revert pending change entry⟩

theorem exec_next (c : Instr) {s : State} (sound : s.RevertSound) : ∃ t, exec c s = .next t := by
  have later (d : Nat) : (s.advanceTo d).RevertSound := by
    simpa only [State.RevertSound, (advanceTo_frame s d).pe] using sound
  cases c with
  | secondMark =>
    change ∃ t, execSecondMark s = .next t
    unfold execSecondMark
    split
    · exact ⟨_, rfl⟩
    · exact mark_next (later _)
  | ppsEdge =>
    change ∃ t, execPpsEdge s = .next t
    unfold execPpsEdge
    split
    · exact mark_next sound
    · exact ⟨_, rfl⟩
  | substitutedMark =>
    change ∃ t, execSubstitutedMark s = .next t
    unfold execSubstitutedMark
    split
    · exact ⟨_, rfl⟩
    · exact mark_next (s := { s.advanceTo _ with time := _ }) (later _)
  | frameError p bytes =>
    simp only [exec, execFrameError]
    split
    · exact ⟨_, rfl⟩
    · split
      · exact ⟨_, rfl⟩
      · split <;> exact ⟨_, rfl⟩
  | supplyMeasurement m =>
    simp only [exec, execSupplyMeasurement]
    split
    · exact ⟨_, rfl⟩
    · split <;> exact ⟨_, rfl⟩
  | resetRelease m pin strap =>
    simp only [exec, execResetRelease]
    split
    · exact ⟨_, rfl⟩
    · split <;> exact ⟨_, rfl⟩
  | nop | readStatus | readPlan | readNotices | takeEdit | releaseEdit | setChain | setSlot | clearSlot
  | setProfile | commit | cancelCommit | revert | restoreChain | measure | storeDefault | clearResetCause
  | unknownRequest | frameDiscarded | lockDrop | powerOn | resetPinAssert => exact ⟨_, rfl⟩
  | silenceExpiry | probationExpiry | presenceWindowEnd | qualifyExpiry | holdoverExpiry | programmingComplete
  | powerDownTransferEnd | settleExpiry | retryExpiry | auditExpiry | gateClose | measurementTimeout
  | rampStepExpiry | driveSettleExpiry | paDischargeExpiry | paFaultInput | paWarningInput | recoveryHoldExpiry
  | inputWindowBoundary | discardHalfExpiry | judgeHalfExpiry | storeWriteCompletion | storeRetryExpiry
  | startUpSelection =>
    simp only [exec, execSilenceExpiry, execProbationExpiry, execPresenceWindowEnd, execQualifyExpiry,
      execHoldoverExpiry, execProgrammingComplete, execPowerDownTransferEnd, execSettleExpiry, execRetryExpiry,
      execAuditExpiry, execGateClose, execMeasurementTimeout, execRampStepExpiry, execDriveSettleExpiry,
      execPaDischargeExpiry, execPaFaultInput, execPaWarningInput, execRecoveryHoldExpiry,
      execInputWindowBoundary, execDiscardHalfExpiry, execJudgeHalfExpiry, execStoreWriteCompletion,
      execStoreRetryExpiry, execStartUpSelection]
    split <;> exact ⟨_, rfl⟩

theorem step_next {s : State} (sound : s.RevertSound) : ∃ t, step s = .next t := by
  unfold step
  split
  · exact ⟨_, rfl⟩
  · next c rest _ => exact exec_next c (s := { s with pending := rest }) sound

/-! ## The statements -/

/-- Settles O4: every step keeps the Plan Engine's invariants. -/
theorem grantAndProbationKept : Obligations.GrantAndProbationKept := by
  intro s t grant probation next
  obtain ⟨c, keeps, -⟩ := step_keeps next
  exact ⟨keeps.plan.grant grant, keeps.plan.probation probation⟩

/-- Settles O5: a pending REVERT finds its history entry, so a mark has a next state, and no other command has
none. -/
theorem stepNeverStops : Obligations.StepNeverStops := by
  intro s history revert
  obtain ⟨t, next⟩ := step_next revert
  obtain ⟨c, keeps, -⟩ := step_keeps next
  obtain ⟨history', revert'⟩ := keeps.plan.history history revert
  exact ⟨t, next, history', revert'⟩

/-- Settles O6, command by command. -/
theorem counterKept : Obligations.CounterKept := by
  refine ⟨fun s t sound next => ?_, fun s t sound next => ?_, fun s t sound off next => ?_⟩
  all_goals obtain ⟨c, keeps, -⟩ := step_keeps next
  · exact keeps.counter sound
  · exact keeps.sequencers sound
  · exact keeps.off sound off

theorem SynContext.conditions_eq (x : SynContext) (c : ChainConditions) :
    x.conditions c = { c with txLoLost := x.lost, txLoUnverified := decide (x.state = .failed) } := by
  rw [SynContext.conditions]
  congr 1

/-- Settles O7, command by command. -/
theorem protectionKept : Obligations.ProtectionKept := by
  refine ⟨SynContext.conditions_eq, fun s t sound next => ?_, fun s t sound next => ?_,
    fun s t counter sound next => ?_⟩
  all_goals obtain ⟨c, keeps, -⟩ := step_keeps next
  · exact keeps.trips sound
  · exact keeps.level sound
  · exact keeps.conditions counter sound

/-- Settles O8: the applies and start-up selection give each lane the slot of the plan they make active, and no
other command touches a slot or the active plan. -/
theorem lanesFollowPlan : Obligations.LanesFollowPlan := by
  intro s t sound next
  obtain ⟨c, keeps, -⟩ := step_keeps next
  exact keeps.lanes sound

/-- Settles O9, command by command. -/
theorem lockoutAndIssueKept : Obligations.LockoutAndIssueKept :=
  ⟨fun s t c x resets start carries locked next => (exec_keeps c s t next).locked resets start carries x locked,
    fun s t c resets start next => (exec_keeps c s t next).issue resets start⟩

/-- Settles O10: the sequencer's own decision is the one way a PA comes on (`decideSeq_mayPowerUp`), and what runs
before and after it in a step keeps what R127 asks for. -/
theorem paSwitchedOnOnlyVerified : Obligations.PaSwitchedOnOnlyVerified := by
  refine ⟨fun s t x sound next before after => ?_, fun s x before after => ?_⟩
  · obtain ⟨c, keeps, front⟩ := step_keeps next
    obtain ⟨running, state, settled, enabled, verified, wanted, level, lockedOut⟩ :=
      keeps.powerUp sound x before after
    exact ⟨running, state, settled.imp_right (front x), enabled, verified, wanted, level, lockedOut⟩
  · obtain ⟨⟨running, ready, enabled, verified, wanted, level, lockedOut⟩, -⟩ := decideSeq_mayPowerUp before after
    exact ⟨running, ready.1, ready.2, by rw [State.isVerified, verified]; rfl, wanted, enabled, level, lockedOut⟩

end Sys2Proof.Machine
end

section
/-! PROOFS. Steps, stopped timers and marks (O1, O32, O33), the passing of time (O2), and the arithmetic of chapter 2
(O29, O30, O31). -/

namespace Sys2Proof.Machine

/-! ## Steps, stopped timers and marks -/

/-- Settles O1: by the definition of a step. -/
theorem stepTakesFrontCommand : Obligations.StepTakesFrontCommand := fun _ _ _ => rfl

/-- Settles O32: each of these commands looks at its timer, line or counter first. -/
theorem stoppedTimersDoNothing : Obligations.StoppedTimersDoNothing := by
  intro s
  refine ⟨fun p h => ?_, fun h => ?_, fun h => ?_, fun h => ?_, fun c b h => ?_, fun c h => ?_, fun c h => ?_,
    fun c h => ?_, fun c h => ⟨?_, ?_⟩, fun h => ⟨fun n => ?_, ?_⟩, fun x h => ?_, fun x h => ?_, fun x h => ?_,
    fun x h => ?_, fun h => ⟨?_, fun r => ?_⟩, fun h b => ?_, fun r h => ?_, fun h => ?_⟩
  · simp only [exec, execSilenceExpiry, h]
  · simp only [exec, execProbationExpiry, h]
  · simp only [exec, execQualifyExpiry, h]
  · simp only [exec, execHoldoverExpiry, h]
  · simp only [exec, execSettleExpiry, h]
  · simp only [exec, execRetryExpiry, h]
  · simp only [exec, execAuditExpiry, h]
  · simp [exec, execLockDrop, State.isVerified, h]
  · simp only [exec, execProgrammingComplete, h]
  · simp only [exec, execPowerDownTransferEnd, h]
  · simp only [exec, execGateClose, h]
  · simp only [exec, execMeasurementTimeout, h]
  · simp only [exec, execRampStepExpiry, h]
  · simp only [exec, execDriveSettleExpiry, h]
  · simp only [exec, execPaDischargeExpiry, h]
  · simp only [exec, execRecoveryHoldExpiry, h]
  · simp only [exec, execDiscardHalfExpiry, h]
  · simp only [exec, execJudgeHalfExpiry, h]
  · simp only [exec, execStoreWriteCompletion, h]
  · simp only [exec, execStoreRetryExpiry, h]
  · simp only [exec, execStartUpSelection]
    split
    · next running => exact absurd (h.symm.trans running) nofun
    · rfl

/-- A command that makes a mark is the mark at its boundary, to which time alone has moved (R67, R68). -/
theorem exec_of_makesMark {c : Instr} {s u : State} (h : MakesMark c s u) :
    exec c s = u.mark ∧ TimeFrame s u := by
  rcases h with ⟨rfl, running, unlocked, rfl⟩ | ⟨rfl, running, locked, late, rfl⟩ |
    ⟨rfl, running, locked, v, rfl, rfl⟩
  · refine ⟨?_, advanceTo_frame ..⟩
    change execSecondMark s = _
    rw [execSecondMark, if_neg (not_or.mpr ⟨running, unlocked⟩), State.nextMark]
  · refine ⟨?_, .refl _⟩
    change execPpsEdge u = _
    rw [execPpsEdge, if_pos ⟨running, locked, late⟩]
  · have moved := advanceTo_frame s (s.time.lastMark + 150)
    refine ⟨?_, ?_⟩
    · change execSubstitutedMark s = _
      rw [execSubstitutedMark, if_neg (not_or.mpr ⟨running, not_not.mpr locked⟩)]
    · exact { moved with }

/-- Settles O33: a mark with nothing pending is the counting of the second alone. -/
theorem markWithNothingPending : Obligations.MarkWithNothingPending := by
  refine ⟨fun c s u made idle => ?_, fun s => ⟨fun stays => ?_, fun stays => ?_, fun stays => ?_⟩⟩
  · obtain ⟨exec_eq, frame⟩ := exec_of_makesMark made
    rw [exec_eq, mark_none (frame.pe ▸ idle), State.marked, frame.seconds]
  · change execSecondMark s = _
    rw [execSecondMark, if_pos stays]
  · change execPpsEdge s = _
    rw [execPpsEdge, if_neg]
    rintro ⟨running, locked, late⟩
    rcases stays with held | unlocked | early
    · exact running held
    · exact unlocked locked
    · omega
  · change execSubstitutedMark s = _
    rw [execSubstitutedMark, if_pos stays]

/-! ## The passing of time (R65, R99) -/

theorem foldl_put_slots {α : Type} (f : Slot → α) (l : List Slot) (v : PerSlot α) (n : Slot) :
    PerSlot.get (l.foldl (fun v n => v.put n (f n)) v) n = if n ∈ l then f n else v.get n := by
  induction l generalizing v with
  | nil => simp
  | cons m l ih =>
    rw [List.foldl_cons, ih, PerSlot.get_put]
    by_cases mem : n ∈ l
    · simp [mem]
    · by_cases same : n = m <;> simp [mem, same]

theorem runPhases_get (s : State) (samples : Nat) (n : Slot) :
    (s.runPhases samples).get n = s.runLane samples n := by
  rw [State.runPhases, foldl_put_slots, if_pos (mem_allSlots n)]

theorem passReference_phaseOf (s : State) (k : Nat) (n : Slot) :
    (s.passReference k).phaseOf n = s.runLane (655360 * k) n := runPhases_get ..

theorem runLane_eq (s : State) (samples : Nat) (n : Slot) :
    s.runLane samples n =
      { receive := (s.phaseOf n).receive
          + BitVec.ofNat 32 samples * ((s.lane n).receiveWord (s.input n).source).getD 0
        transmit := (s.phaseOf n).transmit + BitVec.ofNat 32 samples * (s.lane n).transmitWord.getD 0 } := rfl

theorem runLane_zero (s : State) (n : Slot) : s.runLane 0 n = s.phaseOf n := by
  rw [runLane_eq]
  simp

theorem advanceTo_past {s : State} {d : Nat} (past : d - s.time.steps = 0) : s.advanceTo d = s := by
  rw [State.advanceTo, if_pos past]

theorem advanceTo_reference {s : State} {d : Nat} (present : s.ref.state ≠ .absent)
    (later : d - s.time.steps ≠ 0) : s.advanceTo d = s.passReference (d - s.time.steps) := by
  rw [State.advanceTo, if_neg later, if_neg present]

theorem advanceTo_phaseOf {s : State} (d : Nat) (present : s.ref.state ≠ .absent) (n : Slot) :
    (s.advanceTo d).phaseOf n = s.runLane (655360 * (d - s.time.steps)) n := by
  by_cases past : d - s.time.steps = 0
  · rw [advanceTo_past past, past, Nat.mul_zero, runLane_zero]
  · rw [advanceTo_reference present past, passReference_phaseOf]

theorem advanceTo_backup {s : State} (d : Nat) (present : s.ref.state ≠ .absent) :
    (s.advanceTo d).time.backup = s.time.backup := by
  by_cases past : d - s.time.steps = 0
  · rw [advanceTo_past past]
  · rw [advanceTo_reference present past]
    rfl

theorem advanceTo_backup_absent {s : State} (d : Nat) (absent : s.ref.state = .absent) :
    (s.advanceTo d).time.backup = s.time.backup + (d - s.time.steps) := by
  by_cases past : d - s.time.steps = 0
  · rw [advanceTo_past past, past, Nat.add_zero]
  · rw [State.advanceTo, if_neg past, if_pos absent]

/-- Settles O2: an idle step and a move of the time base are the passing of reference steps, whose effect on a
lane's accumulators is `runLane_eq`. -/
theorem timePasses : Obligations.TimePasses := by
  refine ⟨fun s empty => ⟨fun stands => ?_, fun running present => ?_⟩,
    fun s d => ⟨advanceTo_frame s d, advanceTo_steps s d, fun present => ⟨advanceTo_backup d present,
      advanceTo_draws s d present, fun n => advanceTo_phaseOf d present n⟩, advanceTo_backup_absent d⟩⟩
  · rw [step, empty]
    dsimp only
    rw [State.idle, if_pos stands]
  · refine ⟨s.passReference 1, ?_, passReference_frame s 1, rfl, rfl, fun n => passReference_phaseOf s 1 n⟩
    rw [step, empty]
    dsimp only
    rw [State.idle, if_neg (not_or.mpr ⟨running, present⟩)]

/-! ## Rounding (section 3.6) -/

/-- `roundDiv` is the nearest integer, the even one at a half. -/
theorem roundDiv_spec (num : Int) {den : Nat} (pos : 0 < den) :
    2 * (roundDiv num den * den - num).natAbs ≤ den ∧
      (2 * (roundDiv num den * den - num).natAbs = den → roundDiv num den % 2 = 0) := by
  have split := Int.mul_ediv_add_emod num den
  have nonneg := Int.emod_nonneg num (b := den) (by omega)
  have small := Int.emod_lt_of_pos num (b := den) (by omega)
  have mulSucc : (num / den + 1) * den = den * (num / den) + den := by ring
  have mulSame : num / den * den = den * (num / den) := by ring
  unfold roundDiv
  dsimp only
  split
  · rw [mulSame]
    omega
  · split
    · rw [mulSucc]
      omega
    · split
      · rw [mulSame]
        omega
      · rw [mulSucc]
        omega

theorem dividerWords_eq (lo : Nat) :
    let f := (roundDiv ((lo - 10000000 * (lo / 10000000)) * 2 ^ 24 : Nat) 10000000).toNat
    dividerWords lo = if f = 2 ^ 24 then ⟨lo / 10000000 + 1, 0⟩ else ⟨lo / 10000000, f⟩ := by
  simp only [dividerWords]

/-- Settles O29: the fraction of a raster LO is a multiple of 1,000 Hz, so its F never rounds up to 2^24. -/
theorem dividerWordsNearNominal : Obligations.DividerWordsNearNominal := by
  intro lo legal
  obtain ⟨low, high, raster⟩ := legal
  obtain ⟨near, -⟩ := roundDiv_spec (((lo - 10000000 * (lo / 10000000)) * 2 ^ 24 : Nat) : Int)
    (den := 10000000) (by decide)
  rw [dividerWords_eq]
  dsimp only
  generalize roundDiv _ _ = r at near ⊢
  have below : r ≤ 16775538 := by omega
  rw [if_neg (by omega)]
  dsimp only
  omega

theorem bandwidth_le (k : Fin 8) : 25000 ≤ bandwidth k := by
  revert k
  decide

theorem toInt_ofInt_of_small {r : Int} (small : r.natAbs ≤ 916684800) : (BitVec.ofInt 32 r).toInt = r := by
  rw [BitVec.toInt_ofInt, Int.bmod_eq_of_le_mul_two]
  · norm_num
    omega
  · norm_num
    omega

theorem ncoInteger_spec (f : Nat) (w : DividerWords) :
    let exact : Int := 131072 * ((f : Int) - 10000000 * w.n) - 78125 * w.f
    (2000 * ncoInteger f w - exact).natAbs ≤ 1000 ∧
      ((2000 * ncoInteger f w - exact).natAbs = 1000 → ncoInteger f w % 2 = 0) := by
  intro exact
  obtain ⟨near, even⟩ := roundDiv_spec exact (den := 2000) (by decide)
  change 2 * (ncoInteger f w * (2000 : Nat) - exact).natAbs ≤ 2000 at near
  change 2 * (ncoInteger f w * (2000 : Nat) - exact).natAbs = 2000 → ncoInteger f w % 2 = 0 at even
  generalize ncoInteger f w = r at near even ⊢
  exact ⟨by omega, fun half => even (by omega)⟩

/-- Settles O30: in units of 1/2000 the exact value is the offset of R25 divided by 128. -/
theorem ncoWordsInRange : Obligations.NcoWordsInRange := by
  refine ⟨by decide, fun f w k window => ?_⟩
  intro exact
  obtain ⟨near, even⟩ := ncoInteger_spec f w
  have wide := bandwidth_le k
  rw [ncoWord]
  generalize ncoInteger f w = r at near even ⊢
  have offset : ((f : Int) * 2 ^ 24 - 10000000 * (2 ^ 24 * w.n + w.f)) = 128 * exact := by
    simp only [exact]
    ring
  rw [offset] at window
  have bound : r.natAbs ≤ 916684800 := by omega
  exact ⟨near, even, bound, toInt_ofInt_of_small bound⟩

/-! ## Shares (section 2.5) -/

section Shares
variable {α : Type} (f : α → Nat) (l : List α) {total : Nat}

theorem sum_scaled_le (total : Nat) :
    (l.map fun a => f a * 1024 / total).sum * total ≤ (l.map f).sum * 1024 := by
  induction l with
  | nil => simp
  | cons a l ih =>
    have one := Nat.div_mul_le_self (f a * 1024) total
    simp only [List.map_cons, List.sum_cons, Nat.add_mul]
    omega

theorem sum_le_scaled (pos : 0 < total) :
    (l.map f).sum * 1024 + l.length ≤ ((l.map fun a => f a * 1024 / total).sum + l.length) * total := by
  induction l with
  | nil => simp
  | cons a l ih =>
    have one := Nat.div_add_mod (f a * 1024) total
    have small := Nat.mod_lt (f a * 1024) pos
    have turn : total * (f a * 1024 / total) = f a * 1024 / total * total := Nat.mul_comm ..
    have next : f a * 1024 + 1 ≤ f a * 1024 / total * total + total := by linarith
    simp only [List.map_cons, List.sum_cons, List.length_cons, Nat.add_mul, Nat.one_mul] at ih ⊢
    linarith

theorem sum_halves_le : 2 * (l.map fun a => f a / 2).sum ≤ (l.map f).sum := by
  induction l with
  | nil => simp
  | cons a l ih =>
    simp only [List.map_cons, List.sum_cons]
    omega

end Shares

theorem Plan.onChain_iff (p : Plan) (x : Tx) (n : Slot) :
    p.onChain x n = true ↔ ∃ e, p.slots.get n = some e ∧ e.outputChain = x := by
  simp [Plan.onChain, Option.any_eq_true]

/-- The assigned share of a slot, 0 when it is absent. -/
def Plan.assignedShare (p : Plan) (n : Slot) : Nat := ((p.slots.get n).map SlotEntry.share).getD 0

theorem Plan.shareSum_eq (p : Plan) (x : Tx) :
    p.shareSum x = ((allSlots.filter (p.onChain x)).map p.assignedShare).sum := rfl

theorem Plan.effectiveShare_of_present {p : Plan} {n : Slot} {e : SlotEntry} (present : p.slots.get n = some e) :
    p.effectiveShare n = scaleShare e.share (p.shareSum e.outputChain) := by
  rw [Plan.effectiveShare, present]

theorem Plan.effectiveShare_onChain {p : Plan} {x : Tx} {n : Slot} (on : p.onChain x n = true) :
    p.effectiveShare n = scaleShare (p.assignedShare n) (p.shareSum x) := by
  obtain ⟨e, present, rfl⟩ := (p.onChain_iff x n).mp on
  rw [Plan.effectiveShare_of_present present, Plan.assignedShare, present]
  rfl

theorem Plan.effectiveShares_eq (p : Plan) (x : Tx) :
    (allSlots.filter (p.onChain x)).map p.effectiveShare =
      (allSlots.filter (p.onChain x)).map fun n => scaleShare (p.assignedShare n) (p.shareSum x) :=
  List.map_congr_left fun _ mem => Plan.effectiveShare_onChain (List.mem_filter.mp mem).2

/-- Settles O31: each scaled share loses less than one, and the whole shares sum to 1024. -/
theorem effectiveSharesFit : Obligations.EffectiveSharesFit := by
  intro p x on total
  have shares : total = (on.map fun n => scaleShare (p.assignedShare n) (p.shareSum x)).sum :=
    congrArg List.sum (p.effectiveShares_eq x)
  have sum : p.shareSum x = (on.map p.assignedShare).sum := p.shareSum_eq x
  have whole (fits : p.shareSum x ≤ 1024) : total = p.shareSum x := by
    rw [shares, sum]
    simp only [scaleShare, if_pos (sum ▸ fits : (on.map p.assignedShare).sum ≤ 1024)]
  have scaled (above : ¬p.shareSum x ≤ 1024) :
      total = (on.map fun n => p.assignedShare n * 1024 / p.shareSum x).sum := by
    rw [shares]
    simp only [scaleShare, if_neg above]
  have most : total ≤ 1024 := by
    by_cases fits : p.shareSum x ≤ 1024
    · exact (whole fits).trans_le fits
    · have le := sum_scaled_le p.assignedShare on (p.shareSum x)
      rw [← scaled fits, ← sum, Nat.mul_comm _ 1024] at le
      exact Nat.le_of_mul_le_mul_right le (by omega)
  refine ⟨p.onChain_iff x, ?_, fun n absent => ?_, fun n e present chain => ?_, most, whole, fun above => ?_, ?_⟩
  · rw [sum]
    refine congrArg List.sum (List.map_congr_left fun n _ => ?_)
    rw [Plan.assignedShare]
    cases p.slots.get n <;> rfl
  · rw [Plan.effectiveShare, absent]
  · rw [Plan.effectiveShare_of_present present, chain]
    rfl
  · have le := sum_le_scaled p.assignedShare on (total := p.shareSum x) (by omega)
    rw [← scaled (by omega), ← sum] at le
    by_contra few
    have bound : (total + on.length) * p.shareSum x ≤ 1024 * p.shareSum x := Nat.mul_le_mul_right _ (by omega)
    have none : on.length = 0 := by omega
    rw [List.length_eq_zero_iff] at none
    rw [sum, none] at above
    simp at above
  · have halves := sum_halves_le p.effectiveShare on
    change (on.map fun n => p.effectiveShare n / 2).sum ≤ 512
    have total_eq : (on.map p.effectiveShare).sum = total := rfl
    omega

end Sys2Proof.Machine
end

section
/-! PROOFS. The ports: what each operation tells and heeds, the frames outside a running part (O11) and the silence
expiry (O14). -/

namespace Sys2Proof.Machine

/-! ## Notice sets (R170) -/

/-- The notice kinds in the order of their bits. -/
def allNotices : List Notice :=
  [.resetOccurred, .planApplied, .planReverted, .commitCancelled, .grantLost, .peerSilent, .peerReturned,
    .chainChanged, .synthFailed, .inputChangeover, .referenceChanged, .storeDone, .storeFailed, .supplyChanged]

theorem allNotices_noticeBit (n : Notice) : allNotices[noticeBit n]? = some n := by cases n <;> rfl

theorem noticeBit_injective : Function.Injective noticeBit := by
  intro m n same
  have both := allNotices_noticeBit m
  rw [same, allNotices_noticeBit] at both
  exact (Option.some.inj both).symm

theorem noticeBit_lt (n : Notice) : noticeBit n < 14 := by cases n <;> decide

theorem NoticeSet.has_add (v : NoticeSet) (m n : Notice) : (v.add m).has n = (decide (n = m) || v.has n) := by
  have bit : (1#14 <<< noticeBit m).getLsbD (noticeBit n) = decide (n = m) := by
    rw [BitVec.getLsbD_shiftLeft, BitVec.getLsbD_one]
    by_cases same : n = m
    · simp [same, noticeBit_lt]
    · have apart : noticeBit n ≠ noticeBit m := fun eq => same (noticeBit_injective eq)
      simp [same]
      omega
  rw [NoticeSet.add, NoticeSet.has, BitVec.getLsbD_or, bit, Bool.or_comm]
  rfl

theorem notifyBoth_port (s : State) (m : Notice) (p : Port) :
    (s.notifyBoth m).port p = { s.port p with notices := (s.port p).notices.add m } := by
  cases p <;> rfl

theorem notifyBoth_told (s : State) (m : Notice) (p : Port) : (s.notifyBoth m).told p m := by
  rw [State.told, notifyBoth_port, NoticeSet.has_add]
  simp

/-! ## What the ports see of an operation -/

/-- Of the ports `t` differs from `s` at most in notices that have been raised. -/
structure Tells (s t : State) : Prop where
  port : ∀ p, { t.port p with notices := (s.port p).notices } = s.port p
  told : ∀ p n, s.told p n → t.told p n

/-- And the device-wide conditions are as they were. -/
structure Heeds (s t : State) : Prop extends Tells s t where
  device : t.pu.device = s.pu.device

theorem Tells.of_ports {s t : State} (ports : t.ports = s.ports) : Tells s t := by
  have same (p : Port) : t.port p = s.port p := by rw [State.port, ports]; rfl
  exact ⟨fun p => by rw [same], fun p n k => by rwa [State.told, same]⟩

theorem Tells.refl (s : State) : Tells s s := .of_ports rfl

theorem Tells.trans {s t u : State} (a : Tells s t) (b : Tells t u) : Tells s u := by
  refine ⟨fun p => ?_, fun p n k => b.told p n (a.told p n k)⟩
  have first := a.port p
  rw [← b.port p] at first
  exact first

theorem Heeds.refl (s : State) : Heeds s s := ⟨.refl s, rfl⟩

theorem Heeds.trans {s t u : State} (a : Heeds s t) (b : Heeds t u) : Heeds s u :=
  ⟨a.toTells.trans b.toTells, b.device.trans a.device⟩

theorem Heeds.of_same {s t : State} (ports : t.ports = s.ports) (device : t.pu.device = s.pu.device) : Heeds s t :=
  ⟨.of_ports ports, device⟩

section Tells
variable {s t : State} (h : Tells s t)
include h

theorem Tells.link (p : Port) : (t.port p).link = (s.port p).link := (congrArg PortState.link (h.port p) :)

theorem Tells.silence (p : Port) : (t.port p).silence = (s.port p).silence := (congrArg PortState.silence (h.port p) :)

theorem Tells.dataOut (p : Port) : (t.port p).dataOut = (s.port p).dataOut := (congrArg PortState.dataOut (h.port p) :)

theorem Tells.lastResponse (p : Port) : (t.port p).lastResponse = (s.port p).lastResponse :=
  (congrArg PortState.lastResponse (h.port p) :)

end Tells

theorem LaneFrame.heeds {s t : State} (h : LaneFrame s t) : Heeds s t := .of_same h.ports (congrArg _ h.pu)

theorem Outside.device {s t : State} (h : Outside s t) : t.pu.device = s.pu.device := congrArg _ h.pu

theorem notify_heeds (s : State) (p : Port) (n : Notice) : Heeds s (s.notify p n) := by
  refine ⟨⟨fun q => ?_, fun q m k => ?_⟩, rfl⟩
  · rw [State.notify, State.port_setPort]
    split
    · next eq => rw [eq]
    · rfl
  · rw [State.told, State.notify, State.port_setPort]
    split
    · next eq =>
      rw [NoticeSet.has_add, Bool.or_eq_true]
      exact .inr (eq ▸ k)
    · exact k

theorem notify_told (s : State) (p : Port) (n : Notice) : (s.notify p n).told p n := by
  rw [State.told, State.notify, State.port_setPort_same, NoticeSet.has_add]
  simp

theorem notifyBoth_heeds (s : State) (n : Notice) : Heeds s (s.notifyBoth n) :=
  (notify_heeds ..).trans (notify_heeds ..)

theorem setSynth_heeds (s : State) (c : Chain) (x : SynContext) : Heeds s (s.setSynth c x) := .of_same rfl rfl

theorem setSeq_heeds (s : State) (y : Tx) (q : Sequencer) : Heeds s (s.setSeq y q) := .of_same rfl rfl

theorem setPe_heeds (s : State) (e : PlanEngine) : Heeds s { s with pe := e } := .of_same rfl rfl

theorem setPu_tells (s : State) (u : Protection) : Tells s { s with pu := u } := .of_ports rfl

theorem setProtection_heeds (s : State) (y : Tx) (c : ChainProtection) : Heeds s (s.setProtection y c) :=
  .of_same rfl rfl

theorem decideProtection_heeds (s : State) (y : Tx) : Heeds s (s.decideProtection y) := .of_same rfl rfl

theorem withdrawSynth_heeds (s : State) (c : Chain) : Heeds s (s.withdrawSynth c) := by
  cases c with
  | rx r => exact .refl s
  | tx y =>
    unfold State.withdrawSynth
    dsimp only
    split
    · exact .refl s
    · exact .of_same rfl rfl

theorem SynthFrame.tells {s t : State} (h : SynthFrame s t) : Tells s t := .of_ports h.ports

/-- The controllers' own operations reach the Protection Unit by a withdrawal alone. -/
theorem SynthFrame.heeds {s t : State} (h : SynthFrame s t) (device : t.pu.device = s.pu.device) : Heeds s t :=
  ⟨h.tells, device⟩

theorem startMeasurement_device (s : State) : s.startMeasurement.pu.device = s.pu.device :=
  congrArg _ (startMeasurement_pu s)

theorem withdrawSynth_device (s : State) (c : Chain) : (s.withdrawSynth c).pu.device = s.pu.device :=
  (withdrawSynth_heeds s c).device

theorem goIdle_device (s : State) (c : Chain) : (s.goIdle c).pu.device = s.pu.device :=
  (withdrawSynth_device ..).trans (congrArg _ (refreshWords_frame ..).1.pu)

theorem takeWanted_heeds (s : State) (c : Chain) (lo : Option Nat) : Heeds s (s.takeWanted c lo) := by
  refine (takeWanted_frame s c lo).heeds ?_
  unfold State.takeWanted
  split
  · rfl
  · split
    · next l =>
      unfold State.takeLo
      dsimp only
      split
      · split <;> rfl
      · split <;> rfl
      all_goals exact (startMeasurement_device _).trans (withdrawSynth_device ..)
    · unfold State.takeNone
      dsimp only
      split
      · rfl
      · split <;> rfl
      all_goals exact (startMeasurement_device _).trans (goIdle_device ..)

theorem handOver_heeds (s : State) (y : Tx) : Heeds s (s.handOver y) :=
  (setSeq_heeds ..).trans (takeWanted_heeds ..)

theorem moveSeq_heeds (s : State) (y : Tx) (st : SeqState) : Heeds s (s.moveSeq y st) := by
  refine Heeds.trans ?_ (entered_moveSeq s y st).heeds
  unfold State.entered
  dsimp only
  have written : Heeds s ((s.setSeq y (s.enterSeq y st)).notifyBoth .chainChanged) :=
    (setSeq_heeds ..).trans (notifyBoth_heeds ..)
  split
  · exact written.trans (handOver_heeds ..)
  · exact written

theorem settleSeq_heeds (fuel : Nat) (s : State) (y : Tx) : Heeds s (State.settleSeq fuel s y) := by
  induction fuel generalizing s with
  | zero => exact .refl s
  | succ fuel ih =>
    unfold State.settleSeq
    split
    · exact .refl s
    · exact (moveSeq_heeds ..).trans (ih _)

theorem decideSeq_heeds (s : State) (y : Tx) : Heeds s (s.decideSeq y) := by
  unfold State.decideSeq
  split
  · exact settleSeq_heeds ..
  · exact .refl s

theorem decideAllSeq_heeds (s : State) : Heeds s s.decideAllSeq :=
  foldl_related .refl .trans decideSeq_heeds _ s

theorem seqSynthLost_heeds (s : State) (y : Tx) : Heeds s (s.seqSynthLost y) := by
  unfold State.seqSynthLost
  dsimp only
  split
  · exact ((fastMuteChain_frame ..).heeds.trans (moveSeq_heeds ..)).trans (decideSeq_heeds ..)
  · exact .refl s

theorem probationFailure_heeds (s : State) : Heeds s s.probationFailure := by
  unfold State.probationFailure
  split
  · dsimp only
    split
    · exact (setPe_heeds ..).trans (notifyBoth_heeds ..)
    · exact setPe_heeds ..
  · exact .refl s

theorem requestWrite_heeds (s : State) (r : RecordName) (c : Content) : Heeds s (s.requestWrite r c) := by
  rw [requestWrite_eq]
  exact .of_same rfl rfl

theorem writerStart_heeds (s : State) : Heeds s s.writerStart := by
  rw [writerStart_eq]
  exact .of_same rfl rfl

theorem tellChange_heeds (s : State) (b : Bool) : Heeds s (s.tellChange b) := by
  unfold State.tellChange
  split
  · exact notifyBoth_heeds ..
  · exact .refl s

theorem tellLockout_heeds (s : State) (b : Bool) : Heeds s (s.tellLockout b) := by
  unfold State.tellLockout
  split
  · exact (requestWrite_heeds ..).trans (probationFailure_heeds _)
  · exact .refl s

theorem tellChain_heeds (s : State) (y : Tx) (b : Bool) : Heeds s (s.tellChain y b) := by
  unfold State.tellChain
  split
  · exact (decideLanes_frame ..).heeds.trans (decideSeq_heeds ..)
  · exact .refl s

theorem handProtection_heeds (b s : State) (y : Tx) : Heeds s (State.handProtection b s y) :=
  ((tellChange_heeds ..).trans (tellLockout_heeds ..)).trans (tellChain_heeds ..)

theorem protect_heeds (s : State) (y : Tx) : Heeds s (s.protect y) :=
  (decideProtection_heeds ..).trans (handProtection_heeds ..)

theorem protectAll_heeds (s : State) : Heeds s (allTx.foldl State.protect s) :=
  foldl_related .refl .trans protect_heeds _ s

theorem setDevice_tells (s : State) (d : DeviceConditions) : Tells s (s.setDevice d) := by
  unfold State.setDevice
  split
  · exact .refl s
  · exact (setPu_tells ..).trans (protectAll_heeds _).toTells

/-- The device-wide conditions are those made present (R139). -/
theorem setDevice_device (s : State) (d : DeviceConditions) : (s.setDevice d).pu.device = d := by
  unfold State.setDevice
  split
  · next same => exact same.symm
  · exact (protectAll_heeds { s with pu := { s.pu with device := d } }).device

theorem setPresent_heeds (s : State) (y : Tx) (c : ChainConditions) : Heeds s (s.setPresent y c) := by
  unfold State.setPresent
  split
  · exact .refl s
  · exact (setProtection_heeds ..).trans (protect_heeds ..)

theorem reportSynth_heeds (s : State) (c : Chain) : Heeds s (s.reportSynth c) := by
  cases c with
  | rx r => exact .refl s
  | tx y => exact setPresent_heeds ..

theorem soilProbe_same (s : State) (r : Rx) :
    (s.soilProbe r).ports = s.ports ∧ (s.soilProbe r).pu = s.pu := by
  unfold State.soilProbe
  split
  · exact ⟨rfl, rfl⟩
  · split <;> exact ⟨rfl, rfl⟩

theorem leftVerified_heeds (s : State) (c : Chain) : Heeds s (s.leftVerified c) := by
  cases c with
  | rx r =>
    have muted : LaneFrame s ((s.lanesFrom r).foldl State.fastMute s) := foldl_related .refl .trans fastMute_frame _ s
    obtain ⟨ports, pu⟩ := soilProbe_same ((s.lanesFrom r).foldl State.fastMute s) r
    exact ((muted.heeds.trans (.of_same ports (congrArg _ pu))).trans (decideLanes_frame ..).heeds).trans
      (decideAllSeq_heeds _)
  | tx y => exact seqSynthLost_heeds ..

theorem enteredVerified_heeds (s : State) (c : Chain) : Heeds s (s.enteredVerified c) := by
  cases c with
  | rx r => exact (decideLanes_frame ..).heeds
  | tx y => exact decideSeq_heeds ..

theorem takeRxLo_heeds (s : State) (r : Rx) : Heeds s (s.takeRxLo r) := by
  unfold State.takeRxLo
  dsimp only
  split
  · exact (takeWanted_heeds ..).trans (leftVerified_heeds ..)
  · exact takeWanted_heeds ..

/-! ## The ports' transactions (O11, O14) -/

theorem heard_silent {s : State} {p : Port} (silent : (s.port p).link = .silent) :
    s.heard p =
      let u := (s.setPort p { s.port p with
        link := .active, silence := s.afterSeconds (s.port p).linkSilence }).notify p.other .peerReturned
      u.setDevice { u.pu.device with linksSilent := false } := by
  rw [State.heard]
  dsimp only
  rw [if_pos silent]

theorem framed_active {s : State} {p : Port} (active : (s.port p).link = .active) (n : Nat) :
    s.framed p n = s.setPort p { s.port p with
      dataOut := some ((s.port p).lastResponse.bytes.take n)
      silence := some (s.time.steps + 100 * (s.port p).linkSilence) } := by
  have port : (s.clockOut p n).port p =
      { s.port p with dataOut := some ((s.port p).lastResponse.bytes.take n) } := State.port_setPort_same ..
  rw [State.framed, heard_active _ _ (by rw [port]; exact active), port, State.clockOut, State.setPort_setPort]
  rfl

theorem exec_nop (s : State) (p : Port) (tag : Byte) {payload : List Byte} (fill : Nat) (running : s.phase = .running)
    (fits : payload.length ≤ 48) :
    exec (.nop p tag ⟨payload, fill⟩) s = .next (s.framed p (payload.length + 5 + fill)) := by
  change Host.Outcome.next (s.takeRequest .nop p tag ⟨payload, fill⟩) = _
  rw [State.takeRequest, if_neg (not_not.mpr running), if_neg (by simpa using fits), State.takeValid]
  dsimp only
  rw [State.answer, if_pos rfl]
  rcases dispatch_cases ((s.clockOut p (clocked ⟨payload, fill⟩)).heard p) .nop p payload with same | served
  · rw [same]
    rfl
  · rw [served]
    rfl

/-- Outside running a request is clocked through and discarded, whatever its kind (R165). -/
theorem exec_command_discarded {s : State} (discarded : s.phase ≠ .running) (k : RequestKind) (p : Port) (tag : Byte)
    (x : Sent) : exec (k.command p tag x) s = .next (s.clockOut p (clocked x)) := by
  rw [exec_command, State.takeRequest, if_pos discarded]

theorem takeKind_discarded {s : State} (discarded : s.phase ≠ .running) (p : Port) (kind tag : Byte) (x : Sent) :
    s.takeKind p kind tag x = s.clockOut p (clocked x) := by
  unfold State.takeKind
  split
  · rw [State.takeRequest, if_pos discarded]
  · rw [if_pos discarded]

/-- Settles O11: a NOP is the hearing of its frame alone, and a discarded frame the clocking out. -/
theorem framesHeardOrDiscarded : Obligations.FramesHeardOrDiscarded := by
  refine ⟨fun s p tag payload fill running fits => ⟨exec_nop s p tag fill running fits,
    fun active => framed_active active _, fun silent => ?_⟩, fun s p k kind tag payload bytes fill => ⟨fun discarded =>
    ⟨exec_command_discarded discarded k p tag _, ?_, fun some => ?_⟩, fun some => ⟨?_, fun resets r before => ?_⟩,
    fun resets => rfl, rfl⟩⟩
  · have port : (s.clockOut p (payload.length + 5 + fill)).port p =
        { s.port p with dataOut := some ((s.port p).lastResponse.bytes.take (payload.length + 5 + fill)) } :=
      State.port_setPort_same ..
    have silent' : ((s.clockOut p (payload.length + 5 + fill)).port p).link = .silent := by rw [port]; exact silent
    refine ⟨framed_frame .., ?_⟩
    rw [State.framed, heard_silent silent', port]
    dsimp only
    set base := (s.clockOut p (payload.length + 5 + fill)).setPort p { s.port p with
      dataOut := some ((s.port p).lastResponse.bytes.take (payload.length + 5 + fill)), link := .active
      silence := some (s.time.steps + 100 * (s.port p).linkSilence) } with base_eq
    have own : base.port p = { s.port p with
        dataOut := some ((s.port p).lastResponse.bytes.take (payload.length + 5 + fill)), link := .active
        silence := some (s.time.steps + 100 * (s.port p).linkSilence) } := State.port_setPort_same ..
    have told := setDevice_tells (base.notify p.other .peerReturned)
      { (base.notify p.other .peerReturned).pu.device with linksSilent := false }
    have tells := (notify_heeds base p.other .peerReturned).toTells.trans told
    refine ⟨(tells.link p).trans (by rw [own]), (tells.silence p).trans (by rw [own]),
      (tells.dataOut p).trans (by rw [own]), (tells.lastResponse p).trans (by rw [own]),
      told.told _ _ (notify_told ..), setDevice_device ..⟩
  · change Host.Outcome.next (s.takeKind p kind tag ⟨payload, fill⟩) = _
    rw [takeKind_discarded discarded]
    rfl
  · change execFrameError p bytes s = _
    rw [execFrameError, if_neg some, if_pos discarded]
    rfl
  · change Host.Outcome.next (if bytes = [] then s else _) = _
    rw [if_neg some]
    rfl
  · change Host.Outcome.next (if bytes = [] then s else _) = _
    rw [if_neg some, State.clockOutCut, PortState.responseBefore, before]
    rfl

/-- What a probation failure leaves of the Plan Engine (R55). -/
theorem ProtFrame.plans {s t : State} (h : ProtFrame s t) :
    t.pe.active = s.pe.active ∧ t.pe.history = s.pe.history ∧ t.pe.lastIssued = s.pe.lastIssued ∧
      t.pe.grant = s.pe.grant ∧ t.pe.staged = s.pe.staged := by
  rcases h.pe with same | ⟨-, failed⟩
  · rw [same]; exact ⟨rfl, rfl, rfl, rfl, rfl⟩
  · rw [failed]; exact ⟨rfl, rfl, rfl, rfl, rfl⟩

theorem grantLost_held {s : State} {p : Port} (held : s.pe.grant = some p) :
    s.grantLost p = s.releaseGrant.notifyBoth .grantLost := if_pos held

theorem grantLost_free {s : State} {p : Port} (free : s.pe.grant ≠ some p) : s.grantLost p = s := if_neg free

theorem releaseGrant_heeds (s : State) : Heeds s s.releaseGrant := .of_same rfl rfl

theorem grantLost_heeds (s : State) (p : Port) : Heeds s (s.grantLost p) := by
  unfold State.grantLost
  split
  · exact (releaseGrant_heeds s).trans (notifyBoth_heeds ..)
  · exact .refl s

/-- A lost grant touches the Plan Engine's grant and staged plan and the notice sets alone (R39). -/
theorem grantLost_eq (s : State) (p : Port) :
    s.grantLost p = { s with pe := (s.grantLost p).pe, ports := (s.grantLost p).ports } ∧
      (s.grantLost p).pe = { s.pe with grant := (s.grantLost p).pe.grant, staged := (s.grantLost p).pe.staged } := by
  unfold State.grantLost
  split <;> exact ⟨rfl, rfl⟩

/-- The port made silent and its peer told (R168). -/
def State.mute (s : State) (p : Port) : State :=
  (s.setPort p { s.port p with link := .silent, silence := none }).notify p.other .peerSilent

theorem mute_port (s : State) (p : Port) :
    ((s.mute p).port p).link = .silent ∧ ((s.mute p).port p).silence = none ∧ (s.mute p).told p.other .peerSilent ∧
      ((s.mute p).port p.other).link = (s.port p.other).link := by
  have tells := (notify_heeds (s.setPort p { s.port p with link := .silent, silence := none }) p.other
    .peerSilent).toTells
  refine ⟨(tells.link p).trans (by rw [State.port_setPort_same]), (tells.silence p).trans (by
    rw [State.port_setPort_same]), notify_told .., (tells.link p.other).trans ?_⟩
  rw [State.port_setPort, if_neg (port_other_ne p)]

theorem mute_rest (s : State) (p : Port) : s.mute p = { s with ports := (s.mute p).ports } := rfl

/-- LINKS_SILENT becomes present when the other port is SILENT too (R168). -/
theorem silenced_eq_mute (s : State) (p : Port) :
    let u := (s.mute p).grantLost p
    ((s.port p.other).link = .silent →
      s.silenced p = u.setDevice { u.pu.device with linksSilent := true }) ∧
    ((s.port p.other).link = .active → s.silenced p = u) := by
  intro u
  have link : (u.port p.other).link = (s.port p.other).link :=
    ((grantLost_heeds (s.mute p) p).link p.other).trans (mute_port s p).2.2.2
  constructor
  · intro silent
    exact if_pos (link.trans silent)
  · intro active
    refine if_neg fun silent => ?_
    have both := silent.symm.trans (link.trans active)
    cases both

theorem silenced_of (s : State) (p : Port) :
    let u := (s.mute p).grantLost p
    ProtFrame u (s.silenced p) ∧ Tells u (s.silenced p) := by
  intro u
  obtain ⟨silent, active⟩ := silenced_eq_mute s p
  cases link : (s.port p.other).link with
  | silent =>
    rw [silent link]
    exact ⟨setDevice_frame .., setDevice_tells ..⟩
  | active =>
    rw [active link]
    exact ⟨.refl _, .refl _⟩

/-- Settles O14: the silence reaches the peer, then the grant, then LINKS_SILENT. -/
theorem silenceReleasesGrant : Obligations.SilenceReleasesGrant := by
  intro s p d timer
  have moved := advanceTo_frame s d
  have steps := advanceTo_steps s d
  refine ⟨(s.advanceTo d).silenced p, by simp only [exec, execSilenceExpiry, timer], ?_⟩
  have port_eq (q : Port) : (s.advanceTo d).port q = s.port q := by rw [State.port, moved.ports]; rfl
  obtain ⟨frame, tells⟩ := silenced_of (s.advanceTo d) p
  obtain ⟨bothSilent, otherActive⟩ := silenced_eq_mute (s.advanceTo d) p
  rw [port_eq] at bothSilent otherActive
  obtain ⟨link, silence, told, -⟩ := mute_port (s.advanceTo d) p
  have kept : ((s.advanceTo d).mute p).pe = s.pe := moved.pe
  have lost := grantLost_heeds ((s.advanceTo d).mute p) p
  obtain ⟨lost_eq, lost_pe⟩ := grantLost_eq ((s.advanceTo d).mute p) p
  obtain ⟨active, history, issue, grant, staged⟩ := frame.plans
  have ref : ((s.advanceTo d).silenced p).ref = s.ref := by
    rw [frame.ref, lost_eq]
    exact moved.ref
  refine ⟨?_, ?_, ?_, ?_, ?_, ?_, ?_, ref, ?_, ?_, fun held => ⟨?_, ?_, fun q => ?_⟩, fun free => ⟨?_, ?_⟩,
    fun silent => ?_, fun other => ?_⟩
  · rw [tells.link, lost.link, link]
  · rw [tells.silence, lost.silence, silence]
  · exact tells.told _ _ (lost.told _ _ told)
  · rw [frame.time, lost_eq]
    exact steps
  · rw [active, lost_pe]
    exact (congrArg PlanEngine.active kept :)
  · rw [history, lost_pe]
    exact (congrArg PlanEngine.history kept :)
  · rw [issue, lost_pe]
    exact (congrArg PlanEngine.lastIssued kept :)
  · rw [frame.supply, lost_eq]
    exact moved.supply
  · rw [frame.pending, lost_eq]
    exact moved.pending
  · rw [grant, grantLost_held (by rw [← moved.pe] at held; exact held)]
    rfl
  · rw [staged, grantLost_held (by rw [← moved.pe] at held; exact held)]
    rfl
  · rw [grantLost_held (by rw [← moved.pe] at held; exact held)] at tells
    exact tells.told q _ (notifyBoth_told ..)
  · rw [grant, grantLost_free (by rw [← moved.pe] at free; exact free)]
    exact congrArg PlanEngine.grant moved.pe
  · rw [staged, grantLost_free (by rw [← moved.pe] at free; exact free)]
    exact congrArg PlanEngine.staged moved.pe
  · rw [bothSilent silent, setDevice_device, lost_eq]
    exact congrArg (fun u : Protection => { u.device with linksSilent := true }) moved.pu
  · rw [otherActive other]
    have pending : ((s.advanceTo d).mute p).pe.pendingApply = s.pe.pendingApply :=
      congrArg PlanEngine.pendingApply moved.pe
    refine ⟨?_, ?_, ?_, by rw [lost_pe]; exact pending, ?_, ?_, ?_, ?_, ?_, ?_⟩
    all_goals rw [lost_eq]
    · exact moved.pu
    · exact moved.os
    · exact moved.store
    · exact moved.syn
    · exact moved.fc
    · exact moved.lanes
    · exact moved.mixers
    · exact moved.inputs
    · exact moved.probe

end Sys2Proof.Machine
end

section
/-! PROOFS. Reset: the state after it (O3), the ways into it and out of it (O59); and the store's writer (O57). -/

namespace Sys2Proof.Machine

/-! ## The state after reset (O3) -/

section ResetState

theorem reset_synth (c : Chain) : State.reset.synth c = .reset := reset_atReset.synth_eq c

theorem reset_seq (x : Tx) : State.reset.seq x = .reset := reset_atReset.seq_eq x

theorem reset_lane (n : Slot) : State.reset.lane n = .reset := Vector.getElem_replicate ..

theorem reset_phaseOf (n : Slot) : State.reset.phaseOf n = ⟨0, 0⟩ := Vector.getElem_replicate ..

theorem reset_input (n : Slot) : State.reset.input n = .reset := Vector.getElem_replicate ..

theorem reset_mixer (x : Tx) : State.reset.mixer x = .reset := by cases x <;> rfl

theorem reset_protection (x : Tx) : State.reset.protection x = .reset := by cases x <;> rfl

theorem reset_port (p : Port) : State.reset.port p = .reset := by cases p <;> rfl

theorem reset_entry (k : Fin 4) : State.reset.pe.entry k = none := Vector.getElem_replicate ..

theorem reset_notices (n : Notice) : PortState.reset.notices.has n = decide (n = .resetOccurred) := by
  cases n <;> rfl

/-- Settles O3, block by block, and by the soundness of every state at reset. -/
theorem resetStateSound : Obligations.ResetStateSound := by
  have sound := reset_atReset.sound
  refine ⟨?_, sound.grant, sound.probation, sound.history, sound.revert, sound.counter, sound.sequencers, sound.off,
    sound.trips, sound.level, sound.conditions, sound.lanes⟩
  refine ⟨rfl, rfl, rfl, rfl, rfl, reset_entry, rfl, rfl, rfl, rfl, rfl, rfl, rfl, rfl, rfl, rfl, fun c => ?_, rfl, rfl,
    rfl, fun n => ?_, reset_mixer, fun n => ?_, rfl, rfl, rfl, rfl, fun x => ?_, fun x => ?_, rfl, rfl, rfl, rfl, rfl,
    fun r => ?_, fun p => ?_⟩
  · rw [reset_synth]
    exact ⟨rfl, rfl, rfl, rfl, rfl, rfl, rfl, rfl, rfl, rfl, rfl, rfl, rfl⟩
  · rw [reset_lane, reset_phaseOf]
    exact ⟨rfl, rfl, rfl, rfl, rfl, rfl, rfl, rfl, rfl, rfl⟩
  · rw [reset_input]
    exact ⟨rfl, rfl, rfl, rfl, rfl, rfl, rfl, rfl⟩
  · rw [reset_seq]
    exact ⟨rfl, rfl, rfl, rfl, rfl, rfl, rfl, rfl, rfl, rfl⟩
  · rw [reset_protection]
    exact ⟨rfl, rfl, rfl, rfl, rfl, rfl, rfl, rfl⟩
  · cases r <;> exact ⟨rfl, rfl, rfl⟩
  · rw [reset_port]
    exact ⟨rfl, rfl, rfl, reset_notices, rfl, rfl⟩

end ResetState

/-! ## Reset and release (O59) -/

section Hold

/-- What an entry into reset makes of `s`, whatever the Supply Monitor then notes: every block as after reset, the
lines off, no condition present, and the stored records without their volatile part. -/
structure EntersHold (s t : State) : Prop where
  blocks : t.phase = .held ∧ t.pe = State.reset.pe ∧ t.syn = State.reset.syn ∧ t.fc = State.reset.fc ∧
    t.lanes = State.reset.lanes ∧ t.phases = State.reset.phases ∧ t.mixers = State.reset.mixers ∧
    t.inputs = State.reset.inputs ∧ t.os = State.reset.os ∧ t.ref = State.reset.ref ∧ t.probe = State.reset.probe ∧
    t.time = { State.reset.time with startDelay := none } ∧ t.store.inFlight = none
  pu : t.pu = ⟨⟨false, false, false, false, false⟩, ⟨.held, .held, .held, .held⟩⟩
  port : ∀ p, t.port p = (s.port p).held (s.phase == .held)
  record : ∀ r, (t.record r).image = (s.record r).image ∧ (t.record r).pendingContent = none ∧
    (t.record r).retryUsed = false ∧ (t.record r).retry = none
  pending : t.pending = s.pending

theorem enterHold_entersHold (s : State) : EntersHold s s.enterHold where
  blocks := ⟨rfl, rfl, rfl, rfl, rfl, rfl, rfl, rfl, rfl, rfl, rfl, rfl, rfl⟩
  pu := rfl
  port p := by cases p <;> rfl
  record r := by cases r <;> exact ⟨rfl, rfl, rfl, rfl⟩
  pending := rfl

theorem EntersHold.supply {s t : State} (h : EntersHold s t) (x : Supply) : EntersHold s { t with supply := x } :=
  ⟨h.blocks, h.pu, h.port, h.record, h.pending⟩

theorem loseRecord_record (s : State) (r : RecordName) : s.loseRecord.record r = (s.record r).failuresLost := by
  cases r <;> rfl

theorem EntersHold.loseRecord {s t : State} (h : EntersHold s t) : EntersHold s t.loseRecord := by
  refine ⟨h.blocks, h.pu, h.port, fun r => ?_, h.pending⟩
  rw [loseRecord_record]
  exact h.record r

/-- The failure counts and the reset-cause record after an entry into reset. -/
structure Notes (s t : State) (below50 : Bool) : Prop where
  failures : ∀ r, (t.record r).failures = if below50 = true then 0 else (s.record r).failures
  lost : below50 = true → t.supply.sawBelow50 = true ∧ t.supply.undervoltageSeen = false
  kept : below50 = false → t.supply.undervoltageSeen = s.supply.undervoltageSeen ∧
    t.supply.lastCause = s.supply.lastCause

theorem loseRecord_notes (s t : State) : Notes s t.loseRecord true where
  failures r := by rw [loseRecord_record]; rfl
  lost _ := ⟨rfl, rfl⟩
  kept := nofun

theorem enterHold_failures (s : State) (r : RecordName) : (s.enterHold.record r).failures = (s.record r).failures := by
  cases r <;> rfl

theorem measureHeld_entersHold {s t : State} (h : EntersHold s t) (m : HalfPercent) :
    EntersHold s (t.measureHeld m) := by
  unfold State.measureHeld
  dsimp only
  split
  · exact (h.supply _).loseRecord
  · exact h.supply _

theorem measureHeld_notes (s : State) (m : HalfPercent) :
    Notes s (s.enterHold.measureHeld m) (decide (m.val < 100)) ∧
      ((s.enterHold.measureHeld m).supply.sawBelow80 = (s.supply.sawBelow80 || supplyBelow80 m)) := by
  unfold State.measureHeld supplyBelow50
  dsimp only
  split
  · next below =>
    rw [below]
    exact ⟨loseRecord_notes _ _, rfl⟩
  · next above =>
    rw [Bool.not_eq_true] at above
    rw [above]
    exact ⟨⟨enterHold_failures s, nofun, fun _ => ⟨rfl, rfl⟩⟩, rfl⟩

theorem phase_beq_held (s : State) : (s.phase == .held) = decide (s.phase = .held) := by
  cases s.phase <;> rfl

theorem EntersHold.ports {s t : State} (h : EntersHold s t) (p : Port) :
    (t.port p).attention = false ∧ t.port p = { State.reset.port p with
      notices := 0
      beforeReset := if s.phase = .held then (s.port p).beforeReset
        else (s.port p).lastResponse :: (s.port p).beforeReset } := by
  rw [h.port, reset_port, phase_beq_held]
  refine ⟨rfl, ?_⟩
  simp only [PortState.held, decide_eq_true_eq]

theorem EntersHold.protection {s t : State} (h : EntersHold s t) (x : Tx) : t.protection x = .held := by
  rw [State.protection, h.pu]
  cases x <;> rfl

theorem EntersHold.lines {s t : State} (h : EntersHold s t) (x : Tx) :
    (t.seq x).state.driveOn = false ∧ (t.seq x).state.paOn = false := by
  obtain ⟨-, -, -, -, -, -, -, -, os, -⟩ := h.blocks
  rw [State.seq, os]
  cases x <;> exact ⟨rfl, rfl⟩

/-- Each command that resets the part enters the hold and notes what it has seen. -/
theorem exec_entersHold {s : State} {c : Instr} {below50 below80 pin : Bool}
    (resets : (∃ m : HalfPercent, m.val < 160 ∧ c = .supplyMeasurement m ∧ s.phase ≠ .held ∧
        below50 = decide (m.val < 100) ∧ below80 = true ∧ pin = false) ∨
      (c = .powerOn ∧ below50 = true ∧ below80 = true ∧ pin = false) ∨
      (c = .resetPinAssert ∧ s.phase ≠ .held ∧ below50 = false ∧ below80 = false ∧ pin = true)) :
    ∃ t, exec c s = .next t ∧ EntersHold s t ∧ Notes s t below50 ∧
      (below80 = true → below50 = false → t.supply.sawBelow80 = true) ∧ (pin = true → t.supply.pinAsserted = true) := by
  have enters := enterHold_entersHold s
  obtain ⟨m, low, rfl, running, rfl, rfl, rfl⟩ | ⟨rfl, rfl, rfl, rfl⟩ | ⟨rfl, running, rfl, rfl, rfl⟩ := resets
  · have below : supplyBelow80 m = true := decide_eq_true low
    obtain ⟨notes, saw⟩ := measureHeld_notes s m
    refine ⟨s.enterHold.measureHeld m, ?_, measureHeld_entersHold enters m, notes, fun _ _ => ?_, nofun⟩
    · change execSupplyMeasurement m s = _
      rw [execSupplyMeasurement, if_neg running, if_pos below]
    · rw [saw, below, Bool.or_true]
  · exact ⟨_, rfl, (enters.supply _).loseRecord, loseRecord_notes .., nofun, nofun⟩
  · refine ⟨{ s.enterHold with supply := { s.enterHold.supply with pinAsserted := true } }, ?_, enters.supply _,
      ⟨enterHold_failures s, nofun, fun _ => ⟨rfl, rfl⟩⟩, nofun, fun _ => rfl⟩
    change execResetPinAssert s = _
    rw [execResetPinAssert, if_neg running]

theorem released_record (s : State) (m : HalfPercent) (strap : Strap) (r : RecordName) :
    (s.released m strap).record r = (s.record r).checked r ∧
      (s.released m strap).store.startStatuses.get r = ((s.record r).checked r).status := by
  cases r <;> exact ⟨rfl, rfl⟩

theorem released_supply (x : Supply) (m : HalfPercent) : x.released m = { x with
    state := if m.val < 180 then .warning else .normal
    measurement := m
    lastCause := if x.sawBelow50 then .powerOn else if x.sawBelow80 then .undervoltage else .pin
    undervoltageSeen := if x.sawBelow50 then false else if x.sawBelow80 then true else x.undervoltageSeen
    sawBelow50 := false, sawBelow80 := false, pinAsserted := false } := by
  unfold Supply.released Supply.cause supplyBelow90
  cases x.sawBelow50 <;> cases x.sawBelow80 <;> simp [ResetCause.seen]

theorem measureHeld_same (s : State) (m : HalfPercent) :
    (s.measureHeld m).phase = s.phase ∧ (s.measureHeld m).pe = s.pe ∧ (s.measureHeld m).os = s.os ∧
      (s.measureHeld m).supply.measurement = m ∧
      (s.measureHeld m).supply.sawBelow80 = (s.supply.sawBelow80 || decide (m.val < 160)) ∧
      ∀ r, ((s.measureHeld m).record r).image = (s.record r).image := by
  unfold State.measureHeld
  dsimp only
  split
  · refine ⟨rfl, rfl, rfl, rfl, rfl, fun r => ?_⟩
    rw [loseRecord_record]
    rfl
  · exact ⟨rfl, rfl, rfl, rfl, rfl, fun _ => rfl⟩

theorem exec_supplyMeasurement_held {s : State} (held : s.phase = .held) (m : HalfPercent) :
    exec (.supplyMeasurement m) s = .next (s.measureHeld m) := by
  change execSupplyMeasurement m s = _
  rw [execSupplyMeasurement, if_pos held]

theorem exec_resetRelease_held {s : State} (held : s.phase = .held) (m : HalfPercent) (pin : Bool) (strap : Strap) :
    exec (.resetRelease m pin strap) s =
      if supplyReleases m && !pin then .next (s.released m strap)
      else .next { s.measureHeld m with supply := { (s.measureHeld m).supply with pinAsserted := pin } } := by
  change execResetRelease m pin strap s = _
  rw [execResetRelease, if_neg (not_not_intro held)]

/-- Settles O59: the ways into reset, a held part's notes, and its release. -/
theorem resetHeldAndReleased : Obligations.ResetHeldAndReleased := by
  refine ⟨fun s c below50 below80 pin resets => ?_, fun s m held => ⟨fun above => ?_, fun below => ?_, ?_⟩,
    fun s m pin strap held => ⟨fun releases clear => ?_, fun stays => ?_⟩⟩
  · obtain ⟨t, next, enters, notes, saw80, asserted⟩ := exec_entersHold resets
    obtain ⟨phase, pe, syn, fc, lanes, phases, mixers, inputs, os, ref, probe, time, inFlight⟩ := enters.blocks
    refine ⟨t, next, phase, pe, syn, fc, lanes, phases, mixers, inputs, os, ref, probe, time, inFlight,
      congrArg Protection.device enters.pu, enters.protection, enters.lines, enters.ports, fun r => ?_, saw80,
      notes.lost, notes.kept, asserted, enters.pending⟩
    obtain ⟨image, content, used, retry⟩ := enters.record r
    exact ⟨image, content, used, retry, notes.failures r⟩
  · have high : supplyBelow50 m = false := decide_eq_false (not_lt.mpr above)
    rw [exec_supplyMeasurement_held held, State.measureHeld, high]
    rfl
  · have low : supplyBelow50 m = true := decide_eq_true below
    rw [exec_supplyMeasurement_held held, State.measureHeld, low]
    rfl
  · change execResetPinAssert s = _
    rw [execResetPinAssert, if_pos held]
  · have high : supplyReleases m = true := decide_eq_true releases
    rw [exec_resetRelease_held held, high, clear]
    refine ⟨s.released m strap, rfl, rfl, ?_, released_supply .., fun r => ?_, rfl, rfl, rfl, rfl, rfl, rfl, rfl, rfl,
      rfl, rfl, rfl, fun p => ?_, rfl, rfl, rfl⟩
    · cases strap <;> rfl
    · obtain ⟨record, status⟩ := released_record s m strap r
      rw [record, status]
      exact ⟨rfl, rfl, rfl, rfl, rfl⟩
    · cases p <;> rfl
  · have low : (supplyReleases m && !pin) = false := by
      obtain low | rfl := stays
      · rw [show supplyReleases m = false from decide_eq_false (not_le.mpr low), Bool.false_and]
      · rw [Bool.not_true, Bool.and_false]
    obtain ⟨phase, pe, os, measurement, saw, image⟩ := measureHeld_same s m
    rw [exec_resetRelease_held held, low]
    exact ⟨_, rfl, phase.trans held, measurement, rfl, saw, image, pe, os⟩

end Hold

/-! ## The store's writer (O57) -/

section Writer

theorem writeReady_iff (s : State) (r : RecordName) :
    s.writeReady r = true ↔ ∃ c, (s.record r).pendingContent = some c ∧ (s.record r).retry = none := by
  rw [State.writeReady, Bool.and_eq_true, Option.isSome_iff_exists, Option.isNone_iff_eq_none, exists_and_right]

/-- The writer can start: the part runs, no write is in flight, and the supply is NORMAL (R154). -/
structure State.WriterFree (s : State) : Prop where
  running : s.phase = .running
  idle : s.store.inFlight = none
  supply : s.supply.state = .normal

theorem writerStart_site {s : State} (free : s.WriterFree) {c : Content}
    (content : (s.record .site).pendingContent = some c)
    (retry : (s.record .site).retry = none) : s.writerStart = s.startWrite .site := by
  rw [State.writerStart, if_pos ⟨free.running, free.idle, free.supply⟩,
    if_pos ((writeReady_iff ..).mpr ⟨c, content, retry⟩)]

theorem writerStart_dflt {s : State} (free : s.WriterFree) {c : Content} (waits : s.writeReady .site = false)
    (content : (s.record .dflt).pendingContent = some c) (retry : (s.record .dflt).retry = none) :
    s.writerStart = s.startWrite .dflt := by
  rw [State.writerStart, if_pos ⟨free.running, free.idle, free.supply⟩, waits, if_neg Bool.false_ne_true,
    if_pos ((writeReady_iff ..).mpr ⟨c, content, retry⟩)]

theorem writerStart_rest {s : State} (waits : s.WriterFree → ∀ r, s.writeReady r = false) : s.writerStart = s := by
  unfold State.writerStart
  split
  · next free =>
    obtain ⟨running, idle, supply⟩ := free
    rw [waits ⟨running, idle, supply⟩, waits ⟨running, idle, supply⟩, if_neg Bool.false_ne_true, if_neg Bool.false_ne_true]
  · rfl

theorem startWrite_some {s : State} {r : RecordName} {c : Content} (content : (s.record r).pendingContent = some c) :
    s.startWrite r =
      let v := s.setRecord r { s.record r with pendingContent := none, status := .invalid, image := erasedImage r }
      { v with store := { v.store with
                          inFlight := some { record := r, content := c, retryUsed := (s.record r).retryUsed } } } := by
  rw [State.startWrite, content]

theorem failedOnce_eq (x : StoredRecord) (c : Content) (retry : Timer) :
    x.failedOnce c retry = { x with
      status := .invalid, failures := min (x.failures + 1) 65535, retry := retry
      retryUsed := x.pendingContent.isNone, pendingContent := x.pendingContent <|> some c } := rfl

/-- Settles O57: the request, the three starts, the rows of a completion and the retry. -/
theorem writerFollowsTables : Obligations.WriterFollowsTables := by
  refine ⟨fun s => rfl, fun s => ?_, fun s w flight => ?_, fun s r d retry => ?_⟩
  · intro ready starts
    have free {r : RecordName} {c : Content} (h : ready r c) : s.WriterFree :=
      let ⟨running, idle, supply, _, _⟩ := h
      ⟨running, idle, supply⟩
    refine ⟨fun c h => ?_, fun c not h => ?_, fun not => writerStart_rest fun free r => ?_⟩
    · obtain ⟨-, -, -, content, retry⟩ := id h
      rw [writerStart_site (free h) content retry, startWrite_some content]
    · obtain ⟨running, idle, supply, content, retry⟩ := id h
      rw [writerStart_dflt (free h) ?_ content retry, startWrite_some content]
      rw [← Bool.not_eq_true, writeReady_iff]
      rintro ⟨c', content', retry'⟩
      exact not c' ⟨running, idle, supply, content', retry'⟩
    · rw [← Bool.not_eq_true, writeReady_iff]
      rintro ⟨c, content, retry⟩
      exact not r c ⟨free.running, free.idle, free.supply, content, retry⟩
  · intro u x
    have same : u.record w.record = x := rfl
    have done (success : Bool) :
        exec (.storeWriteCompletion success) s = .next (u.completeWrite w success).writerStart := by
      change execStoreWriteCompletion success s = _
      simp only [execStoreWriteCompletion, flight, u]
    refine ⟨(done true).trans rfl, fun used => ?_, fun used none => ?_, fun used pending => ?_⟩
    · rw [done, State.completeWrite, used]
      rfl
    · rw [done, State.completeWrite, used, same]
      simp only [Bool.false_eq_true, if_false, failedOnce_eq, none]
      rfl
    · obtain ⟨c, content⟩ := Option.isSome_iff_exists.mp pending
      rw [done, State.completeWrite, used, same]
      simp only [Bool.false_eq_true, if_false, failedOnce_eq, content]
      rw [show x = { x with pendingContent := some c } by rw [← content]]
      rfl
  · have same : (s.advanceTo d).record r = s.record r := by rw [State.record, (advanceTo_frame s d).store]; rfl
    change execStoreRetryExpiry r s = _
    simp only [execStoreRetryExpiry, retry, same]

end Writer

end Sys2Proof.Machine
end

section
/-! PROOFS. The reference expiries (O40); the counter's queue (O43), MEASURE (O26) and the timeout (O46). -/

namespace Sys2Proof.Machine

/-! ## The reference state (O40) -/

section Reference

theorem setReference_told (s : State) (st : RefState) (p : Port) : (s.setReference st).told p .referenceChanged := by
  unfold State.setReference
  dsimp only
  have told := notifyBoth_told { s with ref := s.enterReference st } .referenceChanged p
  have spoiled (u : State) : Tells u (if st = .absent then u.spoilMeasurement else u) := by
    split
    · exact (spoilMeasurement_frame u).tells
    · exact .refl u
  have started (u : State) : Tells u (if (s.ref.state == .absent) = true then u.startMeasurement else u) := by
    split
    · exact (startMeasurement_frame u).tells
    · exact .refl u
  exact (started _).told _ _ ((setDevice_tells ..).told _ _ ((spoiled _).told _ _ told))

theorem setReference_device (s : State) (st : RefState) :
    (s.setReference st).pu.device = s.pu.device.ofReference st := by
  unfold State.setReference
  dsimp only
  have started (u : State) :
      (if (s.ref.state == .absent) = true then u.startMeasurement else u).pu.device = u.pu.device := by
    split
    · exact startMeasurement_device u
    · rfl
  rw [started, setDevice_device]
  have same (u : State) : (if st = .absent then u.spoilMeasurement else u).pu = u.pu := by
    split <;> rfl
  rw [same, notifyBoth_eq]

theorem TimeFrame.limits {s t : State} (h : TimeFrame s t) : t.limits = s.limits := by
  rw [State.limits, h.pe]
  rfl

/-- The Reference Monitor after an expiry at `d` that enters `st`, with the time base moved up to it. -/
theorem setReference_advanced (s : State) (d : Nat) (st : RefState) :
    let t := (s.advanceTo d).setReference st
    RefFrame (s.advanceTo d) t ∧ t.time.steps = max s.time.steps d ∧ t.ref.state = st ∧
      t.ref.qualify = (if st = .qualifying then some (t.time.steps + 100 * s.limits.qualifyTime) else none) ∧
      t.ref.holdover = (if st = .holdover ∧ 0 < s.limits.holdoverAllowance
        then some (t.time.steps + 6000 * s.limits.holdoverAllowance) else none) ∧
      (∀ q, t.told q .referenceChanged) ∧ t.pu.device = s.pu.device.ofReference st := by
  intro t
  have moved := advanceTo_frame s d
  obtain ⟨frame, ref⟩ := setReference_frame (s.advanceTo d) st
  have steps : t.time.steps = (s.advanceTo d).time.steps := congrArg TimeBase.steps frame.time
  refine ⟨frame, steps.trans (advanceTo_steps s d), ?_, ?_, ?_, setReference_told _ st, ?_⟩
  · rw [ref]; rfl
  · rw [ref, State.enterReference, moved.limits, steps]; rfl
  · rw [ref, State.enterReference, moved.limits, steps]; rfl
  · rw [setReference_device, moved.pu]

/-- Settles O40: each expiry enters its state through `setReference`. -/
theorem referenceTimersExpire : Obligations.ReferenceTimersExpire := by
  refine fun s d => ⟨fun timer => ?_, fun timer => ?_⟩
  · have next : exec .qualifyExpiry s = .next ((s.advanceTo d).setReference (s.advanceTo d).ref.qualified) := by
      change execQualifyExpiry s = _
      simp only [execQualifyExpiry, timer]
    rw [RefMonitor.qualified, (advanceTo_frame s d).ref] at next
    cases disciplined : s.ref.disciplined with
    | true =>
      rw [disciplined, if_pos rfl] at next
      obtain ⟨frame, steps, state, qualify, holdover, told, device⟩ := setReference_advanced s d .locked
      exact ⟨_, next, frame, steps, state, qualify, holdover.trans rfl, told, device⟩
    | false =>
      rw [disciplined, if_neg Bool.false_ne_true] at next
      obtain ⟨frame, steps, state, qualify, holdover, told, device⟩ := setReference_advanced s d .holdover
      exact ⟨_, next, frame, steps, state, qualify, by simpa using holdover, told, device⟩
  · have next : exec .holdoverExpiry s = .next ((s.advanceTo d).setReference .expired) := by
      change execHoldoverExpiry s = _
      simp only [execHoldoverExpiry, timer]
    obtain ⟨frame, steps, state, qualify, holdover, told, device⟩ := setReference_advanced s d .expired
    exact ⟨_, next, frame, steps, state, qualify, holdover, told, device⟩

end Reference

/-! ## The counter's queue and the timers of the controllers (O43) -/

section CounterStarts

theorem joinQueue_queued {s : State} {c : Chain} (queued : ∃ q ∈ s.fc.queue, q.syn = c) (audit : Bool) :
    s.joinQueue c audit = s := by
  obtain ⟨q, mem, syn⟩ := queued
  exact if_pos (List.any_eq_true.mpr ⟨q, mem, decide_eq_true syn⟩)

/-- The state in which a synthesizer stands at the tail of the queue (R85). -/
def State.queued (s : State) (c : Chain) (audit : Bool) : State :=
  { s with fc := { s.fc with queue := s.fc.queue ++ [{ syn := c, audit := audit }] } }

theorem joinQueue_new {s : State} {c : Chain} (new : ∀ q ∈ s.fc.queue, q.syn ≠ c) (audit : Bool) :
    s.joinQueue c audit = s.queued c audit := by
  refine if_neg fun any => ?_
  obtain ⟨q, mem, syn⟩ := List.any_eq_true.mp any
  exact new q mem (of_decide_eq_true syn)

theorem startMeasurement_rest {s : State}
    (rest : s.fc.current.isSome = true ∨ s.ref.state = .absent ∨ s.fc.queue = []) : s.startMeasurement = s := by
  unfold State.startMeasurement
  split
  · rfl
  · next free =>
    rw [rest.resolve_left (not_or.mp free).1 |>.resolve_left (not_or.mp free).2]

theorem ceilDiv_eq (n : Nat) {d e : Nat} (pred : d = e + 1) : ceilDiv n d = (n + e) / d := by
  rw [ceilDiv, pred, ← Nat.add_assoc, Nat.add_sub_cancel]

/-- The measurement of R86, with the quantities of chapter 2 written out. -/
theorem measurementOf_eq (s : State) (q : QueueEntry) : s.measurementOf q =
    let g := s.limits.gateExponent
    let e := (s.synth q.syn).wanted.getD 0 / 1000 * 2 ^ g / 64
    { number := s.fc.started + 1, startedAt := 10 * s.time.steps, syn := q.syn, audit := q.audit
      spoiled := false, expected := e
      tolerance := (e * s.limits.countTolerance + 999999) / 1000000 + 2, gateExponent := g
      timeout := s.time.backup + (2 ^ g + 59) / 10 } := by
  rw [State.measurementOf, countTolerance, ceilDiv_eq _ (e := 999999) rfl, ceilDiv_eq _ (e := 9) rfl]
  rfl

/-- The state in which the head of the queue has left it and is measured (R86). -/
def State.measuring (s : State) (q : QueueEntry) (rest : List QueueEntry) : State :=
  { s with fc := { s.fc with started := s.fc.started + 1, queue := rest, current := some (s.measurementOf q) } }

theorem startMeasurement_head {s : State} {q : QueueEntry} {rest : List QueueEntry} (free : s.fc.current = none)
    (present : s.ref.state ≠ .absent) (head : s.fc.queue = q :: rest) : s.startMeasurement =
      if q.audit = true then s.measuring q rest
      else (s.measuring q rest).setSynth q.syn { s.synth q.syn with state := .measuring } := by
  have idle : ¬(s.fc.current.isSome = true ∨ s.ref.state = .absent) := by
    rw [free]
    exact fun h => h.elim nofun present
  simp only [State.startMeasurement, if_neg idle, head]
  rfl

theorem setSynth_setSynth (s : State) (c : Chain) (x y : SynContext) : (s.setSynth c x).setSynth c y = s.setSynth c y := by
  rcases c with (_ | _) | (_ | _ | _ | _) <;> rfl

/-- A withdrawal leaves the controllers, the counter and the lanes, and states the conditions anew. -/
theorem withdrawSynth_same (s : State) (c : Chain) : { s.withdrawSynth c with pu := s.pu } = s := by
  unfold State.withdrawSynth
  split
  · rfl
  · dsimp only
    split <;> rfl

theorem withdrawSynth_synth (s : State) (c d : Chain) : (s.withdrawSynth c).synth d = s.synth d := by
  unfold State.withdrawSynth
  split
  · rfl
  · dsimp only
    split <;> rfl

theorem withdrawSynth_lanes (s : State) (c : Chain) : (s.withdrawSynth c).lanes = s.lanes := by
  unfold State.withdrawSynth
  split
  · rfl
  · dsimp only
    split <;> rfl

theorem withdrawSynth_fc (s : State) (c : Chain) : (s.withdrawSynth c).fc = s.fc := by
  unfold State.withdrawSynth
  split
  · rfl
  · dsimp only
    split <;> rfl

/-- The conditions of a chain after a withdrawal are those of its synthesizer as it stands (R83). -/
theorem withdrawSynth_present (s : State) (x : Tx) :
    ((s.withdrawSynth (.tx x)).protection x).present
      = (s.synth (.tx x)).conditions (s.protection x).present := by
  unfold State.withdrawSynth
  dsimp only
  split
  · next same => exact same.symm
  · rw [decideProtection_present, State.protection_setProtection_same]

/-- A programming started anew from a context (R76). -/
def SynContext.programming (x : SynContext) : SynContext :=
  { x with state := .programming, attempts := x.attempts + 1
           transfer := .programming (dividerWords (x.wanted.getD 0)), output := .disabled }

theorem startProgramming_eq (s : State) (c : Chain) : s.startProgramming c = s.setSynth c (s.synth c).programming := rfl

/-- A fresh cycle: one programming, and the conditions withdrawn (R79). -/
theorem freshCycle_eq (s : State) (c : Chain) : s.freshCycle c =
    (s.setSynth c { s.synth c with
      retry := none, attempts := 1, state := .programming
      transfer := .programming (dividerWords ((s.synth c).wanted.getD 0)), output := .disabled }).withdrawSynth c := by
  rw [State.freshCycle, startProgramming_eq, setSynth_setSynth, State.synth_setSynth_same]
  rfl

theorem startAudit_eq (s : State) (c : Chain) : s.startAudit c =
    ((s.setSynth c { s.synth c with audit := none, auditing := true }).joinQueue c true).startMeasurement := rfl

theorem TimeFrame.measurementOf {s t : State} (h : TimeFrame s t) (q : QueueEntry) (backup : t.time.backup = s.time.backup) :
    t.measurementOf q = { s.measurementOf q with startedAt := 10 * t.time.steps } := by
  rw [State.measurementOf, State.measurementOf, h.limits, h.fc, h.synth_eq, backup]

/-- A synthesizer `c` whose context has become `x` joins the queue (`v`), and a measurement starts: it waits behind a
measurement in flight and in ABSENT, and is measured at once where nothing waits. -/
theorem joined_waits {s : State} {c : Chain} (x : SynContext) (audit : Bool) (new : ∀ q ∈ s.fc.queue, q.syn ≠ c)
    (waits : s.fc.current.isSome = true ∨ s.ref.state = .absent) :
    ((s.setSynth c x).joinQueue c audit).startMeasurement = (s.setSynth c x).queued c audit := by
  rw [joinQueue_new (s := s.setSynth c x) new audit]
  exact startMeasurement_rest (waits.imp_right .inl)

theorem joined_measured {s : State} {c : Chain} (x : SynContext) (audit : Bool) (free : s.fc.current = none)
    (present : s.ref.state ≠ .absent) (empty : s.fc.queue = []) :
    let v := (s.setSynth c x).measuring ⟨c, audit⟩ []
    ((s.setSynth c x).joinQueue c audit).startMeasurement =
      if audit = true then v else v.setSynth c { x with state := .measuring } := by
  intro v
  have new : ∀ q ∈ (s.setSynth c x).fc.queue, q.syn ≠ c := by
    change ∀ q ∈ s.fc.queue, _
    rw [empty]
    nofun
  have head : ((s.setSynth c x).queued c audit).fc.queue = [⟨c, audit⟩] := by
    change s.fc.queue ++ _ = _
    rw [empty, List.nil_append]
  have own : ((s.setSynth c x).queued c audit).synth c = x := State.synth_setSynth_same ..
  rw [joinQueue_new new, startMeasurement_head (s := (s.setSynth c x).queued c audit) free present head,
    own]
  rfl

/-- What the measurement of a synthesizer that did not have to wait makes of its context and of the counter. -/
theorem joined_measured_fc {s : State} {c : Chain} (x : SynContext) (audit : Bool) (free : s.fc.current = none)
    (present : s.ref.state ≠ .absent) (empty : s.fc.queue = []) :
    let t := ((s.setSynth c x).joinQueue c audit).startMeasurement
    let g := s.limits.gateExponent
    let e := x.wanted.getD 0 / 1000 * 2 ^ g / 64
    let m : Measurement :=
      { number := s.fc.started + 1, startedAt := 10 * s.time.steps, syn := c, audit := audit
        spoiled := false, expected := e
        tolerance := (e * s.limits.countTolerance + 999999) / 1000000 + 2, gateExponent := g
        timeout := s.time.backup + (2 ^ g + 59) / 10 }
    t.synth c = (if audit = true then x else { x with state := .measuring }) ∧
      t.fc = { s.fc with started := s.fc.started + 1, current := some m } := by
  intro t g e m
  have own : (s.setSynth c x).synth c = x := State.synth_setSynth_same ..
  have fc : ((s.setSynth c x).measuring ⟨c, audit⟩ []).fc =
      { s.fc with started := s.fc.started + 1, current := some m } := by
    rw [State.measuring, measurementOf_eq, own, ← empty]
    rfl
  have eq : t = _ := joined_measured x audit free present empty
  rw [eq]
  cases audit with
  | true => exact ⟨own, fc⟩
  | false => exact ⟨State.synth_setSynth_same .., fc⟩

theorem joinQueue_same (s : State) (c : Chain) (audit : Bool) :
    (s.joinQueue c audit).pu = s.pu ∧ (s.joinQueue c audit).lanes = s.lanes ∧
      ∀ d, (s.joinQueue c audit).synth d = s.synth d := by
  unfold State.joinQueue
  split
  · exact ⟨rfl, rfl, fun _ => rfl⟩
  · exact ⟨rfl, rfl, fun _ => rfl⟩

theorem startMeasurement_lanes (s : State) : s.startMeasurement.lanes = s.lanes := by
  rcases startMeasurement_cases s with same | ⟨q, rest, -, -, -, eq⟩
  · rw [same]
  · dsimp only at eq
    rw [eq]
    split <;> rfl

/-- Of the controllers and the lanes, joining the queue changes at most the state of a head that is measured. -/
theorem joined_same (s : State) (c : Chain) (x : SynContext) (audit : Bool) :
    let t := ((s.setSynth c x).joinQueue c audit).startMeasurement
    t.pu = s.pu ∧ t.lanes = s.lanes ∧ (t.synth c = x ∨ t.synth c = { x with state := .measuring }) := by
  intro t
  obtain ⟨pu, lanes, synth⟩ := joinQueue_same (s.setSynth c x) c audit
  refine ⟨(startMeasurement_pu _).trans pu, (startMeasurement_lanes _).trans lanes, ?_⟩
  have own : ((s.setSynth c x).joinQueue c audit).synth c = x := (synth c).trans (State.synth_setSynth_same ..)
  rcases startMeasurement_synth ((s.setSynth c x).joinQueue c audit) c with same | ⟨-, same⟩
  · exact .inl (same.trans own)
  · rw [own] at same
    exact .inr same

/-- Settles O43: the queue's two operations, then the retry and the audit. -/
theorem retryAndAuditStart : Obligations.RetryAndAuditStart := by
  refine ⟨fun s c audit => ⟨fun queued => joinQueue_queued queued audit, fun new => joinQueue_new new audit⟩,
    fun s => ⟨startMeasurement_rest, fun q rest free present head => ?_⟩,
    fun s c d => ⟨fun retry => ?_, fun timer => ?_⟩⟩
  · intro g e m v
    rw [startMeasurement_head free present head, State.measuring, measurementOf_eq]
  · have moved := advanceTo_frame s d
    have same := moved.synth_eq c
    refine ⟨(s.advanceTo d).freshCycle c, ?_, freshCycle_frame .., ?_, ?_, ?_, ?_⟩
    · change execRetryExpiry c s = _
      simp only [execRetryExpiry, retry]
    · rw [freshCycle_eq, withdrawSynth_fc]
      exact moved.fc
    · rw [freshCycle_eq, withdrawSynth_lanes]
      exact moved.lanes
    · rw [freshCycle_eq, withdrawSynth_synth, State.synth_setSynth_same, same]
    · rintro y rfl
      rw [freshCycle_eq, withdrawSynth_present, State.synth_setSynth_same, same, SynContext.conditions_eq]
      have present (z : SynContext) :
          (((s.advanceTo d).setSynth (.tx y) z).protection y).present = (s.protection y).present :=
        congrArg ChainProtection.present (moved.untouched.protection_eq y)
      rw [present]
      rfl
  · have moved := advanceTo_frame s d
    have same := moved.synth_eq c
    have next : exec (.auditExpiry c) s = .next ((s.advanceTo d).startAudit c) := by
      change execAuditExpiry c s = _
      simp only [execAuditExpiry, timer]
    have frame := startAudit_frame (s.advanceTo d) c
    rw [startAudit_eq, same] at next frame
    generalize made : ({ s.synth c with audit := none, auditing := true } : SynContext) = x at next frame
    obtain ⟨pu, lanes, own⟩ := joined_same (s.advanceTo d) c x true
    refine ⟨_, next, frame, pu.trans moved.pu, lanes.trans moved.lanes, ?_, ?_, fun new waits => ?_,
      fun free present empty => ?_⟩
    · rcases own with own | own <;> rw [own, ← made]
    · rcases own with own | own <;> rw [own, ← made]
    · rw [joined_waits x true (moved.fc ▸ new) (moved.fc ▸ moved.ref ▸ waits)]
      exact ⟨congrArg (fun f : Counter => { f with queue := f.queue ++ [({ syn := c, audit := true } : QueueEntry)] }) moved.fc,
        State.synth_setSynth_same ..⟩
    · intro g e m
      obtain ⟨synth, fc⟩ := joined_measured_fc x true (moved.fc ▸ free) (moved.ref ▸ present) (moved.fc ▸ empty)
      have wanted : x.wanted = (s.synth c).wanted := by rw [← made]
      rw [moved.fc, moved.limits, advanceTo_backup d present, wanted, ← congrArg TimeBase.steps frame.time] at fc
      exact ⟨synth.trans (if_pos rfl), fc⟩

end CounterStarts

/-! ## MEASURE (O26) -/

section Measure

theorem chainOfCode_chainCode (c : Chain) : chainOfCode (byteAt (byte (chainCode c)) 0) = some c := by
  rcases c with (_ | _) | (_ | _ | _ | _) <;> rfl

theorem chainOfCode_eq_none {n : Nat} (h : 5 < n) : chainOfCode n = none :=
  match n, h with
  | _ + 6, _ => rfl

theorem serve_measure (p : Port) (c : Chain) (s : State) :
    serve .measure p (byte (chainCode c)) s = s.measure c := by
  change serveMeasure _ s = _
  rw [serveMeasure, chainOfCode_chainCode]

theorem serve_measure_invalid (p : Port) {b : Byte} (h : 5 < b.toNat) (s : State) :
    serve .measure p [b] s = (s, .invalid 1) := by
  change serveMeasure _ s = _
  rw [serveMeasure, show byteAt [b] 0 = b.toNat from rfl, chainOfCode_eq_none h]

theorem measure_verified {s : State} {c : Chain} (state : (s.synth c).state = .verified) :
    s.measure c = (if (s.synth c).auditing then s else s.startAudit c, .ok []) := by
  simp only [State.measure, state]

theorem measure_failed {s : State} {c : Chain} (state : (s.synth c).state = .failed) :
    s.measure c = (s.freshCycle c, .ok []) := by
  simp only [State.measure, state]

theorem measure_refused {s : State} {c : Chain} (verified : (s.synth c).state ≠ .verified)
    (failed : (s.synth c).state ≠ .failed) : s.measure c = (s, .refused .notAvailable) := by
  unfold State.measure
  dsimp only
  split
  · next state => exact absurd state verified
  · next state => exact absurd state failed
  all_goals rfl

/-- Settles O26: the reply of each state of the synthesizer. -/
theorem measureServed : Obligations.MeasureServed := by
  intro s p tag fill running u
  have asks {payload : List Byte} {t : State} {status : Status} {reply : List Byte} (fits : payload.length = 1)
      (served : serve .measure p payload u = (t, ⟨status, reply⟩)) :
      exec (.measure p tag ⟨payload, fill⟩) s = .next (t.answered p 0x0E tag status reply) :=
    exec_of_serve (k := .measure) tag running nofun nofun fits (by rw [fits]; exact served)
  refine ⟨fun b invalid => asks rfl (serve_measure_invalid p invalid u), fun c => ?_⟩
  intro x asked
  have serves {t : State} {status : Status} {reply : List Byte} (eq : u.measure c = (t, ⟨status, reply⟩)) :
      asked = .next (t.answered p 0x0E tag status reply) := asks rfl ((serve_measure p c u).trans eq)
  refine ⟨fun state idle => serves ?_, fun state auditing => serves ?_, fun state => ?_,
    fun verified failed => serves (measure_refused verified failed)⟩
  · rw [measure_verified state, if_neg (by rw [show (u.synth c).auditing = false from idle]; exact Bool.false_ne_true)]
    rfl
  · rw [measure_verified state, if_pos auditing]
    rfl
  · intro v
    have fresh : u.freshCycle c = v.withdrawSynth c := freshCycle_eq u c
    refine ⟨serves ((measure_failed state).trans (by rw [fresh]; rfl)), ?_, ?_⟩
    · rintro r rfl
      rfl
    · rintro y rfl
      refine ⟨withdrawSynth_same v (.tx y), ?_⟩
      rw [withdrawSynth_present, State.synth_setSynth_same, SynContext.conditions_eq]
      rfl

end Measure

/-! ## The timeout (O46) -/

section Timeout

theorem startMeasurement_synth_of_absent {s : State} {c : Chain} (absent : ∀ q ∈ s.fc.queue, q.syn ≠ c) :
    s.startMeasurement.synth c = s.synth c := by
  rcases startMeasurement_cases s with same | ⟨q, rest, -, queue, -, eq⟩
  · rw [same]
  · have other : q.syn ≠ c := absent q (queue ▸ List.mem_cons_self)
    rw [eq]
    split
    · rfl
    · rw [State.synth_setSynth, if_neg other.symm]
      rfl

/-- A synthesizer that joins behind others waits at the tail. -/
theorem joined_behind {s : State} {c : Chain} (x : SynContext) (audit : Bool) (new : ∀ q ∈ s.fc.queue, q.syn ≠ c)
    (behind : s.fc.queue ≠ []) :
    let t := ((s.setSynth c x).joinQueue c audit).startMeasurement
    t.synth c = x ∧ t.fc.queue.getLast? = some { syn := c, audit := audit } := by
  intro t
  have own : ((s.setSynth c x).queued c audit).synth c = x := State.synth_setSynth_same ..
  have eq : t = ((s.setSynth c x).queued c audit).startMeasurement := by
    rw [← joinQueue_new (s := s.setSynth c x) new audit]
  obtain ⟨q, rest, queue⟩ := List.exists_cons_of_ne_nil behind
  have tail : ((s.setSynth c x).queued c audit).fc.queue = q :: (rest ++ [⟨c, audit⟩]) := by
    change s.fc.queue ++ _ = _
    rw [queue, List.cons_append]
  rw [eq]
  rcases startMeasurement_cases ((s.setSynth c x).queued c audit) with same | ⟨q', rest', -, queue', -, measured⟩
  · rw [same, tail]
    refine ⟨own, ?_⟩
    rw [← List.cons_append, List.getLast?_append]
    rfl
  · rw [tail, List.cons.injEq] at queue'
    obtain ⟨rfl, rfl⟩ := queue'
    have other : c ≠ q.syn := (new q (queue ▸ List.mem_cons_self)).symm
    rw [measured]
    dsimp only
    split
    · refine ⟨own, ?_⟩
      rw [List.getLast?_append]
      rfl
    · refine ⟨(State.synth_setSynth ..).trans ((if_neg other).trans own), ?_⟩
      change (rest ++ [_]).getLast? = _
      rw [List.getLast?_append]
      rfl

theorem advanceBackup_backup (s : State) (d : Nat) : (s.advanceBackup d).time.backup = max s.time.backup d := by
  unfold State.advanceBackup
  split
  · next absent =>
    rw [advanceTo_backup_absent _ absent]
    omega
  · change s.time.backup + (d - s.time.backup) = _
    omega

theorem dateMeasurement_same (s : State) (now : Nat) :
    (∀ d, (s.dateMeasurement now).synth d = s.synth d) ∧ (s.dateMeasurement now).pu = s.pu ∧
      (s.dateMeasurement now).lanes = s.lanes ∧ (s.dateMeasurement now).fc.queue = s.fc.queue ∧
      (s.dateMeasurement now).fc.last = s.fc.last ∧
      (s.fc.current = none → (s.dateMeasurement now).fc.current = none) :=
  ⟨fun _ => rfl, rfl, rfl, rfl, rfl, fun idle => by rw [State.dateMeasurement, idle]; rfl⟩

theorem startMeasurement_last (s : State) : s.startMeasurement.fc.last = s.fc.last := by
  rcases startMeasurement_cases s with same | ⟨q, rest, -, -, -, eq⟩
  · rw [same]
  · rw [eq]
    dsimp only
    split <;> rfl

theorem joinQueue_last (s : State) (c : Chain) (audit : Bool) : (s.joinQueue c audit).fc.last = s.fc.last := by
  unfold State.joinQueue
  split <;> rfl

/-- A context that asks for a measurement again after an unordered one (R80). -/
def SynContext.askingAgain (x : SynContext) : SynContext :=
  { x with lastVerdict := some .unordered, lastCount := none, state := .queued }

/-- An unordered verdict of a measurement that is not an audit sends the synthesizer back to the queue (R80). -/
theorem takeVerdict_unordered (s : State) (c : Chain) :
    s.takeVerdict c .unordered none = (s.setSynth c (s.synth c).askingAgain).joinQueue c false := by
  simp only [State.takeVerdict, setSynth_setSynth, State.synth_setSynth_same]
  rfl

/-- An unordered audit is discarded, and the audit timer restarts (R81). -/
theorem takeAudit_unordered (s : State) (c : Chain) (now : Nat) : s.takeAudit c .unordered none now =
    s.setSynth c { s.synth c with
      auditing := false
      audit := if 0 < s.limits.auditInterval then some (s.time.steps + 100 * s.limits.auditInterval) else none } := by
  simp only [State.takeAudit, State.restartAudit, setSynth_setSynth, State.synth_setSynth_same]
  rfl

/-- Settles O46: the counter is freed, the verdict UNORDERED taken, and the next measurement started. -/
theorem timeoutUnordered : Obligations.TimeoutUnordered := by
  intro s m sound current x
  have moved := advanceBackup_frame s m.timeout
  obtain ⟨measured, others⟩ := sound.measured m current
  let u := (s.advanceBackup m.timeout).counterFreed m .unordered none
  have own : u.synth m.syn = x := moved.synth_eq m.syn
  have queue : u.fc.queue = s.fc.queue := (congrArg Counter.queue moved.fc :)
  have new : ∀ q ∈ u.fc.queue, q.syn ≠ m.syn := queue ▸ others
  have limits : u.limits = s.limits := moved.limits
  let now := 10 * (s.advanceBackup m.timeout).time.steps
  let v := if m.audit then u.takeAudit m.syn .unordered none now else u.takeVerdict m.syn .unordered none
  have next : exec .measurementTimeout s = .next (v.startMeasurement.dateMeasurement now) := by
    change execMeasurementTimeout s = _
    simp only [execMeasurementTimeout, current, endMeasurement_eq]
    rfl
  have audited (audit : m.audit = true) : v = u.setSynth m.syn { x with
      auditing := false
      audit := if 0 < s.limits.auditInterval then some (u.time.steps + 100 * s.limits.auditInterval) else none } := by
    simp only [v, audit, if_true, takeAudit_unordered, own, limits]
  have asked (audit : m.audit = false) : v = (u.setSynth m.syn x.askingAgain).joinQueue m.syn false := by
    simp only [v, audit, Bool.false_eq_true, if_false, takeVerdict_unordered, own]
  have frame : SynthFrame u v ∧ v.pu = u.pu ∧ v.lanes = u.lanes ∧ v.fc.last = u.fc.last := by
    cases audit : m.audit with
    | true =>
      rw [audited audit]
      exact ⟨setSynth_frame .., rfl, rfl, rfl⟩
    | false =>
      rw [asked audit]
      obtain ⟨pu, lanes, -⟩ := joinQueue_same (u.setSynth m.syn x.askingAgain) m.syn false
      exact ⟨(setSynth_frame ..).trans (joinQueue_frame ..), pu, lanes, joinQueue_last ..⟩
  obtain ⟨framed, pu, lanes, last⟩ := frame
  have all := (framed.trans (startMeasurement_frame v)).trans (dateMeasurement_frame _ now)
  refine ⟨_, next, ?_, (startMeasurement_pu v).trans (pu.trans moved.pu), all.os.trans moved.os,
    (startMeasurement_lanes v).trans (lanes.trans moved.lanes), all.ref.trans moved.ref, all.pe.trans moved.pe,
    all.inputs.trans moved.inputs, all.store.trans moved.store, all.supply.trans moved.supply,
    all.ports.trans moved.ports, all.pending.trans moved.pending, (startMeasurement_last v).trans last,
    fun audit behind => ?_, fun audit empty present => ?_, fun audit empty absent => ?_, fun audit => ?_⟩
  · rw [all.time]
    exact advanceBackup_backup s m.timeout
  · rw [asked audit]
    exact joined_behind x.askingAgain false new (queue ▸ behind)
  · obtain ⟨synth, fc⟩ := joined_measured_fc x.askingAgain false (s := u) (c := m.syn) rfl (moved.ref ▸ present)
      (queue.trans empty)
    rw [asked audit]
    exact ⟨synth, (congrArg Counter.queue fc).trans (queue.trans empty)⟩
  · rw [asked audit, joined_waits x.askingAgain false new (.inr ((congrArg RefMonitor.state moved.ref).trans absent))]
    refine ⟨State.synth_setSynth_same .., ?_, rfl⟩
    change u.fc.queue ++ _ = _
    rw [queue, empty]
    rfl
  · have away : ∀ q ∈ v.fc.queue, q.syn ≠ m.syn := by
      rw [audited audit]
      exact new
    have time : u.time = (v.startMeasurement.dateMeasurement now).time := all.time.symm
    rw [← time]
    refine (startMeasurement_synth_of_absent away).trans ?_
    rw [audited audit, State.synth_setSynth_same]

end Timeout

end Sys2Proof.Machine
end

section
/-! PROOFS. Writes of lanes one by one, and the end of what runs on a control line (O41). -/

namespace Sys2Proof.Machine

/-! ## Writes of lanes, one by one and in turn -/

section LaneWrites

theorem setLane_self (s : State) (n : Slot) : s.setLane n (s.lane n) = s := by
  have same : s.lanes.put n (s.lanes.get n) = s.lanes := Vector.set_getElem_self ..
  exact (congrArg (fun v => { s with lanes := v }) same :)

/-- A write of every lane of a list, each from what no write of another lane changes. -/
theorem foldl_setLane {g : State → Slot → Lane}
    (apart : ∀ (s : State) (m n : Slot) (x : Lane), n ≠ m → g (s.setLane m x) n = g s n) {l : List Slot}
    (nodup : l.Nodup) (s : State) (n : Slot) :
    (l.foldl (fun s n => s.setLane n (g s n)) s).lane n = if n ∈ l then g s n else s.lane n := by
  induction l generalizing s with
  | nil => rw [if_neg List.not_mem_nil]; rfl
  | cons m l ih =>
    obtain ⟨fresh, nodup⟩ := List.nodup_cons.mp nodup
    rw [List.foldl_cons, ih nodup]
    by_cases same : n = m
    · subst same
      rw [if_neg fresh, if_pos List.mem_cons_self, State.lane_setLane_same]
    · rw [apart _ _ _ _ same, State.lane_setLane, if_neg same]
      simp only [List.mem_cons, same, false_or]

/-- The words of a lane taken again against chain `c` (R97). -/
def State.refreshed (s : State) (c : Chain) (n : Slot) : Lane := (s.refreshLane c n).lane n

theorem refreshLane_eq (s : State) (c : Chain) (n : Slot) : s.refreshLane c n = s.setLane n (s.refreshed c n) := by
  unfold State.refreshed State.refreshLane
  split
  · exact (setLane_self s n).symm
  · dsimp only
    rw [State.lane_setLane_same]

theorem refreshed_absent {s : State} {n : Slot} (c : Chain) (slot : (s.lane n).slot = none) :
    s.refreshed c n = s.lane n := by
  simp only [State.refreshed, State.refreshLane, slot]

theorem refreshed_present {s : State} {n : Slot} {e : SlotEntry} (c : Chain) (slot : (s.lane n).slot = some e) :
    s.refreshed c n = { s.lane n with
      primaryWord :=
        if .rx e.inputChain = c then s.wordFor c e.inputFrequency (s.lane n).primaryWord else (s.lane n).primaryWord
      fallbackWord :=
        match e.fallback with
        | none => (s.lane n).fallbackWord
        | some fb =>
          if .rx fb.chain = c then s.wordFor c fb.frequency (s.lane n).fallbackWord else (s.lane n).fallbackWord
      transmitWord :=
        if .tx e.outputChain = c then s.wordFor c e.outputFrequency (s.lane n).transmitWord
        else (s.lane n).transmitWord } := by
  simp only [State.refreshed, State.refreshLane, slot, State.lane_setLane_same] <;> rfl

theorem refreshWords_lane (s : State) (c : Chain) (n : Slot) : (s.refreshWords c).lane n = s.refreshed c n := by
  have step : (fun (s : State) n => s.refreshLane c n) = fun s n => s.setLane n (s.refreshed c n) :=
    funext₂ fun s n => refreshLane_eq s c n
  rw [State.refreshWords, step, foldl_setLane _ allSlots_nodup, if_pos (mem_allSlots n)]
  intro s m n x other
  have same : (s.setLane m x).lane n = s.lane n := (State.lane_setLane ..).trans (if_neg other)
  cases slot : (s.lane n).slot with
  | none => rw [refreshed_absent c slot, refreshed_absent c (same ▸ slot), same]
  | some e =>
    rw [refreshed_present c slot, refreshed_present c (same ▸ slot), same]
    rfl

end LaneWrites

/-! ## The control line (O41) -/

section ControlLine

theorem wordFor_none {s : State} {c : Chain} (none : (s.synth c).programmed = none) (f : Nat) (old : Option Word) :
    s.wordFor c f old = .none := by
  simp only [State.wordFor, none]

theorem wordFor_some {s : State} {c : Chain} {w : DividerWords} (programmed : (s.synth c).programmed = some w) (f : Nat)
    (old : Option Word) : s.wordFor c f old =
      if (s.pe.active.lo c).map dividerWords = some w then some (ncoWord f w) else old := by
  simp only [State.wordFor, State.wordsCurrent, programmed, Option.isSome_some, Bool.true_and, beq_iff_eq]
  exact if_congr eq_comm rfl rfl

/-- The context once a programming of `w` has ended (R72, R76). -/
def SynContext.loaded (x : SynContext) (w : DividerWords) : SynContext :=
  { x with transfer := .none, output := .enabled, programmed := some w }

theorem endProgramming_same (s : State) (c : Chain) (w : DividerWords) :
    (s.endProgramming c w).pu = s.pu ∧ (s.endProgramming c w).fc = s.fc ∧ (s.endProgramming c w).pe = s.pe ∧
      (s.endProgramming c w).synth c = (s.synth c).loaded w := by
  refine ⟨?_, ?_, ?_, endProgramming_synth s c w⟩
  all_goals
    unfold State.endProgramming
    dsimp only
    split
    · rfl
  · exact (refreshWords_frame ..).1.pu
  · exact (refreshWords_frame ..).1.fc
  · exact (refreshWords_frame ..).1.pe

theorem endProgramming_lane {s : State} {c : Chain} {w : DividerWords} (changed : (s.synth c).programmed ≠ some w)
    (n : Slot) : (s.endProgramming c w).lane n = (s.setSynth c ((s.synth c).loaded w)).refreshed c n := by
  unfold State.endProgramming
  dsimp only
  rw [if_neg changed, refreshWords_lane]
  rfl

/-- A lane's words after a programming, or as they were where the words have not changed. -/
theorem endProgramming_lane_cases (s : State) (c : Chain) (w : DividerWords) (n : Slot) :
    (s.endProgramming c w).lane n = s.lane n ∨
      (s.endProgramming c w).lane n = (s.setSynth c ((s.synth c).loaded w)).refreshed c n := by
  by_cases same : (s.synth c).programmed = some w
  · refine .inl ?_
    unfold State.endProgramming
    dsimp only
    rw [if_pos same]
    rfl
  · exact .inr (endProgramming_lane same n)

theorem afterProgramming_settles {s : State} {c : Chain} (restart : (s.synth c).restartPending = false) :
    s.afterProgramming c =
      s.setSynth c { s.synth c with state := .settling, settle := s.afterMs s.limits.settle } := by
  rw [State.afterProgramming, if_neg (by rw [restart]; exact Bool.false_ne_true)]

theorem afterProgramming_restarts {s : State} {c : Chain} {l : Nat} (restart : (s.synth c).restartPending = true)
    (wanted : (s.synth c).wanted = some l) : s.afterProgramming c =
      s.setSynth c { s.synth c with
        restartPending := false, attempts := 1, state := .programming
        transfer := .programming (dividerWords l), output := .disabled } := by
  simp only [State.afterProgramming, restart, if_true, wanted, startProgramming_eq, setSynth_setSynth,
    State.synth_setSynth_same]
  rfl

theorem afterProgramming_idles {s : State} {c : Chain} (restart : (s.synth c).restartPending = true)
    (wanted : (s.synth c).wanted = none) : s.afterProgramming c = s.goIdle c := by
  simp only [State.afterProgramming, restart, if_true, wanted]

/-- A context in IDLE, its power-down sent (R75). -/
def SynContext.idled (x : SynContext) : SynContext :=
  { x with
    wanted := none, programmed := none, state := .idle, attempts := 0, lastVerdict := none, lastCount := none
    lost := false, restartPending := false, transfer := .powerDown }

theorem goIdle_eq (s : State) (c : Chain) :
    s.goIdle c = ((s.setSynth c (s.synth c).idled).refreshWords c).withdrawSynth c := rfl

theorem goIdle_synth (s : State) (c : Chain) : (s.goIdle c).synth c = (s.synth c).idled := by
  rw [goIdle_eq, withdrawSynth_synth, State.synth, (refreshWords_frame ..).1.syn]
  exact State.synth_setSynth_same ..

theorem goIdle_fc (s : State) (c : Chain) : (s.goIdle c).fc = s.fc := by
  rw [goIdle_eq, withdrawSynth_fc, (refreshWords_frame ..).1.fc]
  rfl

/-- The words that use an idle chain are none; the others stay. -/
theorem goIdle_lane {s : State} {n : Slot} {e : SlotEntry} (c : Chain) (slot : (s.lane n).slot = some e) :
    (s.goIdle c).lane n = { s.lane n with
      primaryWord := if .rx e.inputChain = c then none else (s.lane n).primaryWord
      fallbackWord :=
        match e.fallback with
        | none => (s.lane n).fallbackWord
        | some fb => if .rx fb.chain = c then none else (s.lane n).fallbackWord
      transmitWord := if .tx e.outputChain = c then none else (s.lane n).transmitWord } := by
  have none : ((s.setSynth c (s.synth c).idled).synth c).programmed = none := by
    rw [State.synth_setSynth_same]
    rfl
  rw [goIdle_eq, State.lane, withdrawSynth_lanes]
  refine (refreshWords_lane ..).trans ?_
  rw [refreshed_present c (s := s.setSynth c _) slot]
  simp only [wordFor_none none]
  rfl

theorem endProgramming_slot (s : State) (c : Chain) (w : DividerWords) (n : Slot) :
    ((s.endProgramming c w).lane n).slot = (s.lane n).slot := by
  rcases endProgramming_lane_cases s c w n with same | same
  · rw [same]
  · rw [same]
    exact (refreshLane_laneKeeps (s.setSynth c _) c n).slots n

/-- The words that use another chain are not taken again. -/
theorem endProgramming_other {s : State} {c : Chain} (w : DividerWords) {n : Slot} {e : SlotEntry}
    (slot : (s.lane n).slot = some e) :
    (.rx e.inputChain ≠ c → ((s.endProgramming c w).lane n).primaryWord = (s.lane n).primaryWord) ∧
      (.tx e.outputChain ≠ c → ((s.endProgramming c w).lane n).transmitWord = (s.lane n).transmitWord) ∧
      ∀ fb, e.fallback = some fb → .rx fb.chain ≠ c →
        ((s.endProgramming c w).lane n).fallbackWord = (s.lane n).fallbackWord := by
  rcases endProgramming_lane_cases s c w n with same | same
  · rw [same]
    exact ⟨fun _ => rfl, fun _ => rfl, fun _ _ _ => rfl⟩
  · rw [same, refreshed_present c (s := s.setSynth c _) slot]
    refine ⟨fun other => if_neg other, fun other => if_neg other, fun fb fallback other => ?_⟩
    simp only [fallback, if_neg other]
    rfl

/-- A lane's words after a programming whose words are other than those before (R76, R97). -/
theorem endProgramming_taken {s : State} {c : Chain} {w : DividerWords} (changed : (s.synth c).programmed ≠ some w)
    {n : Slot} {e : SlotEntry} (slot : (s.lane n).slot = some e) :
    let taken (chain : Chain) (f : Nat) (old : Option Word) : Option Word :=
      if chain = c ∧ (s.pe.active.lo c).map dividerWords = some w then some (ncoWord f w) else old
    let l := (s.endProgramming c w).lane n
    l.primaryWord = taken (.rx e.inputChain) e.inputFrequency (s.lane n).primaryWord ∧
      l.transmitWord = taken (.tx e.outputChain) e.outputFrequency (s.lane n).transmitWord ∧
      ∀ fb, e.fallback = some fb → l.fallbackWord = taken (.rx fb.chain) fb.frequency (s.lane n).fallbackWord := by
  intro taken l
  have programmed : ((s.setSynth c ((s.synth c).loaded w)).synth c).programmed = some w := by
    rw [State.synth_setSynth_same]
    rfl
  have word (chain : Chain) (f : Nat) (old : Option Word) :
      (if chain = c then (s.setSynth c ((s.synth c).loaded w)).wordFor c f old else old) = taken chain f old := by
    rw [wordFor_some programmed]
    exact (ite_and ..).symm
  have eq : l = _ := (endProgramming_lane changed n).trans (refreshed_present c (s := s.setSynth c _) slot)
  rw [eq]
  refine ⟨word .., word .., fun fb fallback => ?_⟩
  simp only [fallback]
  exact word ..

/-- Settles O41: what ends on the control line, then the lanes' words, row by row. -/
theorem controlLineEnds : Obligations.ControlLineEnds := by
  refine fun s c => ⟨fun w line => ?_, fun line => ?_⟩
  · let v := s.endProgramming c w
    obtain ⟨pu, fc, pe, own⟩ := endProgramming_same s c w
    have frame := endProgramming_frame s c w
    have next : exec (.programmingComplete c) s = .next (v.afterProgramming c) := by
      change execProgrammingComplete c s = _
      simp only [execProgrammingComplete, line]
      rfl
    have restart : (v.synth c).restartPending = (s.synth c).restartPending := by rw [own]; rfl
    have wanted : (v.synth c).wanted = (s.synth c).wanted := by rw [own]; rfl
    have limits : v.limits = s.limits := (congrArg (fun e : PlanEngine => e.active.limits) pe :)
    have settles (no : (s.synth c).restartPending = false) := afterProgramming_settles (restart.trans no)
    have restarts {l : Nat} (yes : (s.synth c).restartPending = true) (some : (s.synth c).wanted = some l) :=
      afterProgramming_restarts (restart.trans yes) (wanted.trans some)
    have idles (yes : (s.synth c).restartPending = true) (none : (s.synth c).wanted = none) :=
      afterProgramming_idles (restart.trans yes) (wanted.trans none)
    refine ⟨v.afterProgramming c, next, frame.trans (afterProgramming_frame v c), ?_, fun no => ?_, fun l yes some => ?_,
      fun yes none => ?_, fun yes none n e slot => ?_, fun row changed n e slot => ?_⟩
    · rcases hr : (s.synth c).restartPending with _ | _
      · rw [settles hr]
        exact fc
      · cases hw : (s.synth c).wanted with
        | some l =>
          rw [restarts hr hw]
          exact fc
        | none =>
          rw [idles hr hw, goIdle_fc]
          exact fc
    · rw [settles no, own, limits, State.afterMs, ceilDiv_eq _ (e := 9) rfl, State.afterSteps, frame.time]
      exact ⟨pu, State.synth_setSynth_same ..⟩
    · rw [restarts yes some, own]
      exact ⟨pu, State.synth_setSynth_same ..⟩
    · rw [idles yes none, goIdle_synth, own]
      simp only [SynContext.idled, SynContext.loaded, none]
    · rw [idles yes none, goIdle_lane c ((endProgramming_slot ..).trans slot)]
      obtain ⟨primary, transmit, fallback⟩ := endProgramming_other w slot
      refine ⟨?_, ?_, fun fb present => ?_⟩
      · exact if_ctx_congr Iff.rfl (fun _ => rfl) primary
      · exact if_ctx_congr Iff.rfl (fun _ => rfl) transmit
      · simp only [present]
        exact if_ctx_congr Iff.rfl (fun _ => rfl) (fallback fb present)
    · have lanes : (v.afterProgramming c).lane n = v.lane n := by
        rcases hr : (s.synth c).restartPending with _ | _
        · rw [settles hr]
          rfl
        · obtain ⟨l, hw⟩ := Option.isSome_iff_exists.mp (row.resolve_left (by rw [hr]; exact nofun))
          rw [restarts hr hw]
          rfl
      rw [lanes]
      exact endProgramming_taken changed slot
  · change execPowerDownTransferEnd c s = _
    simp only [execPowerDownTransferEnd, line, State.synth_setSynth_same, startProgramming_eq, setSynth_setSynth]
    split
    · next state => simp only [SynContext.programming, state]
    · rfl

end ControlLine

end Sys2Proof.Machine
end

section
/-! PROOFS. The lanes: what decides their states and targets, a ramp's start, and a chain's stream (O48). -/

namespace Sys2Proof.Machine

/-! ## Which lanes are on a chain -/

section LanesOn

theorem laneOn_iff (s : State) (x : Tx) (n : Slot) :
    s.laneOn x n = true ↔ ∃ e, (s.lane n).slot = some e ∧ e.outputChain = x := by
  simp only [State.laneOn, Option.any_eq_true, decide_eq_true_eq]

theorem mem_lanesOn (s : State) (x : Tx) (n : Slot) : n ∈ s.lanesOn x ↔ s.laneOn x n = true := by
  simp only [State.lanesOn, List.mem_filter, mem_allSlots, true_and]

theorem lanesOn_nodup (s : State) (x : Tx) : (s.lanesOn x).Nodup := allSlots_nodup.filter _

theorem laneOn_congr {s t : State} {n : Slot} (slot : (t.lane n).slot = (s.lane n).slot) (x : Tx) :
    t.laneOn x n = s.laneOn x n := by
  rw [State.laneOn, State.laneOn, slot]

theorem lanesOn_congr {s t : State} (slots : ∀ n, (t.lane n).slot = (s.lane n).slot) (x : Tx) :
    t.lanesOn x = s.lanesOn x :=
  List.filter_congr fun n _ => laneOn_congr (slots n) x

/-- A lane is on one chain at most. -/
theorem laneOn_unique {s : State} {x y : Tx} {n : Slot} (a : s.laneOn x n = true) (b : s.laneOn y n = true) : x = y := by
  obtain ⟨e, slot, rfl⟩ := (laneOn_iff ..).mp a
  obtain ⟨e', slot', rfl⟩ := (laneOn_iff ..).mp b
  rw [slot, Option.some.injEq] at slot'
  rw [slot']

end LanesOn

/-! ## The decision of lanes (R95, R96) -/

section Decisions

/-- Lane `n` as its decision makes it. -/
def State.decided (s : State) (n : Slot) : Lane :=
  { s.lane n with state := s.laneStateOf n, target := s.targetOf n (s.laneStateOf n) }

theorem laneStateOf_congr {s t : State} {n : Slot} (slot : (t.lane n).slot = (s.lane n).slot)
    (active : t.pe.active = s.pe.active) (source : (t.input n).source = (s.input n).source)
    (input : (t.input n).inputState = (s.input n).inputState)
    (seq : ∀ e, (s.lane n).slot = some e →
      (t.seq e.outputChain).state.carriesLanes = (s.seq e.outputChain).state.carriesLanes)
    (verified : ∀ r, t.isVerified (.rx r) = s.isVerified (.rx r)) : t.laneStateOf n = s.laneStateOf n := by
  unfold State.laneStateOf
  rw [slot, active, source, input]
  cases present : (s.lane n).slot with
  | none => rfl
  | some e =>
    dsimp only
    rw [seq e present, verified]

theorem targetOf_congr {s t : State} {n : Slot} (slot : (t.lane n).slot = (s.lane n).slot)
    (active : t.pe.active = s.pe.active)
    (seq : ∀ e, (s.lane n).slot = some e →
      ((t.seq e.outputChain).state == .rampUp || (t.seq e.outputChain).state == .onAir)
        = ((s.seq e.outputChain).state == .rampUp || (s.seq e.outputChain).state == .onAir))
    (level : ∀ e, (s.lane n).slot = some e → (t.protection e.outputChain).level = (s.protection e.outputChain).level)
    (st : LaneState) : t.targetOf n st = s.targetOf n st := by
  unfold State.targetOf
  rw [slot, active]
  cases present : (s.lane n).slot with
  | none => rfl
  | some e =>
    dsimp only
    rw [seq e present, level e present]

theorem markWindow_lane (s : State) (n m : Slot) : (s.markWindow n).lane m = s.lane m := rfl

theorem markWindow_input (s : State) (n m : Slot) : (s.markWindow n).input m =
    if m = n then { s.input n with
      windowVoid := if s.time.lastWindow = s.time.steps then !(s.lane n).state.measured else true }
    else s.input m := State.input_setInput ..

theorem decideLane_lane (s : State) (n m : Slot) :
    (s.decideLane n).lane m = if m = n then s.decided n else s.lane m := by
  unfold State.decideLane
  dsimp only
  split
  · exact State.lane_setLane ..
  · exact (markWindow_lane ..).trans (State.lane_setLane ..)

theorem decideLane_inputs (s : State) (n m : Slot) :
    { (s.decideLane n).input m with windowVoid := true } = { s.input m with windowVoid := true } := by
  unfold State.decideLane
  dsimp only
  split
  · rfl
  · rw [markWindow_input]
    split
    · next same => rw [same]; rfl
    · rfl

/-- What a decision of lanes reads is unchanged by it. -/
structure Reads (s t : State) : Prop extends LaneFrame s t where
  slots : ∀ n, (t.lane n).slot = (s.lane n).slot
  inputs : ∀ n, { t.input n with windowVoid := true } = { s.input n with windowVoid := true }

theorem Reads.refl (s : State) : Reads s s := ⟨.refl s, fun _ => rfl, fun _ => rfl⟩

theorem Reads.trans {s t u : State} (a : Reads s t) (b : Reads t u) : Reads s u :=
  ⟨a.toLaneFrame.trans b.toLaneFrame, fun n => (b.slots n).trans (a.slots n), fun n => (b.inputs n).trans (a.inputs n)⟩

theorem Reads.laneStateOf {s t : State} (h : Reads s t) (n : Slot) : t.laneStateOf n = s.laneStateOf n := by
  refine laneStateOf_congr (h.slots n) (by rw [h.pe]) (congrArg InputRecord.source (h.inputs n) :)
    (congrArg InputRecord.inputState (h.inputs n) :) (fun e _ => ?_) fun r => ?_
  · rw [State.seq, h.os]; rfl
  · rw [State.isVerified, State.synth, h.syn]; rfl

theorem Reads.targetOf {s t : State} (h : Reads s t) (n : Slot) (st : LaneState) : t.targetOf n st = s.targetOf n st := by
  refine targetOf_congr (h.slots n) (by rw [h.pe]) (fun e _ => ?_) (fun e _ => ?_) st
  · rw [State.seq, h.os]; rfl
  · rw [State.protection, h.pu]; rfl

theorem decideLane_reads (s : State) (n : Slot) : Reads s (s.decideLane n) :=
  ⟨decideLane_frame s n, (decideLane_laneKeeps s n).slots, decideLane_inputs s n⟩

/-- A list of lanes decided in turn: each lane of it as its decision makes it, the others as they were. -/
theorem foldl_decideLane_lane (ns : List Slot) (s : State) (n : Slot) :
    (ns.foldl State.decideLane s).lane n = if n ∈ ns then s.decided n else s.lane n := by
  induction ns generalizing s with
  | nil => rw [if_neg List.not_mem_nil]; rfl
  | cons m ns ih =>
    have reads := decideLane_reads s m
    have decided : (s.decideLane m).decided n = s.decided n := by
      rw [State.decided, reads.laneStateOf, reads.targetOf, decideLane_lane]
      split
      · next same => rw [same]; rfl
      · rfl
    rw [List.foldl_cons, ih, decided, decideLane_lane]
    by_cases same : n = m
    · subst same
      rw [if_pos rfl, ite_self, if_pos List.mem_cons_self]
    · simp only [List.mem_cons, same, false_or, if_false]

theorem foldl_decideLane_reads (ns : List Slot) (s : State) : Reads s (ns.foldl State.decideLane s) :=
  foldl_related Reads.refl Reads.trans decideLane_reads ns s

theorem foldl_decideLane_same (ns : List Slot) (s : State) :
    (ns.foldl State.decideLane s).phases = s.phases ∧ (ns.foldl State.decideLane s).mixers = s.mixers := by
  refine foldl_related (R := fun s t => t.phases = s.phases ∧ t.mixers = s.mixers) (fun _ => ⟨rfl, rfl⟩)
    (fun a b => ⟨b.1.trans a.1, b.2.trans a.2⟩) (fun s n => ?_) ns s
  unfold State.decideLane
  dsimp only
  split <;> exact ⟨rfl, rfl⟩

/-- A window is marked where the lane begins or ceases to be measured (R110). -/
theorem decideLane_input (s : State) (n m : Slot) : (s.decideLane n).input m =
    if m = n ∧ (s.laneStateOf n).measured ≠ (s.lane n).state.measured then
      { s.input n with
        windowVoid := if s.time.lastWindow = s.time.steps then !(s.laneStateOf n).measured else true }
    else s.input m := by
  unfold State.decideLane
  dsimp only
  split
  · next same => rw [if_neg fun h => h.2 same]; rfl
  · next other =>
    rw [markWindow_input, State.lane_setLane_same]
    exact if_congr (and_iff_left other).symm rfl rfl

theorem foldl_decideLane_input (ns : List Slot) (s : State) (n : Slot) :
    (ns.foldl State.decideLane s).input n =
      if n ∈ ns ∧ (s.laneStateOf n).measured ≠ (s.lane n).state.measured then
        { s.input n with
          windowVoid := if s.time.lastWindow = s.time.steps then !(s.laneStateOf n).measured else true }
      else s.input n := by
  induction ns generalizing s with
  | nil => rw [if_neg fun h => List.not_mem_nil h.1]; rfl
  | cons m ns ih =>
    have reads := decideLane_reads s m
    rw [List.foldl_cons, ih, reads.laneStateOf, decideLane_lane, decideLane_input, reads.time]
    by_cases same : n = m
    · subst same
      have settled : ¬((s.laneStateOf n).measured ≠ (s.decided n).state.measured) := fun h => h rfl
      simp only [if_true, settled, and_false, if_false, true_and, List.mem_cons_self]
    · simp only [same, if_false, false_and, List.mem_cons, false_or]

end Decisions

/-! ## Ramps (R103) -/

section Ramps

/-- A mixer at the start of a ramp. -/
def State.restarted (s : State) (x : Tx) : Mixer :=
  { s.mixer x with step := 0, timer := some (s.time.steps + (s.mixer x).rampUnit) }

theorem foldl_setLane_mixers (g : State → Slot → Lane) (l : List Slot) (s : State) :
    (l.foldl (fun s n => s.setLane n (g s n)) s).mixers = s.mixers :=
  foldl_related (R := fun s t => t.mixers = s.mixers) (f := fun s n => s.setLane n (g s n)) (fun _ => rfl)
    (fun a b => b.trans a) (fun _ _ => rfl) l s

theorem foldl_setLane_time (g : State → Slot → Lane) (l : List Slot) (s : State) :
    (l.foldl (fun s n => s.setLane n (g s n)) s).time = s.time :=
  foldl_related (R := fun s t => t.time = s.time) (f := fun s n => s.setLane n (g s n)) (fun _ => rfl)
    (fun a b => b.trans a) (fun _ _ => rfl) l s

theorem startRamp_lane (s : State) (x : Tx) (n : Slot) : (s.startRamp x).lane n =
    if s.laneOn x n = true then { s.lane n with start := (s.lane n).current } else s.lane n := by
  have fold := foldl_setLane (g := fun s n => { s.lane n with start := (s.lane n).current })
    (fun s m n y other => by rw [State.lane_setLane, if_neg other]) (lanesOn_nodup s x) s n
  exact fold.trans (if_congr (mem_lanesOn ..) rfl rfl)

theorem startRamp_mixer (s : State) (x y : Tx) : (s.startRamp x).mixer y = if y = x then s.restarted x else s.mixer y := by
  unfold State.startRamp
  dsimp only
  rw [State.mixer_setMixer]
  refine if_congr Iff.rfl rfl ?_
  exact congrArg (·.get y) (foldl_setLane_mixers (fun s n => { s.lane n with start := (s.lane n).current }) _ s)

theorem startRamp_same (s : State) (x : Tx) : (s.startRamp x).phases = s.phases ∧ (s.startRamp x).inputs = s.inputs :=
  foldl_related (R := fun s t => t.phases = s.phases ∧ t.inputs = s.inputs)
    (f := fun s n => s.setLane n { s.lane n with start := (s.lane n).current }) (fun _ => ⟨rfl, rfl⟩)
    (fun a b => ⟨b.1.trans a.1, b.2.trans a.2⟩) (fun _ _ => ⟨rfl, rfl⟩) (s.lanesOn x) s

theorem startRamp_reads (s : State) (x : Tx) : Reads s (s.startRamp x) :=
  ⟨startRamp_frame s x, (startRamp_laneKeeps s x).slots, fun n => by
    rw [State.input, (startRamp_same s x).2]; rfl⟩

/-- Ramps started on a list of chains. -/
theorem foldl_startRamp (l : List Tx) (s : State) :
    let t := l.foldl State.startRamp s
    (∀ n, t.lane n =
      if ∃ x ∈ l, s.laneOn x n = true then { s.lane n with start := (s.lane n).current } else s.lane n) ∧
      (∀ y, t.mixer y = if y ∈ l then s.restarted y else s.mixer y) ∧
      t.phases = s.phases ∧ t.inputs = s.inputs ∧ Reads s t := by
  induction l generalizing s with
  | nil => exact ⟨fun n => (if_neg nofun).symm, fun y => (if_neg nofun).symm, rfl, rfl, .refl s⟩
  | cons x l ih =>
    intro t
    obtain ⟨lane, mixer, phases, inputs, reads⟩ := ih (s.startRamp x)
    obtain ⟨samePhases, sameInputs⟩ := startRamp_same s x
    have first := startRamp_reads s x
    have on (y : Tx) (n : Slot) : (s.startRamp x).laneOn y n = s.laneOn y n := laneOn_congr (first.slots n) y
    refine ⟨fun n => (lane n).trans ?_, fun y => (mixer y).trans ?_, phases.trans samePhases, inputs.trans sameInputs,
      first.trans reads⟩
    · simp only [on, startRamp_lane, List.mem_cons, exists_eq_or_imp]
      by_cases here : s.laneOn x n = true
      · simp only [here, if_true, true_or, ite_self]
      · simp only [here, Bool.false_eq_true, if_false, false_or]
    · simp only [List.mem_cons, State.restarted, startRamp_mixer, first.time]
      by_cases same : y = x
      · subst same
        simp only [if_true, true_or, ite_self]
      · simp only [same, if_false, false_or]

end Ramps

/-! ## Decisions of lanes and the ramps they start (R96, R103) -/

section DecideLanes

/-- A lane after the decision of a list of lanes, before any ramp starts. -/
def State.redecided (s : State) (ns : List Slot) (n : Slot) : Lane := if n ∈ ns then s.decided n else s.lane n

/-- A decision of a list of lanes changes a target on chain `x`. -/
def State.Retargets (s : State) (ns : List Slot) (x : Tx) : Prop :=
  ∃ n ∈ ns, s.laneOn x n = true ∧ (s.redecided ns n).target ≠ (s.lane n).target

theorem redecided_slot (s : State) (ns : List Slot) (n : Slot) : (s.redecided ns n).slot = (s.lane n).slot := by
  unfold State.redecided
  split <;> rfl

theorem redecided_current (s : State) (ns : List Slot) (n : Slot) :
    (s.redecided ns n).current = (s.lane n).current := by
  unfold State.redecided
  split <;> rfl

open Classical in
/-- The decision of a list of lanes: its lanes decided, and a ramp on every chain on which a target has changed. -/
theorem decideLanes_spec (s : State) (ns : List Slot) :
    let t := s.decideLanes ns
    (∀ n, t.lane n =
      if ∃ x, s.Retargets ns x ∧ s.laneOn x n = true then
        { s.redecided ns n with start := (s.lane n).current }
      else s.redecided ns n) ∧
      (∀ x, t.mixer x = if s.Retargets ns x then s.restarted x else s.mixer x) ∧
      t.phases = s.phases ∧ Reads s t := by
  intro t
  let u := ns.foldl State.decideLane s
  have lanes : ∀ n, u.lane n = s.redecided ns n := foldl_decideLane_lane ns s
  obtain ⟨phases, mixers⟩ := foldl_decideLane_same ns s
  have reads := foldl_decideLane_reads ns s
  have on (x : Tx) (n : Slot) : u.laneOn x n = s.laneOn x n := laneOn_congr (reads.slots n) x
  let changed (x : Tx) : Bool := ns.any fun n => u.laneOn x n && (u.lane n).target != (s.lane n).target
  have moves (x : Tx) : x ∈ allTx.filter changed ↔ s.Retargets ns x := by
    simp only [List.mem_filter, mem_allTx, true_and, changed, List.any_eq_true, Bool.and_eq_true, bne_iff_ne, on, lanes,
      State.Retargets]
  obtain ⟨lane, mixer, samePhases, -, ramped⟩ := foldl_startRamp (allTx.filter changed) u
  refine ⟨fun n => (lane n).trans ?_, fun x => (mixer x).trans ?_, samePhases.trans phases, reads.trans ramped⟩
  · simp only [moves, on, lanes, redecided_current]
  · have same : u.mixer x = s.mixer x := congrArg (·.get x) mixers
    have time : u.time = s.time := reads.time
    simp only [moves, State.restarted, same, time]

section
variable (s : State) (ns : List Slot)

theorem decideLanes_reads : Reads s (s.decideLanes ns) := (decideLanes_spec s ns).2.2.2

theorem decideLanes_phases : (s.decideLanes ns).phases = s.phases := (decideLanes_spec s ns).2.2.1

/-- A decision of lanes leaves each lane as redecided, but for its start value. -/
theorem decideLanes_lane (n : Slot) : { (s.decideLanes ns).lane n with start := 0 } = { s.redecided ns n with start := 0 } := by
  rw [(decideLanes_spec s ns).1]
  split <;> rfl

theorem decideLanes_state (n : Slot) : ((s.decideLanes ns).lane n).state = (s.redecided ns n).state :=
  (congrArg Lane.state (decideLanes_lane s ns n) :)

theorem decideLanes_target (n : Slot) : ((s.decideLanes ns).lane n).target = (s.redecided ns n).target :=
  (congrArg Lane.target (decideLanes_lane s ns n) :)

theorem decideLanes_current (n : Slot) : ((s.decideLanes ns).lane n).current = (s.lane n).current :=
  (congrArg Lane.current (decideLanes_lane s ns n) :).trans (redecided_current ..)

variable {s ns}

theorem decideLanes_ramps {x : Tx} (h : s.Retargets ns x) : (s.decideLanes ns).mixer x = s.restarted x ∧
    ∀ n, s.laneOn x n = true → ((s.decideLanes ns).lane n).start = (s.lane n).current := by
  obtain ⟨lane, mixer, -⟩ := decideLanes_spec s ns
  refine ⟨by rw [mixer, if_pos h], fun n on => ?_⟩
  rw [lane, if_pos ⟨x, h, on⟩]

theorem decideLanes_no_ramp {x : Tx} (h : ¬s.Retargets ns x) : (s.decideLanes ns).mixer x = s.mixer x ∧
    ∀ n, s.laneOn x n = true → (s.decideLanes ns).lane n = s.redecided ns n := by
  obtain ⟨lane, mixer, -⟩ := decideLanes_spec s ns
  refine ⟨by rw [mixer, if_neg h], fun n on => ?_⟩
  rw [lane, if_neg]
  rintro ⟨y, moves, on'⟩
  rw [laneOn_unique on' on] at moves
  exact h moves

theorem redecided_start (n : Slot) : (s.redecided ns n).start = (s.lane n).start := by
  unfold State.redecided
  split <;> rfl

end

end DecideLanes

theorem decideLanes_input (s : State) (ns : List Slot) (n : Slot) : (s.decideLanes ns).input n =
    if n ∈ ns ∧ (s.laneStateOf n).measured ≠ (s.lane n).state.measured then
      { s.input n with
        windowVoid := if s.time.lastWindow = s.time.steps then !(s.laneStateOf n).measured else true }
    else s.input n := by
  rw [← foldl_decideLane_input]
  unfold State.decideLanes
  dsimp only
  rw [State.input, (foldl_startRamp _ _).2.2.2.1]
  rfl

theorem decideLanes_input_other {s : State} {ns : List Slot} {n : Slot} (out : n ∉ ns) :
    (s.decideLanes ns).input n = s.input n := by
  rw [decideLanes_input, if_neg fun h => out h.1]

/-! ## Phases (R99) -/

/-- The lanes that wait for a phase reset start from phase 0. -/
theorem clearPhases_spec (s : State) (x : Tx) :
    let t := s.clearPhases x
    (∀ n, t.lane n = if s.laneOn x n = true ∧ (s.lane n).phaseReset = true then { s.lane n with phaseReset := false }
      else s.lane n) ∧
      (∀ n, t.phaseOf n = if s.laneOn x n = true ∧ (s.lane n).phaseReset = true then ⟨0, 0⟩ else s.phaseOf n) ∧
      t.inputs = s.inputs ∧ t.mixers = s.mixers := by
  intro t
  have mem (n : Slot) : (n ∈ (s.lanesOn x).filter fun n => (s.lane n).phaseReset) ↔
      s.laneOn x n = true ∧ (s.lane n).phaseReset = true := by
    rw [List.mem_filter, mem_lanesOn]
  have fold (l : List Slot) (s : State) :
      let t := l.foldl (fun s n => (s.setLane n { s.lane n with phaseReset := false }).setPhase n ⟨0, 0⟩) s
      (∀ n, t.lane n = if n ∈ l then { s.lane n with phaseReset := false } else s.lane n) ∧
        (∀ n, t.phaseOf n = if n ∈ l then ⟨0, 0⟩ else s.phaseOf n) ∧ t.inputs = s.inputs ∧ t.mixers = s.mixers := by
    induction l generalizing s with
    | nil => exact ⟨fun n => (if_neg nofun).symm, fun n => (if_neg nofun).symm, rfl, rfl⟩
    | cons m l ih =>
      obtain ⟨lane, phase, inputs, mixers⟩ := ih ((s.setLane m { s.lane m with phaseReset := false }).setPhase m ⟨0, 0⟩)
      refine ⟨fun n => (lane n).trans ?_, fun n => (phase n).trans ?_, inputs, mixers⟩
      · change (if n ∈ l then { (s.setLane m _).lane n with phaseReset := false } else (s.setLane m _).lane n) = _
        rw [State.lane_setLane]
        by_cases same : n = m
        · subst same
          simp only [if_true, List.mem_cons_self, ite_self]
        · simp only [same, if_false, List.mem_cons, false_or]
      · rw [State.phaseOf_setPhase]
        by_cases same : n = m
        · subst same
          simp only [if_true, List.mem_cons_self, ite_self]
        · simp only [same, if_false, List.mem_cons, false_or]
          rfl
  obtain ⟨lane, phase, inputs, mixers⟩ := fold ((s.lanesOn x).filter fun n => (s.lane n).phaseReset) s
  exact ⟨fun n => (lane n).trans (if_congr (mem n) rfl rfl), fun n => (phase n).trans (if_congr (mem n) rfl rfl), inputs,
    mixers⟩

/-! ## The stream (O48) -/

section Stream

theorem allSlots_eq : allSlots = List.finRange 16 := by decide

theorem sourceChain_eq (e : SlotEntry) (source : Source) : e.sourceChain source =
    match source, e.fallback with
    | .fallback, some fb => fb.chain
    | _, _ => e.inputChain := by
  cases source with
  | primary => rfl
  | fallback => cases fallback : e.fallback <;> simp only [SlotEntry.sourceChain, fallback] <;> rfl

theorem mem_stream (s : State) (x : Tx) (c : StreamTerm) :
    c ∈ s.stream x ↔ ∃ n, s.laneOn x n = true ∧ s.contribution n = some c := by
  simp only [State.stream, List.mem_filterMap, mem_lanesOn]

theorem contribution_lane {s : State} {n : Slot} {c : StreamTerm} (h : s.contribution n = some c) : c.lane = n := by
  obtain ⟨e, r, w, -, -, -, -, rfl⟩ := (contribution_eq_some ..).mp h
  rfl

theorem contribution_isSome {s : State} {x : Tx} {n : Slot} (on : s.laneOn x n = true) :
    (s.contribution n).isSome = true ↔
      0 < (s.lane n).current ∧ ((s.lane n).receiveWord (s.input n).source).isSome = true ∧
        (s.lane n).transmitWord.isSome = true := by
  obtain ⟨e, slot, -⟩ := (laneOn_iff ..).mp on
  simp only [Option.isSome_iff_exists, contribution_eq_some]
  constructor
  · rintro ⟨c, e, r, w, -, receive, transmit, audible, -⟩
    exact ⟨Nat.pos_of_ne_zero audible, ⟨r, receive⟩, ⟨w, transmit⟩⟩
  · rintro ⟨audible, ⟨r, receive⟩, ⟨w, transmit⟩⟩
    exact ⟨_, e, r, w, slot, receive, transmit, audible.ne', rfl⟩

/-- The lanes of a stream: those of its chain's lanes that contribute. -/
theorem stream_lanes (s : State) (x : Tx) :
    (s.stream x).map StreamTerm.lane = (s.lanesOn x).filter fun n => (s.contribution n).isSome := by
  rw [State.stream]
  induction s.lanesOn x with
  | nil => rfl
  | cons n l ih =>
    cases term : s.contribution n with
    | none => rw [List.filterMap_cons_none term, ih, List.filter_cons_of_neg (by rw [term]; exact Bool.false_ne_true)]
    | some c =>
      rw [List.filterMap_cons_some term, List.map_cons, ih, contribution_lane term,
        List.filter_cons_of_pos (by rw [term]; rfl)]

/-- The shares of a stream: the current shares of its lanes. -/
theorem stream_shares (s : State) (x : Tx) : (s.stream x).map StreamTerm.share =
    ((s.lanesOn x).filter fun n => (s.contribution n).isSome).map fun n => (s.lane n).current := by
  rw [← stream_lanes, List.map_map]
  refine List.map_congr_left fun c mem => ?_
  obtain ⟨n, -, term⟩ := (mem_stream ..).mp mem
  obtain ⟨e, r, w, -, -, -, -, rfl⟩ := (contribution_eq_some ..).mp term
  rfl

theorem sum_filter_le {l : List Slot} (p : Slot → Bool) (f : Slot → Nat) : ((l.filter p).map f).sum ≤ (l.map f).sum :=
  ((List.filter_sublist).map f).sum_le_sum fun _ _ => Nat.zero_le _

/-- What is left out of a filtered sum is nothing, where the filter leaves out zeros alone. -/
theorem sum_filter_eq {l : List Slot} {p : Slot → Bool} {f : Slot → Nat} (h : ∀ n ∈ l, p n = false → f n = 0) :
    ((l.filter p).map f).sum = (l.map f).sum := by
  induction l with
  | nil => rfl
  | cons n l ih =>
    have rest := ih fun m mem => h m (List.mem_cons_of_mem _ mem)
    cases kept : p n with
    | true => rw [List.filter_cons_of_pos kept, List.map_cons, List.sum_cons, rest, List.map_cons, List.sum_cons]
    | false =>
      rw [List.filter_cons_of_neg (by rw [kept]; exact Bool.false_ne_true), rest, List.map_cons, List.sum_cons,
        h n List.mem_cons_self kept, Nat.zero_add]

/-- Settles O48: the tables of the lines, then the terms of the stream and their sum. -/
theorem streamHoldsLanes : Obligations.StreamHoldsLanes := by
  refine ⟨fun st => ?_, fun s x => ?_⟩
  · cases st <;> decide
  intro l receive heard
  have word (n : Slot) : receive n = (s.lane n).receiveWord (s.input n).source := by
    cases h : (s.input n).source <;> simp only [receive, h] <;> rfl
  refine ⟨?_, fun n => ?_, fun c mem => ?_, ?_, fun whole => ?_, ?_⟩
  · rw [stream_lanes, State.lanesOn, allSlots_eq]
    exact ((List.pairwise_lt_finRange 16).filter _).filter _
  · rw [stream_lanes, List.mem_filter, mem_lanesOn]
    refine and_congr_right fun on => ?_
    rw [contribution_isSome on, word]
  · obtain ⟨n, on, term⟩ := (mem_stream ..).mp mem
    obtain ⟨e, r, w, slot, read, transmit, -, rfl⟩ := (contribution_eq_some ..).mp term
    obtain ⟨e', slot', chain⟩ := (laneOn_iff ..).mp on
    rw [slot, Option.some.injEq] at slot'
    exact ⟨rfl, (word n).trans read, transmit, rfl, e, slot, slot' ▸ chain, rfl, sourceChain_eq ..⟩
  · rw [stream_shares]
    exact sum_filter_le ..
  · rw [stream_shares]
    refine sum_filter_eq fun n mem silent => ?_
    have on := (mem_lanesOn ..).mp mem
    by_contra audible
    rw [← Bool.not_eq_true, contribution_isSome on, ← word] at silent
    exact silent ⟨Nat.pos_of_ne_zero audible, whole n on⟩
  · unfold State.onAirStream
    cases (s.seq x).state <;> rfl

end Stream

end Sys2Proof.Machine
end

section
/-! PROOFS. What a sequencer's decision leaves of the rest of the part, and how it moves its own lanes. -/

namespace Sys2Proof.Machine

/-! ## What a wanted LO of a transmit chain reaches -/

section SynthQuiet

/-- `t` differs from `s` at most in the synthesizer of chain `y`, its conditions, the transmit words of its lanes and
its places in the counter. -/
structure SynthQuiet (y : Tx) (s t : State) : Prop extends SynthFrame s t where
  words : ∀ n, { t.lane n with transmitWord := none } = { s.lane n with transmitWord := none }
  lane : ∀ n, s.laneOn y n = false → t.lane n = s.lane n
  device : t.pu.device = s.pu.device
  protection : ∀ x, x ≠ y → t.protection x = s.protection x
  synth : ∀ c, c ≠ .tx y → t.synth c = s.synth c
  queue : ∀ q ∈ t.fc.queue, q ∈ s.fc.queue
  current : ∀ m, t.fc.current = some m → s.fc.current = some m
  held : ∀ m, s.fc.current = some m → m.syn ≠ .tx y → t.fc.current = some m

variable {y : Tx} {s t u : State}

theorem SynthQuiet.slots (h : SynthQuiet y s t) (n : Slot) : (t.lane n).slot = (s.lane n).slot :=
  (congrArg Lane.slot (h.words n) :)

theorem SynthQuiet.refl (y : Tx) (s : State) : SynthQuiet y s s :=
  ⟨.refl s, fun _ => rfl, fun _ _ => rfl, rfl, fun _ _ => rfl, fun _ _ => rfl, fun _ => id, fun _ => id,
    fun _ h _ => h⟩

theorem SynthQuiet.trans (a : SynthQuiet y s t) (b : SynthQuiet y t u) : SynthQuiet y s u :=
  ⟨a.toSynthFrame.trans b.toSynthFrame, fun n => (b.words n).trans (a.words n),
    fun n off => (b.lane n ((laneOn_congr (a.slots n) y).trans off)).trans (a.lane n off), b.device.trans a.device,
    fun x other => (b.protection x other).trans (a.protection x other),
    fun c other => (b.synth c other).trans (a.synth c other), fun q mem => a.queue q (b.queue q mem),
    fun m h => a.current m (b.current m h), fun m h other => b.held m (a.held m h other) other⟩

theorem setSynth_quiet (s : State) (y : Tx) (x : SynContext) : SynthQuiet y s (s.setSynth (.tx y) x) :=
  ⟨setSynth_frame .., fun _ => rfl, fun _ _ => rfl, rfl, fun _ _ => rfl,
    fun _ other => (State.synth_setSynth ..).trans (if_neg other), fun _ => id, fun _ => id, fun _ h _ => h⟩

theorem leaveCounter_quiet (s : State) (y : Tx) : SynthQuiet y s (s.leaveCounter (.tx y)) := by
  refine ⟨leaveCounter_frame .., fun _ => rfl, fun _ _ => rfl, rfl, fun _ _ => rfl, fun _ _ => rfl,
    fun q mem => List.mem_of_mem_filter mem, fun m h => ?_, fun m h other => ?_⟩
  · exact (Option.filter_eq_some_iff.mp h).1
  · exact Option.filter_eq_some_iff.mpr ⟨h, bne_iff_ne.mpr other⟩

theorem setProtection_quiet (s : State) (y : Tx) (c : ChainProtection) : SynthQuiet y s (s.setProtection y c) :=
  ⟨setProtection_frame .., fun _ => rfl, fun _ _ => rfl, rfl,
    fun _ other => (State.protection_setProtection ..).trans (if_neg other), fun _ _ => rfl, fun _ => id, fun _ => id,
    fun _ h _ => h⟩

theorem decideProtection_quiet (s : State) (y : Tx) : SynthQuiet y s (s.decideProtection y) := setProtection_quiet ..

theorem withdrawSynth_quiet (s : State) (y : Tx) : SynthQuiet y s (s.withdrawSynth (.tx y)) := by
  unfold State.withdrawSynth
  dsimp only
  split
  · exact .refl y s
  · exact (setProtection_quiet ..).trans (decideProtection_quiet ..)

theorem refreshed_tx (s : State) (y : Tx) (n : Slot) :
    { s.refreshed (.tx y) n with transmitWord := none } = { s.lane n with transmitWord := none } ∧
      (s.laneOn y n = false → s.refreshed (.tx y) n = s.lane n) := by
  cases slot : (s.lane n).slot with
  | none => rw [refreshed_absent _ slot]; exact ⟨rfl, fun _ => rfl⟩
  | some e =>
    rw [refreshed_present _ slot]
    have other (r : Rx) : Chain.rx r ≠ .tx y := nofun
    refine ⟨?_, fun off => ?_⟩
    · simp only [if_neg (other _)]
      cases e.fallback <;> rfl
    · have chain : Chain.tx e.outputChain ≠ .tx y := by
        rintro same
        rw [← Bool.not_eq_true, laneOn_iff] at off
        exact off ⟨e, slot, Chain.tx.inj same⟩
      simp only [if_neg (other _), if_neg chain]
      cases e.fallback <;> rfl

theorem refreshWords_quiet (s : State) (y : Tx) : SynthQuiet y s (s.refreshWords (.tx y)) := by
  obtain ⟨frame, -⟩ := refreshWords_frame s (.tx y)
  refine ⟨refreshWords_synth .., fun n => ?_, fun n off => ?_, by rw [frame.pu], fun x _ => ?_, fun c _ => ?_, ?_, ?_, ?_⟩
  · rw [refreshWords_lane]; exact (refreshed_tx s y n).1
  · rw [refreshWords_lane]; exact (refreshed_tx s y n).2 off
  · rw [State.protection, frame.pu]; rfl
  · rw [State.synth, frame.syn]; rfl
  · rw [frame.fc]; exact fun _ => id
  · rw [frame.fc]; exact fun _ => id
  · rw [frame.fc]; exact fun _ h _ => h

theorem goIdle_quiet (s : State) (y : Tx) : SynthQuiet y s (s.goIdle (.tx y)) :=
  ((setSynth_quiet ..).trans (refreshWords_quiet ..)).trans (withdrawSynth_quiet ..)

theorem dropCycle_quiet (s : State) (y : Tx) : SynthQuiet y s (s.dropCycle (.tx y)) :=
  (leaveCounter_quiet ..).trans (setSynth_quiet ..)

/-- A new wanted LO changes the chain's own blocks, and a measurement may then start. -/
theorem takeWanted_quiet (s : State) (y : Tx) (lo : Option Nat) :
    ∃ u, SynthQuiet y s u ∧ (s.takeWanted (.tx y) lo = u ∨ s.takeWanted (.tx y) lo = u.startMeasurement) := by
  unfold State.takeWanted
  split
  · exact ⟨s, .refl y s, .inl rfl⟩
  cases lo with
  | some l =>
    rcases takeLo_cases s (.tx y) l with ⟨-, eq⟩ | ⟨-, eq⟩ | ⟨-, -, eq⟩
    · refine ⟨_, ?_, .inl eq⟩
      split
      · exact setSynth_quiet ..
      · exact (setSynth_quiet ..).trans (setSynth_quiet ..)
    · refine ⟨_, ?_, .inl eq⟩
      split <;> exact setSynth_quiet ..
    · exact ⟨_, (((dropCycle_quiet ..).trans (setSynth_quiet ..)).trans (setSynth_quiet ..)).trans (withdrawSynth_quiet ..),
        .inr eq⟩
  | none =>
    rcases takeNone_cases s (.tx y) with ⟨-, eq⟩ | ⟨-, eq⟩ | ⟨-, -, eq⟩
    · exact ⟨_, setSynth_quiet .., .inl eq⟩
    · refine ⟨_, ?_, .inl eq⟩
      split <;> exact setSynth_quiet ..
    · exact ⟨_, (dropCycle_quiet ..).trans (goIdle_quiet ..), .inr eq⟩

end SynthQuiet

/-! ## What one chain's operations reach -/

section Local

/-- `t` differs from `s` at most in the blocks of chain `y`, the counter, the notices, the store and the Plan Engine;
of the other synthesizers, one that waits may be measured. -/
structure Local (y : Tx) (s t : State) : Prop where
  phase : t.phase = s.phase
  time : t.time = s.time
  ref : t.ref = s.ref
  active : t.pe.active = s.pe.active
  probe : t.probe = s.probe
  device : t.pu.device = s.pu.device
  slots : ∀ n, (t.lane n).slot = (s.lane n).slot
  lane : ∀ n, s.laneOn y n = false → t.lane n = s.lane n ∧ t.input n = s.input n ∧ t.phaseOf n = s.phaseOf n
  seq : ∀ x, x ≠ y → t.seq x = s.seq x
  mixer : ∀ x, x ≠ y → t.mixer x = s.mixer x
  protection : ∀ x, x ≠ y → t.protection x = s.protection x
  counter : s.CounterSound → t.CounterSound
  synth : ∀ c, c ≠ .tx y → t.synth c = s.synth c ∨
    (s.CounterSound → (s.synth c).state = .queued) ∧ t.synth c = { s.synth c with state := .measuring }
  held : ∀ m, s.fc.current = some m → m.syn ≠ .tx y → t.fc.current = some m
  absent : s.ref.state = .absent → ∀ m, t.fc.current = some m → s.fc.current = some m

variable {y : Tx} {s t u : State}

theorem Local.refl (y : Tx) (s : State) : Local y s s :=
  ⟨rfl, rfl, rfl, rfl, rfl, rfl, fun _ => rfl, fun _ _ => ⟨rfl, rfl, rfl⟩, fun _ _ => rfl, fun _ _ => rfl, fun _ _ => rfl,
    id, fun _ _ => .inl rfl, fun _ h _ => h, fun _ _ => id⟩

theorem Local.trans (a : Local y s t) (b : Local y t u) : Local y s u where
  phase := b.phase.trans a.phase
  time := b.time.trans a.time
  ref := b.ref.trans a.ref
  active := b.active.trans a.active
  probe := b.probe.trans a.probe
  device := b.device.trans a.device
  slots n := (b.slots n).trans (a.slots n)
  lane n off := by
    obtain ⟨lane, input, phase⟩ := a.lane n off
    obtain ⟨lane', input', phase'⟩ := b.lane n ((laneOn_congr (a.slots n) y).trans off)
    exact ⟨lane'.trans lane, input'.trans input, phase'.trans phase⟩
  seq x other := (b.seq x other).trans (a.seq x other)
  mixer x other := (b.mixer x other).trans (a.mixer x other)
  protection x other := (b.protection x other).trans (a.protection x other)
  counter k := b.counter (a.counter k)
  synth c other := by
    rcases a.synth c other with first | ⟨waits, first⟩ <;> rcases b.synth c other with second | ⟨waits', second⟩
    · exact .inl (second.trans first)
    · rw [first] at waits' second
      exact .inr ⟨fun k => waits' (a.counter k), second⟩
    · exact .inr ⟨waits, second.trans first⟩
    · rw [first] at second
      exact .inr ⟨waits, second⟩
  held m h other := b.held m (a.held m h other) other
  absent state m h := a.absent state m (b.absent (by rw [a.ref]; exact state) m h)

/-- An operation on the lanes, the mixer and the input records of one chain. -/
theorem Local.of_lanes (frame : LaneFrame s t) (slots : ∀ n, (t.lane n).slot = (s.lane n).slot)
    (lane : ∀ n, s.laneOn y n = false → t.lane n = s.lane n ∧ t.input n = s.input n ∧ t.phaseOf n = s.phaseOf n)
    (mixer : ∀ x, x ≠ y → t.mixer x = s.mixer x) : Local y s t where
  phase := frame.phase
  time := frame.time
  ref := frame.ref
  active := by rw [frame.pe]
  probe := frame.probe
  device := by rw [frame.pu]
  slots := slots
  lane := lane
  seq x _ := frame.untouched.seq_eq x
  mixer := mixer
  protection x _ := frame.untouched.protection_eq x
  counter := frame.untouched.counter
  synth c _ := .inl (frame.untouched.synth_eq c)
  held m h _ := by rwa [frame.fc]
  absent _ m h := by rwa [frame.fc] at h

/-- An operation that leaves the lanes, the counter and the synthesizers. -/
theorem Local.of_rest (same : t = { s with
      pe := t.pe, os := t.os, pu := t.pu, store := t.store, ports := t.ports }) (active : t.pe.active = s.pe.active)
    (device : t.pu.device = s.pu.device) (seq : ∀ x, x ≠ y → t.seq x = s.seq x)
    (protection : ∀ x, x ≠ y → t.protection x = s.protection x) : Local y s t := by
  have synth (c : Chain) : t.synth c = s.synth c := by rw [same]; rfl
  have fc : t.fc = s.fc := by rw [same]
  refine ⟨?_, ?_, ?_, active, ?_, device, fun n => ?_, fun n _ => ?_, seq, fun x _ => ?_, protection, fun k => ?_,
    fun c _ => .inl (synth c), fun m h _ => fc ▸ h, fun _ m h => fc ▸ h⟩
  · rw [same]
  · rw [same]
  · rw [same]
  · rw [same]
  · rw [same]; rfl
  · rw [same]; exact ⟨rfl, rfl, rfl⟩
  · rw [same]; rfl
  · refine ⟨fun c => synth c ▸ k.contexts c, ?_, fun q mem => ?_, fun m h => ?_⟩
    · rw [State.QueueSound, fc]; exact k.nodup
    · rw [synth]; exact k.queued q (fc ▸ mem)
    · rw [synth, fc]; exact k.measured m (fc ▸ h)

theorem setSeq_local (s : State) (y : Tx) (q : Sequencer) : Local y s (s.setSeq y q) :=
  .of_rest rfl rfl rfl (fun _ other => (State.seq_setSeq ..).trans (if_neg other)) fun _ _ => rfl

theorem notifyBoth_local (y : Tx) (s : State) (n : Notice) : Local y s (s.notifyBoth n) := by
  rw [notifyBoth_eq]
  exact .of_rest rfl rfl rfl (fun _ _ => rfl) fun _ _ => rfl

theorem setProtection_local (s : State) (y : Tx) (c : ChainProtection) : Local y s (s.setProtection y c) :=
  .of_rest rfl rfl rfl (fun _ _ => rfl) fun _ other => (State.protection_setProtection ..).trans (if_neg other)

theorem probationFailure_local (y : Tx) (s : State) : Local y s s.probationFailure := by
  unfold State.probationFailure
  have failed : Local y s { s with pe := s.pe.failProbation } :=
    .of_rest rfl rfl rfl (fun _ _ => rfl) fun _ _ => rfl
  split
  · dsimp only
    split
    · exact failed.trans (notifyBoth_local ..)
    · exact failed
  · exact .refl y s

theorem requestSite_local (y : Tx) (s : State) : Local y s s.requestSite := by
  rw [requestSite_eq]
  exact .of_rest rfl rfl rfl (fun _ _ => rfl) fun _ _ => rfl

/-- What a new wanted LO reaches outside its chain. -/
theorem takeWanted_local (s : State) (y : Tx) (lo : Option Nat) : Local y s (s.takeWanted (.tx y) lo) := by
  have frame := takeWanted_frame s (.tx y) lo
  have counter := (takeWanted_takesLo s (.tx y) lo).keeps.counter
  obtain ⟨u, quiet, eq⟩ := takeWanted_quiet s y lo
  generalize s.takeWanted (.tx y) lo = t at *
  have lanes : t.lanes = u.lanes := by
    rcases eq with rfl | rfl
    · rfl
    · exact startMeasurement_lanes u
  have pu : t.pu = u.pu := by
    rcases eq with rfl | rfl
    · rfl
    · exact startMeasurement_pu u
  have lane (n : Slot) : t.lane n = u.lane n := by rw [State.lane, lanes]; rfl
  refine ⟨frame.phase, frame.time, frame.ref, by rw [frame.pe], frame.probe, by rw [pu]; exact quiet.device,
    fun n => by rw [lane]; exact quiet.slots n, fun n off => ⟨(lane n).trans (quiet.lane n off), ?_, ?_⟩, fun x _ => ?_,
    fun x _ => ?_, fun x other => ?_, counter, fun c other => ?_, fun m h other => ?_, fun state m h => ?_⟩
  · rw [State.input, frame.inputs]; rfl
  · rw [State.phaseOf, frame.phases]; rfl
  · rw [State.seq, frame.os]; rfl
  · rw [State.mixer, frame.mixers]; rfl
  · rw [State.protection, pu]; exact quiet.protection x other
  · rcases eq with rfl | rfl
    · exact .inl (quiet.synth c other)
    · rcases startMeasurement_cases u with same | ⟨q, rest, -, queue, -, eq⟩
      · rw [same]
        exact .inl (quiet.synth c other)
      · rw [eq]
        cases audit : q.audit with
        | true => exact .inl (quiet.synth c other)
        | false =>
          rw [if_neg Bool.false_ne_true, State.synth_setSynth]
          split
          · next same =>
            subst same
            refine .inr ⟨fun k => ?_, ?_⟩
            · have waits := k.queued q (quiet.queue q (queue ▸ List.mem_cons_self))
              rwa [audit] at waits
            · rw [← quiet.synth _ other]
          · exact .inl (quiet.synth c other)
  · have kept := quiet.held m h other
    rcases eq with rfl | rfl
    · exact kept
    · rwa [startMeasurement_rest (.inl (Option.isSome_iff_exists.mpr ⟨m, kept⟩))]
  · rcases eq with rfl | rfl
    · exact quiet.current m h
    · rw [startMeasurement_rest (.inr (.inl ((congrArg RefMonitor.state quiet.ref).trans state)))] at h
      exact quiet.current m h

theorem handOver_local (s : State) (y : Tx) : Local y s (s.handOver y) :=
  (setSeq_local ..).trans (takeWanted_local ..)

/-- A decision of lanes that are all on chain `y` reaches nothing else. -/
theorem decideLanes_local {s : State} {y : Tx} {ns : List Slot} (on : ∀ n ∈ ns, s.laneOn y n = true) :
    Local y s (s.decideLanes ns) := by
  obtain ⟨lane, mixer, phases, reads⟩ := decideLanes_spec s ns
  have only {x : Tx} (h : s.Retargets ns x) : x = y := by
    obtain ⟨n, mem, onx, -⟩ := h
    exact laneOn_unique onx (on n mem)
  refine .of_lanes reads.toLaneFrame reads.slots (fun n off => ?_) fun x other => ?_
  · have out : n ∉ ns := fun mem => by rw [on n mem] at off; cases off
    refine ⟨?_, decideLanes_input_other out, by rw [State.phaseOf, phases]; rfl⟩
    rw [lane, if_neg, State.redecided, if_neg out]
    rintro ⟨x, moves, onx⟩
    rw [only moves, off] at onx
    cases onx
  · rw [mixer, if_neg fun moves => other (only moves)]

theorem clearPhases_local (s : State) (y : Tx) : Local y s (s.clearPhases y) := by
  obtain ⟨lane, phase, inputs, mixers⟩ := clearPhases_spec s y
  refine .of_lanes (clearPhases_frame s y) (clearPhases_laneKeeps s y).slots (fun n off => ⟨?_, ?_, ?_⟩) fun x _ => ?_
  · rw [lane, if_neg (fun h => by rw [h.1] at off; cases off)]
  · rw [State.input, inputs]; rfl
  · rw [phase, if_neg (fun h => by rw [h.1] at off; cases off)]
  · rw [State.mixer, mixers]; rfl

theorem decideOn_local (s : State) (y : Tx) : Local y s (s.decideLanes (s.lanesOn y)) :=
  decideLanes_local fun _ mem => (mem_lanesOn ..).mp mem

end Local

/-! ## How lanes move -/

section LaneMoves

/-- The lanes of chain `x` and its mixer: no target has changed since the ramp values were set, or a ramp has started
from the current shares. -/
def Ramped (s t : State) (x : Tx) : Prop :=
  (t.mixer x = s.mixer x ∧
      ∀ n, s.laneOn x n = true → (t.lane n).start = (s.lane n).start ∧ (t.lane n).target = (s.lane n).target) ∨
    (t.mixer x = s.restarted x ∧ ∀ n, s.laneOn x n = true → (t.lane n).start = (s.lane n).current)

/-- From `s` to `t` lanes have changed state, target and start value, transmit words have been taken again, and phases
that waited for it reset: current shares, receive words and input records are as they were. -/
structure LaneMoves (s t : State) : Prop where
  time : t.time = s.time
  slots : ∀ n, (t.lane n).slot = (s.lane n).slot
  words : ∀ n, (t.lane n).primaryWord = (s.lane n).primaryWord ∧ (t.lane n).fallbackWord = (s.lane n).fallbackWord
  current : ∀ n, (t.lane n).current = (s.lane n).current
  unit : ∀ x, (t.mixer x).rampUnit = (s.mixer x).rampUnit
  ramped : ∀ x, Ramped s t x
  phases : ∀ n, (s.lane n).phaseReset = false → (t.lane n).phaseReset = false ∧ t.phaseOf n = s.phaseOf n
  inputs : ∀ n, { t.input n with windowVoid := true } = { s.input n with windowVoid := true }

variable {s t u : State}

theorem LaneMoves.trans (a : LaneMoves s t) (b : LaneMoves t u) : LaneMoves s u where
  time := b.time.trans a.time
  slots n := (b.slots n).trans (a.slots n)
  words n := ⟨(b.words n).1.trans (a.words n).1, (b.words n).2.trans (a.words n).2⟩
  current n := (b.current n).trans (a.current n)
  unit x := (b.unit x).trans (a.unit x)
  ramped x := by
    have on (n : Slot) (h : s.laneOn x n = true) : t.laneOn x n = true := (laneOn_congr (a.slots n) x).trans h
    rcases b.ramped x with ⟨mixer, keeps⟩ | ⟨mixer, starts⟩
    · rcases a.ramped x with ⟨mixer', keeps'⟩ | ⟨mixer', starts'⟩
      · refine .inl ⟨mixer.trans mixer', fun n h => ?_⟩
        obtain ⟨start, target⟩ := keeps n (on n h)
        obtain ⟨start', target'⟩ := keeps' n h
        exact ⟨start.trans start', target.trans target'⟩
      · exact .inr ⟨mixer.trans mixer', fun n h => (keeps n (on n h)).1.trans (starts' n h)⟩
    · refine .inr ⟨mixer.trans ?_, fun n h => (starts n (on n h)).trans (a.current n)⟩
      have unit := a.unit x
      rcases a.ramped x with ⟨same, -⟩ | ⟨same, -⟩
      · rw [State.restarted, State.restarted, same, a.time]
      · rw [State.restarted, same, a.time]
        rfl
  phases n h := by
    obtain ⟨reset, phase⟩ := a.phases n h
    obtain ⟨reset', phase'⟩ := b.phases n reset
    exact ⟨reset', phase'.trans phase⟩
  inputs n := (b.inputs n).trans (a.inputs n)

/-- An operation that changes nothing of the lanes but transmit words. -/
theorem LaneMoves.of_words (time : t.time = s.time) (mixers : t.mixers = s.mixers) (inputs : t.inputs = s.inputs)
    (phases : t.phases = s.phases)
    (words : ∀ n, { t.lane n with transmitWord := none } = { s.lane n with transmitWord := none }) : LaneMoves s t where
  time := time
  slots n := (congrArg Lane.slot (words n) :)
  words n := ⟨(congrArg Lane.primaryWord (words n) :), (congrArg Lane.fallbackWord (words n) :)⟩
  current n := (congrArg Lane.current (words n) :)
  unit x := by rw [State.mixer, mixers]; rfl
  ramped x := .inl ⟨by rw [State.mixer, mixers]; rfl,
    fun n _ => ⟨(congrArg Lane.start (words n) :), (congrArg Lane.target (words n) :)⟩⟩
  phases n h := ⟨(congrArg Lane.phaseReset (words n) :).trans h, by rw [State.phaseOf, phases]; rfl⟩
  inputs n := by rw [State.input, inputs]; rfl

/-- An operation that leaves the lanes, the mixers and the input records. -/
theorem LaneMoves.of_same (time : t.time = s.time) (mixers : t.mixers = s.mixers) (inputs : t.inputs = s.inputs)
    (phases : t.phases = s.phases) (lanes : t.lanes = s.lanes) : LaneMoves s t :=
  .of_words time mixers inputs phases fun n => by rw [State.lane, lanes]; rfl

theorem LaneMoves.refl (s : State) : LaneMoves s s := .of_same rfl rfl rfl rfl rfl

theorem notifyBoth_moves (s : State) (n : Notice) : LaneMoves s (s.notifyBoth n) := by
  rw [notifyBoth_eq]
  exact .of_same rfl rfl rfl rfl rfl

theorem takeWanted_moves (s : State) (y : Tx) (lo : Option Nat) : LaneMoves s (s.takeWanted (.tx y) lo) := by
  have frame := takeWanted_frame s (.tx y) lo
  refine .of_words frame.time frame.mixers frame.inputs frame.phases fun n => ?_
  obtain ⟨u, quiet, eq⟩ := takeWanted_quiet s y lo
  rcases eq with eq | eq
  · rw [eq]
    exact quiet.words n
  · rw [eq, State.lane, startMeasurement_lanes]
    exact quiet.words n

theorem handOver_moves (s : State) (y : Tx) : LaneMoves s (s.handOver y) :=
  .trans (.of_same (t := s.setSeq y _) rfl rfl rfl rfl rfl) (takeWanted_moves ..)

theorem decideLanes_moves (s : State) (ns : List Slot) : LaneMoves s (s.decideLanes ns) := by
  obtain ⟨lane, mixer, phases, reads⟩ := decideLanes_spec s ns
  have kept (n : Slot) := decideLanes_lane s ns n
  have decided (n : Slot) : { s.redecided ns n with state := .held, target := 0, start := 0 } =
      { s.lane n with state := .held, target := 0, start := 0 } := by
    unfold State.redecided
    split <;> rfl
  have rest (n : Slot) : { (s.decideLanes ns).lane n with state := .held, target := 0, start := 0 } =
      { s.lane n with state := .held, target := 0, start := 0 } :=
    (congrArg (fun l : Lane => { l with state := .held, target := 0 }) (kept n) :).trans (decided n)
  refine ⟨reads.time, reads.slots, fun n => ⟨(congrArg Lane.primaryWord (rest n) :), (congrArg Lane.fallbackWord (rest n) :)⟩,
    fun n => (congrArg Lane.current (rest n) :), fun x => ?_, fun x => ?_, fun n h => ⟨?_, ?_⟩, reads.inputs⟩
  · rw [mixer]
    split <;> rfl
  · by_cases moves : s.Retargets ns x
    · exact .inr (decideLanes_ramps moves)
    · obtain ⟨same, lanes⟩ := decideLanes_no_ramp moves
      refine .inl ⟨same, fun n on => ?_⟩
      rw [lanes n on, redecided_start]
      refine ⟨rfl, ?_⟩
      by_contra changed
      by_cases mem : n ∈ ns
      · exact moves ⟨n, mem, on, changed⟩
      · exact changed (by rw [State.redecided, if_neg mem])
  · exact (congrArg Lane.phaseReset (rest n) :).trans h
  · rw [State.phaseOf, phases]; rfl

theorem clearPhases_moves (s : State) (y : Tx) : LaneMoves s (s.clearPhases y) := by
  obtain ⟨lane, phase, inputs, mixers⟩ := clearPhases_spec s y
  have rest (n : Slot) : { (s.clearPhases y).lane n with phaseReset := false } = { s.lane n with phaseReset := false } := by
    rw [lane]
    split <;> rfl
  refine ⟨(clearPhases_frame s y).time, (clearPhases_laneKeeps s y).slots,
    fun n => ⟨(congrArg Lane.primaryWord (rest n) :), (congrArg Lane.fallbackWord (rest n) :)⟩,
    fun n => (congrArg Lane.current (rest n) :), fun x => ?_, fun x => .inl ⟨?_, fun n _ => ?_⟩, fun n h => ?_, fun n => ?_⟩
  · rw [State.mixer, mixers]; rfl
  · rw [State.mixer, mixers]; rfl
  · exact ⟨(congrArg Lane.start (rest n) :), (congrArg Lane.target (rest n) :)⟩
  · have calm : ¬(s.laneOn y n = true ∧ (s.lane n).phaseReset = true) := fun waits =>
      Bool.false_ne_true (h.symm.trans waits.2)
    rw [lane, phase, if_neg calm, if_neg calm]
    exact ⟨h, rfl⟩
  · rw [State.input, inputs]; rfl

/-- A lane stands as its tables say (R95, R96). -/
def State.Agrees (s : State) (n : Slot) : Prop :=
  (s.lane n).state = s.laneStateOf n ∧ (s.lane n).target = s.targetOf n (s.lane n).state

theorem decideLanes_agrees (s : State) {ns : List Slot} {n : Slot} (mem : n ∈ ns) : (s.decideLanes ns).Agrees n := by
  have reads := decideLanes_reads s ns
  rw [State.Agrees, decideLanes_state, decideLanes_target, reads.laneStateOf, reads.targetOf, State.redecided, if_pos mem]
  exact ⟨rfl, rfl⟩

end LaneMoves

/-! ## A sequencer's change of state -/

section MoveSeq

/-- The phases that wait for RAMP_UP are cleared on entry into it (R99). -/
def State.cleared (s : State) (y : Tx) (st : SeqState) : State := if st = .rampUp then s.clearPhases y else s

theorem moveSeq_eq (s : State) (y : Tx) (st : SeqState) : s.moveSeq y st =
    ((s.entered y st).cleared y st).decideLanes (((s.entered y st).cleared y st).lanesOn y) := rfl

theorem entered_local (s : State) (y : Tx) (st : SeqState) : Local y s (s.entered y st) := by
  have written : Local y s (s.written y st) := (setSeq_local ..).trans (notifyBoth_local ..)
  rcases entered_cases s y st with ⟨-, -, eq⟩ | ⟨-, eq⟩
  · rw [eq]
    exact written.trans (handOver_local ..)
  · rw [eq]
    exact written

theorem entered_moves (s : State) (y : Tx) (st : SeqState) : LaneMoves s (s.entered y st) := by
  have written : LaneMoves s (s.written y st) :=
    .trans (.of_same (t := s.setSeq y _) rfl rfl rfl rfl rfl) (notifyBoth_moves ..)
  rcases entered_cases s y st with ⟨-, -, eq⟩ | ⟨-, eq⟩
  · rw [eq]
    exact written.trans (handOver_moves ..)
  · rw [eq]
    exact written

theorem moveSeq_local (s : State) (y : Tx) (st : SeqState) : Local y s (s.moveSeq y st) := by
  rw [moveSeq_eq]
  refine ((entered_local s y st).trans ?_).trans (decideOn_local ..)
  unfold State.cleared
  split
  · exact clearPhases_local ..
  · exact .refl y _

theorem moveSeq_moves (s : State) (y : Tx) (st : SeqState) : LaneMoves s (s.moveSeq y st) := by
  rw [moveSeq_eq]
  refine ((entered_moves s y st).trans ?_).trans (decideLanes_moves ..)
  unfold State.cleared
  split
  · exact clearPhases_moves ..
  · exact .refl _

theorem settleSeq_local (fuel : Nat) (s : State) (y : Tx) : Local y s (State.settleSeq fuel s y) := by
  induction fuel generalizing s with
  | zero => exact .refl y s
  | succ fuel ih =>
    unfold State.settleSeq
    split
    · exact .refl y s
    · exact (moveSeq_local ..).trans (ih _)

theorem settleSeq_moves (fuel : Nat) (s : State) (y : Tx) : LaneMoves s (State.settleSeq fuel s y) := by
  induction fuel generalizing s with
  | zero => exact .refl s
  | succ fuel ih =>
    unfold State.settleSeq
    split
    · exact .refl s
    · exact (moveSeq_moves ..).trans (ih _)

theorem decideSeq_local (s : State) (y : Tx) : Local y s (s.decideSeq y) := by
  unfold State.decideSeq
  split
  · exact settleSeq_local ..
  · exact .refl y s

theorem decideSeq_moves (s : State) (y : Tx) : LaneMoves s (s.decideSeq y) := by
  unfold State.decideSeq
  split
  · exact settleSeq_moves ..
  · exact .refl s

/-- A lane off chain `y` still stands as its tables say after what reaches chain `y` alone. -/
theorem Local.agrees {y : Tx} {s t : State} (h : Local y s t) (sound : s.CounterSound) {n : Slot}
    (off : s.laneOn y n = false) (agrees : s.Agrees n) : t.Agrees n := by
  obtain ⟨lane, input, -⟩ := h.lane n off
  have other {e : SlotEntry} (slot : (s.lane n).slot = some e) : e.outputChain ≠ y := by
    rintro rfl
    rw [← Bool.not_eq_true, laneOn_iff] at off
    exact off ⟨e, slot, rfl⟩
  have verified (r : Rx) : t.isVerified (.rx r) = s.isVerified (.rx r) := by
    unfold State.isVerified
    rcases h.synth (.rx r) nofun with same | ⟨waits, same⟩
    · rw [same]
    · rw [same, waits sound]
      rfl
  rw [State.Agrees, lane, laneStateOf_congr (h.slots n) h.active (by rw [input]) (by rw [input])
    (fun e slot => by rw [h.seq _ (other slot)]) verified, targetOf_congr (h.slots n) h.active
    (fun e slot => by rw [h.seq _ (other slot)]) (fun e slot => by rw [h.protection _ (other slot)])]
  exact agrees

/-- A change of state decides every lane on its chain. -/
theorem moveSeq_agrees_on {s : State} {y : Tx} (st : SeqState) {n : Slot} (on : s.laneOn y n = true) :
    (s.moveSeq y st).Agrees n := by
  refine decideLanes_agrees _ ((mem_lanesOn ..).mpr ?_)
  have slots : (((s.entered y st).cleared y st).lane n).slot = (s.lane n).slot := by
    refine Eq.trans ?_ ((entered_local s y st).slots n)
    unfold State.cleared
    split
    · exact (clearPhases_laneKeeps ..).slots n
    · rfl
  exact (laneOn_congr slots y).trans on

theorem moveSeq_agrees {s : State} (sound : s.CounterSound) (y : Tx) (st : SeqState) {n : Slot}
    (agrees : s.laneOn y n = true ∨ s.Agrees n) : (s.moveSeq y st).Agrees n := by
  cases on : s.laneOn y n with
  | true => exact moveSeq_agrees_on st on
  | false => exact (moveSeq_local s y st).agrees sound on (agrees.resolve_left (by rw [on]; exact nofun))

theorem settleSeq_agrees (fuel : Nat) {s : State} (sound : s.CounterSound) (y : Tx) {n : Slot} (agrees : s.Agrees n) :
    (State.settleSeq fuel s y).Agrees n := by
  induction fuel generalizing s with
  | zero => exact agrees
  | succ fuel ih =>
    unfold State.settleSeq
    split
    · exact agrees
    · exact ih ((moveSeq_local ..).counter sound) (moveSeq_agrees sound y _ (.inr agrees))

theorem decideSeq_agrees {s : State} (sound : s.CounterSound) (y : Tx) {n : Slot} (agrees : s.Agrees n) :
    (s.decideSeq y).Agrees n := by
  unfold State.decideSeq
  split
  · exact settleSeq_agrees 4 sound y agrees
  · exact agrees

end MoveSeq

end Sys2Proof.Machine
end

section
/-! PROOFS. The rows of a sequencer's decision (R125 to R133). -/

namespace Sys2Proof.Machine

/-! ## One change of a sequencer's state that hands no LO over -/

section Stays

/-- The facts that a sequencer's decision reads, but for its own state, the mixer and the lanes' targets. -/
structure SameFacts (x : Tx) (s t : State) : Prop where
  pe : t.pe = s.pe
  syn : t.syn = s.syn
  pu : t.pu = s.pu
  fc : t.fc = s.fc
  handedOver : (t.seq x).handedOver = (s.seq x).handedOver
  retune : (t.seq x).retunePending = (s.seq x).retunePending
  slots : ∀ n, (t.lane n).slot = (s.lane n).slot
  current : ∀ n, (t.lane n).current = (s.lane n).current

variable {x : Tx} {s t u : State}

theorem SameFacts.refl (x : Tx) (s : State) : SameFacts x s s := ⟨rfl, rfl, rfl, rfl, rfl, rfl, fun _ => rfl, fun _ => rfl⟩

theorem SameFacts.trans (a : SameFacts x s t) (b : SameFacts x t u) : SameFacts x s u :=
  ⟨b.pe.trans a.pe, b.syn.trans a.syn, b.pu.trans a.pu, b.fc.trans a.fc, b.handedOver.trans a.handedOver,
    b.retune.trans a.retune,
    fun n => (b.slots n).trans (a.slots n), fun n => (b.current n).trans (a.current n)⟩

theorem SameFacts.protection (h : SameFacts x s t) (y : Tx) : t.protection y = s.protection y := by
  rw [State.protection, h.pu]
  rfl

theorem SameFacts.wantedOn (h : SameFacts x s t) : t.wantedOn x = s.wantedOn x := by
  rw [State.wantedOn, State.wantedOn, State.offCauses, State.offCauses, h.pe, h.protection, h.retune]

theorem SameFacts.tuned (h : SameFacts x s t) : t.tuned x = s.tuned x := by
  rw [State.tuned, State.tuned, State.verifiedFor, State.verifiedFor, State.isVerified, State.isVerified, State.synth,
    h.pe, h.syn]
  rfl

theorem SameFacts.currentSum (h : SameFacts x s t) : t.currentSum x = s.currentSum x := by
  rw [State.currentSum, State.currentSum, lanesOn_congr h.slots]
  exact congrArg List.sum (List.map_congr_left fun n _ => h.current n)

/-- The state as a change of sequencer state that hands no LO over leaves it. -/
theorem moveSeq_facts {st : SeqState} (stays : (s.seq x).state.live = true → st.live = true) :
    SameFacts x s (s.moveSeq x st) ∧ (s.moveSeq x st).seq x = s.enterSeq x st := by
  have eq : s.entered x st = s.written x st := by
    rcases entered_cases s x st with ⟨up, down, -⟩ | ⟨-, eq⟩
    · rw [stays up] at down
      cases down
    · exact eq
  have kept := entered_moveSeq s x st
  have moves := moveSeq_moves s x st
  have seq : (s.moveSeq x st).seq x = s.enterSeq x st := by
    rw [moveSeq_seq, eq, written_seq, if_pos rfl]
  rw [eq] at kept
  exact ⟨⟨kept.pe, kept.syn, kept.pu, kept.fc, by rw [seq]; rfl, by rw [seq]; rfl, moves.slots, moves.current⟩, seq⟩

end Stays

/-! ## The rows of the decision, state by state -/

section NextSeq
variable {s : State} {x : Tx}

theorem nextSeq_off (state : (s.seq x).state = .off) : s.nextSeq x =
    if (s.protection x).lockedOut then some .lockedOut
    else if s.wantedOn x then some (if s.tuned x then .driveSettle else .tuning) else none := by
  simp only [State.nextSeq, state]

theorem nextSeq_tuning (state : (s.seq x).state = .tuning) : s.nextSeq x =
    if (s.protection x).lockedOut then some .lockedOut
    else if !s.wantedOn x then some .off else if s.tuned x then some .driveSettle else none := by
  simp only [State.nextSeq, state]

theorem nextSeq_driveSettle (state : (s.seq x).state = .driveSettle) : s.nextSeq x =
    if !s.wantedOn x then some (if (s.protection x).lockedOut then .lockedOut else .off)
    else if (s.seq x).driveSettled && s.tuned x then some (if (s.protection x).level = 2 then .muted else .rampUp)
    else none := by
  simp only [State.nextSeq, state]

theorem nextSeq_rampUp (state : (s.seq x).state = .rampUp) : s.nextSeq x =
    if !s.wantedOn x || (s.protection x).level = 2 then some .rampDown
    else if (s.mixer x).running then none else some .onAir := by
  simp only [State.nextSeq, state]

theorem nextSeq_onAir (state : (s.seq x).state = .onAir) : s.nextSeq x =
    if !s.wantedOn x || (s.protection x).level = 2 then some .rampDown else none := by
  simp only [State.nextSeq, state]

theorem nextSeq_muted (state : (s.seq x).state = .muted) : s.nextSeq x =
    if !s.wantedOn x || (s.seq x).runDown then some .paDischarge
    else if (s.protection x).level < 2 && s.tuned x then some .rampUp else none := by
  simp only [State.nextSeq, state]

theorem nextSeq_rampDown (state : (s.seq x).state = .rampDown) : s.nextSeq x =
    if (s.wantedOn x && !(s.seq x).runDown) && (s.protection x).level < 2 && s.tuned x then some .rampUp
    else if s.currentSum x = 0 then some (if s.wantedOn x && !(s.seq x).runDown then .muted else .paDischarge)
    else none := by
  simp only [State.nextSeq, state]

theorem nextSeq_paDischarge (state : (s.seq x).state = .paDischarge) : s.nextSeq x = none := by
  simp only [State.nextSeq, state]

theorem nextSeq_lockedOut (state : (s.seq x).state = .lockedOut) : s.nextSeq x =
    if (s.protection x).lockedOut then none else some .off := by
  simp only [State.nextSeq, state]

end NextSeq

section Settle
variable {s : State} {x : Tx}

theorem settleSeq_stop (fuel : Nat) (stop : s.nextSeq x = none) : State.settleSeq fuel s x = s := by
  cases fuel with
  | zero => rfl
  | succ fuel => simp only [State.settleSeq, stop]

theorem settleSeq_next (fuel : Nat) {st : SeqState} (next : s.nextSeq x = some st) :
    State.settleSeq (fuel + 1) s x = State.settleSeq fuel (s.moveSeq x st) x := by
  simp only [State.settleSeq, next]

theorem settleSeq_one (fuel : Nat) {st : SeqState} (next : s.nextSeq x = some st)
    (stop : (s.moveSeq x st).nextSeq x = none) : State.settleSeq (fuel + 1) s x = s.moveSeq x st :=
  (settleSeq_next fuel next).trans (settleSeq_stop fuel stop)

theorem lockedOut_of_wantedOn (wanted : s.wantedOn x = true) : (s.protection x).lockedOut = false := by
  obtain ⟨-, -, lockedOut, -⟩ := (wantedOn_iff ..).mp wanted
  exact lockedOut

/-- Where a chain stands once OFF, TUNING or LOCKED_OUT has been decided on the facts of `s`. -/
def State.offState (s : State) (x : Tx) : SeqState :=
  if (s.protection x).lockedOut then .lockedOut
  else if s.wantedOn x then (if s.tuned x then .driveSettle else .tuning) else .off

theorem SameFacts.offState {t : State} (h : SameFacts x s t) : t.offState x = s.offState x := by
  rw [State.offState, State.offState, h.protection, h.wantedOn, h.tuned]

/-- A state entered on the facts of `s` from an off state, in which nothing more follows. -/
theorem offState_stop (off : (s.seq x).state.live = false) {st : SeqState} (eq : st = s.offState x) :
    SameFacts x s (s.moveSeq x st) ∧ (s.moveSeq x st).nextSeq x = none ∧
      ((s.moveSeq x st).seq x).state = (s.moveSeq x st).offState x := by
  obtain ⟨facts, seq⟩ := moveSeq_facts (s := s) (x := x) (st := st) (fun up => by rw [off] at up; cases up)
  have state : ((s.moveSeq x st).seq x).state = st := by rw [seq]; rfl
  have settled : ((s.moveSeq x st).seq x).driveSettled = false := by rw [seq]; rfl
  refine ⟨facts, ?_, by rw [state, facts.offState, eq]⟩
  rw [State.offState] at eq
  cases locked : (s.protection x).lockedOut with
  | true =>
    rw [locked, if_pos rfl] at eq
    rw [nextSeq_lockedOut (state.trans eq), facts.protection, locked, if_pos rfl]
  | false =>
    rw [locked, if_neg Bool.false_ne_true] at eq
    cases wanted : s.wantedOn x with
    | false =>
      rw [wanted, if_neg Bool.false_ne_true] at eq
      rw [nextSeq_off (state.trans eq), facts.protection, locked, facts.wantedOn, wanted, if_neg Bool.false_ne_true,
        if_neg Bool.false_ne_true]
    | true =>
      rw [wanted, if_pos rfl] at eq
      cases tuned : s.tuned x with
      | true =>
        rw [tuned, if_pos rfl] at eq
        rw [nextSeq_driveSettle (state.trans eq), facts.wantedOn, wanted, settled]
        rfl
      | false =>
        rw [tuned, if_neg Bool.false_ne_true] at eq
        rw [nextSeq_tuning (state.trans eq), facts.protection, locked, facts.wantedOn, wanted, facts.tuned, tuned]
        rfl

/-- From OFF a chain goes where its facts put it. -/
theorem settleSeq_off (fuel : Nat) (state : (s.seq x).state = .off) :
    let t := State.settleSeq (fuel + 1) s x
    SameFacts x s t ∧ (t.seq x).state = t.offState x := by
  intro t
  have off : (s.seq x).state.live = false := by rw [state]; rfl
  cases next : s.nextSeq x with
  | none =>
    have same : t = s := settleSeq_stop _ next
    rw [same]
    refine ⟨.refl x s, ?_⟩
    rw [nextSeq_off state] at next
    rw [state, State.offState]
    split at next
    · cases next
    · next free =>
      split at next
      · cases next
      · next unwanted => rw [if_neg free, if_neg unwanted]
  | some st =>
    have eq : st = s.offState x := by
      rw [nextSeq_off state] at next
      rw [State.offState]
      split at next
      · next locked => rw [if_pos locked]; exact (Option.some.inj next).symm
      · next free =>
        split at next
        · next wanted => rw [if_neg free, if_pos wanted]; exact (Option.some.inj next).symm
        · cases next
    obtain ⟨facts, stop, settled⟩ := offState_stop off eq
    have one : t = _ := settleSeq_one fuel next stop
    rw [one]
    exact ⟨facts, settled⟩

theorem settleSeq_tuning (fuel : Nat) (state : (s.seq x).state = .tuning) :
    let t := State.settleSeq (fuel + 1) s x
    SameFacts x s t ∧ (t.seq x).state = t.offState x := by
  intro t
  have off : (s.seq x).state.live = false := by rw [state]; rfl
  cases next : s.nextSeq x with
  | none =>
    have same : t = s := settleSeq_stop _ next
    rw [same]
    refine ⟨.refl x s, ?_⟩
    rw [nextSeq_tuning state] at next
    rw [state, State.offState]
    cases locked : (s.protection x).lockedOut <;> cases wanted : s.wantedOn x <;> cases tuned : s.tuned x <;>
      simp [locked, wanted, tuned] at next ⊢
  | some st =>
    have eq : st = s.offState x := by
      rw [nextSeq_tuning state] at next
      rw [State.offState]
      cases locked : (s.protection x).lockedOut <;> cases wanted : s.wantedOn x <;> cases tuned : s.tuned x <;>
        simp [locked, wanted, tuned] at next ⊢ <;> exact next.symm
    obtain ⟨facts, stop, settled⟩ := offState_stop off eq
    have one : t = _ := settleSeq_one fuel next stop
    rw [one]
    exact ⟨facts, settled⟩

theorem settleSeq_lockedOut (fuel : Nat) (state : (s.seq x).state = .lockedOut) :
    let t := State.settleSeq (fuel + 2) s x
    SameFacts x s t ∧ (t.seq x).state = t.offState x := by
  intro t
  have next := nextSeq_lockedOut state
  cases locked : (s.protection x).lockedOut with
  | true =>
    rw [locked, if_pos rfl] at next
    have same : t = s := settleSeq_stop _ next
    rw [same, state, State.offState, locked]
    exact ⟨.refl x s, rfl⟩
  | false =>
    rw [locked, if_neg Bool.false_ne_true] at next
    have first : t = State.settleSeq (fuel + 1) (s.moveSeq x .off) x := settleSeq_next _ next
    obtain ⟨facts, seq⟩ := moveSeq_facts (s := s) (x := x) (st := .off) (fun up => by rw [state] at up; cases up)
    obtain ⟨facts', settled⟩ := settleSeq_off fuel (s := s.moveSeq x .off) (x := x) (by rw [seq]; rfl)
    rw [first]
    exact ⟨facts.trans facts', settled⟩

theorem moveSeq_locked (s : State) (x : Tx) (st : SeqState) (locked : (s.protection x).lockedOut = true) :
    ((s.moveSeq x st).protection x).lockedOut = true := by
  rw [(entered_moveSeq s x st).untouched.protection_eq]
  rcases entered_cases s x st with ⟨-, -, eq⟩ | ⟨-, eq⟩
  · rw [eq]
    exact (handOver_keepsState (s.written x st) x).locked x locked
  · rw [eq]
    exact locked

/-- From DRIVE_SETTLE a chain that is not wanted on goes off, hands its tuning LO over, and then stands where the facts
so left put it. -/
theorem settleSeq_driveSettle_off (fuel : Nat) (state : (s.seq x).state = .driveSettle) (unwanted : s.wantedOn x = false) :
    let u := s.moveSeq x (if (s.protection x).lockedOut then .lockedOut else .off)
    let t := State.settleSeq (fuel + 2) s x
    SameFacts x u t ∧ (t.seq x).state = t.offState x := by
  intro u t
  have next := nextSeq_driveSettle state
  rw [unwanted] at next
  have first : t = State.settleSeq (fuel + 1) u x := settleSeq_next _ next
  rw [first]
  cases locked : (s.protection x).lockedOut with
  | true =>
    have entered : (u.seq x).state = .lockedOut := by
      rw [(moveSeq_seq_state ..).1, locked]; rfl
    have still : (u.protection x).lockedOut = true := moveSeq_locked s x _ locked
    have stop : u.nextSeq x = none := by rw [nextSeq_lockedOut entered, still, if_pos rfl]
    rw [settleSeq_stop _ stop, entered, State.offState, still]
    exact ⟨.refl x u, rfl⟩
  | false =>
    have entered : (u.seq x).state = .off := by
      rw [(moveSeq_seq_state ..).1, locked]; rfl
    exact settleSeq_off fuel entered

/-- RAMP_UP gives way to ON_AIR without a new ramp: the lanes have their targets already. -/
theorem moveSeq_onAir_mixer (state : (s.seq x).state = .rampUp) (agrees : ∀ n, s.laneOn x n = true → s.Agrees n) :
    (s.moveSeq x .onAir).mixer x = s.mixer x ∧
      ∀ n, s.laneOn x n = true → ((s.moveSeq x .onAir).lane n).target = (s.lane n).target := by
  let u := s.written x .onAir
  have eq : s.moveSeq x .onAir = u.decideLanes (u.lanesOn x) := by
    have entered : s.entered x .onAir = u := by
      rcases entered_cases s x .onAir with ⟨-, down, -⟩ | ⟨-, eq⟩
      · cases down
      · exact eq
    rw [moveSeq_eq, entered]
    rfl
  have seq (y : Tx) : u.seq y = if y = x then s.enterSeq x .onAir else s.seq y := written_seq s x y .onAir
  have target (n : Slot) (on : s.laneOn x n = true) : (u.redecided (u.lanesOn x) n).target = (s.lane n).target := by
    rw [State.redecided, if_pos ((mem_lanesOn u x n).mpr on)]
    obtain ⟨stateEq, targetEq⟩ := agrees n on
    have states : u.laneStateOf n = s.laneStateOf n := by
      refine laneStateOf_congr rfl rfl rfl rfl (fun e _ => ?_) fun _ => rfl
      rw [seq]
      split
      · next same => rw [same, state]; rfl
      · rfl
    have targets (st : LaneState) : u.targetOf n st = s.targetOf n st := by
      refine targetOf_congr (s := s) (t := u) rfl rfl (fun e _ => ?_) (fun _ _ => rfl) st
      rw [seq]
      split
      · next same => rw [same, state]; rfl
      · rfl
    exact (targets _).trans (by rw [states, ← stateEq, ← targetEq])
  have calm : ¬u.Retargets (u.lanesOn x) x := fun ⟨n, mem, on, changed⟩ => changed (target n on)
  obtain ⟨mixer, lanes⟩ := decideLanes_no_ramp calm
  rw [eq]
  exact ⟨mixer, fun n on => by rw [lanes n on, target n on]⟩

theorem moveSeq_rampUp_phases {n : Slot} (on : s.laneOn x n = true)
    (waits : (s.lane n).phaseReset = true) :
    ((s.moveSeq x .rampUp).lane n).phaseReset = false ∧ (s.moveSeq x .rampUp).phaseOf n = ⟨0, 0⟩ := by
  have entered : s.entered x .rampUp = s.written x .rampUp := by
    rcases entered_cases s x .rampUp with ⟨-, down, -⟩ | ⟨-, eq⟩
    · cases down
    · exact eq
  have eq : s.moveSeq x .rampUp = ((s.written x .rampUp).clearPhases x).decideLanes
      (((s.written x .rampUp).clearPhases x).lanesOn x) := by
    rw [moveSeq_eq, entered]
    rfl
  obtain ⟨lane, phase, -, -⟩ := clearPhases_spec (s.written x .rampUp) x
  have here : (s.written x .rampUp).laneOn x n = true ∧ ((s.written x .rampUp).lane n).phaseReset = true := ⟨on, waits⟩
  have cleared : (((s.written x .rampUp).clearPhases x).lane n).phaseReset = false := by rw [lane, if_pos here]
  rw [eq]
  obtain ⟨reset, same⟩ := (decideLanes_moves _ _).phases n cleared
  exact ⟨reset, same.trans (by rw [phase, if_pos here])⟩

/-- What rising into RAMP_UP, or at once into ON_AIR where no ramp runs, makes of `s` (R99, R128). -/
structure Rises (x : Tx) (s t : State) : Prop where
  facts : SameFacts x s t
  state : (t.seq x).state = if (t.mixer x).timer.isSome then .rampUp else .onAir
  seq : { t.seq x with state := .rampUp } = s.enterSeq x .rampUp
  onAir : (t.seq x).state = .onAir → t.mixer x = s.mixer x ∧
    ∀ n, s.laneOn x n = true → (t.lane n).target = (s.lane n).target
  agrees : ∀ n, s.laneOn x n = true → t.Agrees n
  phases : ∀ n, s.laneOn x n = true → (s.lane n).phaseReset = true →
    (t.lane n).phaseReset = false ∧ t.phaseOf n = ⟨0, 0⟩

/-- A chain that goes to RAMP_UP stays there while a ramp runs, and is ON_AIR at once where none does. -/
theorem settleSeq_rampUp (fuel : Nat) (next : s.nextSeq x = some .rampUp) (wanted : s.wantedOn x = true)
    (level : (s.protection x).level < 2) : Rises x s (State.settleSeq (fuel + 2) s x) := by
  let u := s.moveSeq x .rampUp
  obtain ⟨facts, seq⟩ := moveSeq_facts (s := s) (x := x) (st := .rampUp) fun _ => rfl
  have state : (u.seq x).state = .rampUp := by rw [seq]; rfl
  have notMute : (s.protection x).level ≠ 2 := fun two => by rw [two] at level; exact absurd level (by decide)
  have on : (!u.wantedOn x || decide ((u.protection x).level = 2)) = false := by
    rw [facts.wantedOn, wanted, facts.protection, decide_eq_false notMute]
    rfl
  rw [settleSeq_next _ next]
  have rows := nextSeq_rampUp state
  rw [on, if_neg Bool.false_ne_true] at rows
  cases running : (u.mixer x).timer.isSome with
  | true =>
    rw [Mixer.running, running, if_pos rfl] at rows
    rw [settleSeq_stop (s := u) _ rows]
    refine ⟨facts, ?_, ?_, fun onAir => ?_, fun n => moveSeq_agrees_on _, fun n => moveSeq_rampUp_phases⟩
    · rw [state, running]
      rfl
    · rw [seq]
      rfl
    · rw [state] at onAir
      cases onAir
  | false =>
    rw [Mixer.running, running, if_neg Bool.false_ne_true] at rows
    obtain ⟨facts', seq'⟩ := moveSeq_facts (s := u) (x := x) (st := .onAir) fun _ => rfl
    have state' : ((u.moveSeq x .onAir).seq x).state = .onAir := by rw [seq']; rfl
    have stop : (u.moveSeq x .onAir).nextSeq x = none := by
      rw [nextSeq_onAir state', facts'.wantedOn, facts'.protection, on]
      rfl
    have here {n : Slot} (h : s.laneOn x n = true) : u.laneOn x n = true := (laneOn_congr (facts.slots n) x).trans h
    obtain ⟨mixer, targets⟩ := moveSeq_onAir_mixer state fun n h =>
      moveSeq_agrees_on _ ((laneOn_congr (facts.slots n) x).symm.trans h)
    rw [settleSeq_one _ rows stop]
    refine ⟨facts.trans facts', (by rw [state', mixer, running]; rfl), ?_, fun _ => ?_,
      fun n h => moveSeq_agrees_on _ (here h), fun n h waits => ?_⟩
    · rw [seq', State.enterSeq, seq]
      simp [State.enterSeq, show (SeqState.rampUp == SeqState.muted) = false from rfl]
    · have rest : (u.mixer x).timer = none := Option.isSome_eq_false_iff.mp running |> Option.isNone_iff_eq_none.mp
      rcases (moveSeq_moves s x .rampUp).ramped x with ⟨same, lanes⟩ | ⟨ramp, -⟩
      · exact ⟨mixer.trans same, fun n h => (targets n (here h)).trans (lanes n h).2⟩
      · have started := congrArg Mixer.timer ramp
        rw [rest] at started
        cases started
    · obtain ⟨reset, phase⟩ := moveSeq_rampUp_phases h waits
      obtain ⟨reset', phase'⟩ := (moveSeq_moves u x .onAir).phases n reset
      exact ⟨reset', phase'.trans phase⟩

/-- A change of state after which nothing follows. -/
theorem settleSeq_last (fuel : Nat) {st : SeqState} (next : s.nextSeq x = some st)
    (stays : (s.seq x).state.live = true → st.live = true)
    (stop : ∀ t, SameFacts x s t → t.seq x = s.enterSeq x st → t.nextSeq x = none) :
    let t := State.settleSeq (fuel + 1) s x
    SameFacts x s t ∧ t.seq x = s.enterSeq x st := by
  intro t
  obtain ⟨facts, seq⟩ := moveSeq_facts (s := s) (x := x) stays
  have eq : t = s.moveSeq x st := settleSeq_one fuel next (stop _ facts seq)
  rw [eq]
  exact ⟨facts, seq⟩

theorem SameFacts.paDischarge (fuel : Nat) (next : s.nextSeq x = some .paDischarge) :
    let t := State.settleSeq (fuel + 1) s x
    SameFacts x s t ∧ t.seq x = s.enterSeq x .paDischarge :=
  settleSeq_last fuel next (fun _ => rfl) fun _ _ seq => nextSeq_paDischarge (by rw [seq]; rfl)

/-- A chain that falls to MUTED stays there unless it is to run down or may rise again. -/
theorem settleSeq_muted (fuel : Nat) (next : s.nextSeq x = some .muted) (wanted : s.wantedOn x = true)
    (keeps : (s.seq x).runDown = false ∨ (s.seq x).state ≠ .rampDown)
    (low : (s.protection x).level = 2 ∨ s.tuned x = false) :
    let t := State.settleSeq (fuel + 1) s x
    SameFacts x s t ∧ t.seq x = s.enterSeq x .muted := by
  refine settleSeq_last fuel next (fun _ => rfl) fun t facts seq => ?_
  have runDown : (t.seq x).runDown = false := by
    rw [seq]
    change ((s.seq x).runDown && (s.seq x).state == .rampDown && _) = false
    rcases keeps with no | other
    · rw [no]; rfl
    · rw [show ((s.seq x).state == SeqState.rampDown) = false from beq_eq_false_iff_ne.mpr other, Bool.and_false]; rfl
  rw [nextSeq_muted (by rw [seq]; rfl), facts.wantedOn, wanted, runDown, facts.protection, facts.tuned]
  rcases low with two | untuned
  · rw [two]; rfl
  · rw [untuned, Bool.and_false]; rfl

/-- A chain in RAMP_DOWN that is not to turn back waits for zero. -/
theorem settleSeq_rampDown (fuel : Nat) (state : (s.seq x).state = .rampDown)
    (down : (s.wantedOn x && !(s.seq x).runDown) = false ∨ (s.protection x).level = 2 ∨ s.tuned x = false) :
    let t := State.settleSeq (fuel + 1) s x
    SameFacts x s t ∧ t.seq x =
      if s.currentSum x = 0 then
        s.enterSeq x (if s.wantedOn x && !(s.seq x).runDown then .muted else .paDischarge)
      else s.seq x := by
  intro t
  have rows := nextSeq_rampDown state
  have low : (s.wantedOn x && !(s.seq x).runDown && decide ((s.protection x).level < 2) && s.tuned x) = false := by
    rcases down with no | two | untuned
    · rw [no]; rfl
    · rw [two, Bool.and_right_comm]; exact Bool.and_false _
    · rw [untuned, Bool.and_false]
  rw [low, if_neg Bool.false_ne_true] at rows
  split
  · next zero =>
    rw [if_pos zero] at rows
    cases stays : s.wantedOn x && !(s.seq x).runDown with
    | false =>
      rw [stays] at rows
      exact SameFacts.paDischarge fuel rows
    | true =>
      rw [stays] at rows
      rw [stays] at down
      rw [Bool.and_eq_true, Bool.not_eq_true'] at stays
      exact settleSeq_muted fuel rows stays.1 (.inl stays.2) (down.resolve_left nofun)
  · next loud =>
    rw [if_neg loud] at rows
    have same : t = s := settleSeq_stop _ rows
    rw [same]
    exact ⟨.refl x s, rfl⟩

/-- A chain on air that a level of 2 or a going-off cause takes down. -/
theorem settleSeq_down (fuel : Nat) (up : (s.seq x).state = .rampUp ∨ (s.seq x).state = .onAir)
    (falls : s.wantedOn x = false ∨ (s.protection x).level = 2) :
    let t := State.settleSeq (fuel + 2) s x
    SameFacts x s t ∧ (t.seq x).state =
      (if s.currentSum x = 0 then (if s.wantedOn x then .muted else .paDischarge) else .rampDown) ∧
      ((t.seq x).state = .paDischarge → (t.seq x).dischargeTimer = s.afterSteps (s.seq x).paDischarge) := by
  intro t
  have fall : (!s.wantedOn x || decide ((s.protection x).level = 2)) = true := by
    rcases falls with no | two
    · rw [no]; rfl
    · rw [two]; exact Bool.or_true _
  have next : s.nextSeq x = some .rampDown := by
    rcases up with state | state
    · rw [nextSeq_rampUp state, fall, if_pos rfl]
    · rw [nextSeq_onAir state, fall, if_pos rfl]
  obtain ⟨facts, seq⟩ := moveSeq_facts (s := s) (x := x) (st := .rampDown) fun _ => rfl
  let u := s.moveSeq x .rampDown
  have state : (u.seq x).state = .rampDown := by rw [seq]; rfl
  have runDown : (u.seq x).runDown = false := by
    rw [seq]
    change ((s.seq x).runDown && _ && SeqState.rampDown == .muted) = false
    exact Bool.and_false _
  have time : u.time = s.time := (moveSeq_moves s x .rampDown).time
  have delay : (u.seq x).paDischarge = (s.seq x).paDischarge := by rw [seq]; rfl
  have first : t = State.settleSeq (fuel + 1) u x := settleSeq_next _ next
  obtain ⟨facts', seq'⟩ := settleSeq_rampDown fuel (s := u) (x := x) state
    (falls.imp (fun no => by rw [facts.wantedOn, no]; rfl) fun two => .inl (by rw [facts.protection, two]))
  rw [first]
  refine ⟨facts.trans facts', ?_⟩
  rw [seq', facts.currentSum, facts.wantedOn, runDown]
  split
  · refine ⟨?_, fun discharge => ?_⟩
    · cases s.wantedOn x <;> rfl
    · cases wanted : s.wantedOn x with
      | true =>
        rw [wanted] at discharge
        cases discharge
      | false =>
        change u.afterSteps (u.seq x).paDischarge = _
        rw [State.afterSteps, time, delay]
        rfl
  · exact ⟨state, fun discharge => by rw [state] at discharge; cases discharge⟩

end Settle

/-! ## A decision of a sequencer (R125 to R130, R133) -/

section Decided
variable {s : State} {x : Tx}

theorem decideSeq_running (running : s.phase = .running) : s.decideSeq x = State.settleSeq 4 s x := if_pos running

theorem moveSeq_told (s : State) (x : Tx) (st : SeqState) (p : Port) : (s.moveSeq x st).told p .chainChanged := by
  have written : (s.written x st).told p .chainChanged := notifyBoth_told ..
  have entered : (s.entered x st).told p .chainChanged := by
    rcases entered_cases s x st with ⟨-, -, eq⟩ | ⟨-, eq⟩
    · rw [eq]
      exact (handOver_heeds ..).told _ _ written
    · rw [eq]
      exact written
  rw [moveSeq_eq]
  refine (decideLanes_reads _ _).toLaneFrame.heeds.told _ _ ?_
  unfold State.cleared
  split
  · exact (clearPhases_frame ..).heeds.told _ _ entered
  · exact entered

theorem settleSeq_told (fuel : Nat) (s : State) (x : Tx) (moved : State.settleSeq fuel s x ≠ s) (p : Port) :
    (State.settleSeq fuel s x).told p .chainChanged := by
  cases fuel with
  | zero => exact absurd rfl moved
  | succ fuel =>
    cases next : s.nextSeq x with
    | none => exact absurd (settleSeq_stop _ next) moved
    | some st =>
      rw [settleSeq_next _ next]
      exact (settleSeq_heeds ..).told _ _ (moveSeq_told ..)

theorem decideSeq_told (moved : ((s.decideSeq x).seq x).state ≠ (s.seq x).state) (p : Port) :
    (s.decideSeq x).told p .chainChanged := by
  have changed : s.decideSeq x ≠ s := fun same => moved (by rw [same])
  unfold State.decideSeq at changed ⊢
  split
  · next running =>
    rw [if_pos running] at changed
    exact settleSeq_told 4 s x changed p
  · next off =>
    rw [if_neg off] at changed
    exact absurd rfl changed

/-- A decision of a chain in OFF, TUNING, LOCKED_OUT, or going off from DRIVE_SETTLE. -/
theorem decideSeq_off (running : s.phase = .running)
    (off : (s.seq x).state = .off ∨ (s.seq x).state = .tuning ∨ (s.seq x).state = .lockedOut ∨
      (s.seq x).state = .driveSettle ∧ s.wantedOn x = false) :
    ((s.decideSeq x).seq x).state = (s.decideSeq x).offState x := by
  rw [decideSeq_running running]
  rcases off with state | state | state | ⟨state, unwanted⟩
  · exact (settleSeq_off 3 state).2
  · exact (settleSeq_tuning 3 state).2
  · exact (settleSeq_lockedOut 2 state).2
  · exact (settleSeq_driveSettle_off 2 state unwanted).2

/-- A decision of a chain that has tuned and settled its drive (R127). -/
theorem decideSeq_settled (running : s.phase = .running) (state : (s.seq x).state = .driveSettle)
    (wanted : s.wantedOn x = true) (settled : (s.seq x).driveSettled = true) (tuned : s.tuned x = true) :
    let t := s.decideSeq x
    ((s.protection x).level = 2 → SameFacts x s t ∧ t.seq x = s.enterSeq x .muted) ∧
      ((s.protection x).level < 2 → Rises x s t) := by
  have next := nextSeq_driveSettle state
  rw [wanted, settled, tuned] at next
  rw [decideSeq_running running]
  refine ⟨fun two => ?_, fun low => ?_⟩
  · rw [two] at next
    exact settleSeq_muted 3 next wanted (.inr (by rw [state]; nofun)) (.inl two)
  · have notMute : (s.protection x).level ≠ 2 := fun two => by rw [two] at low; exact absurd low (by decide)
    exact settleSeq_rampUp 2 (next.trans (congrArg some (if_neg notMute))) wanted low

theorem decideSeq_waits (state : (s.seq x).state = .driveSettle) (wanted : s.wantedOn x = true)
    (waits : (s.seq x).driveSettled = false ∨ s.tuned x = false) : s.decideSeq x = s := by
  unfold State.decideSeq
  split
  · refine settleSeq_stop 4 ?_
    have not : ((s.seq x).driveSettled && s.tuned x) = false := by
      rcases waits with no | no
      · rw [no]; rfl
      · rw [no, Bool.and_false]
    rw [nextSeq_driveSettle state, wanted, not]
    rfl
  · rfl

theorem decideSeq_stop (stop : s.nextSeq x = none) : s.decideSeq x = s := by
  unfold State.decideSeq
  split
  · exact settleSeq_stop 4 stop
  · rfl

theorem offCause_of_unwanted (unwanted : s.wantedOn x = false) (y : Bool) : (!s.wantedOn x || y) = true := by
  rw [unwanted]
  rfl

theorem level_not_two {l : Level} (low : l < 2) : decide (l = 2) = false :=
  decide_eq_false fun two => by rw [two] at low; exact absurd low (by decide)

/-- What a decision of a sequencer makes of a running part, row by row. -/
theorem decideSeq_decided (running : s.phase = .running) : SeqDecided s (s.decideSeq x) x where
  off off := decideSeq_off running off
  driveSettle state wanted := by
    refine ⟨fun settled tuned => ?_, fun waits => by rw [decideSeq_waits state wanted waits, state]⟩
    obtain ⟨muted, up⟩ := decideSeq_settled running state wanted settled tuned
    exact ⟨fun two => by rw [(muted two).2]; rfl, fun low => (up low).state⟩
  rampUp state wanted low := by
    have rows := nextSeq_rampUp state
    rw [wanted, level_not_two low] at rows
    rw [decideSeq_running running]
    cases ramp : (s.mixer x).timer.isSome with
    | true =>
      rw [Mixer.running, ramp] at rows
      rw [settleSeq_stop _ rows, state]
      rfl
    | false =>
      rw [Mixer.running, ramp] at rows
      obtain ⟨-, seq⟩ := settleSeq_last 3 rows (fun _ => rfl) fun t facts seq => by
        rw [nextSeq_onAir (by rw [seq]; rfl), facts.wantedOn, wanted, facts.protection, level_not_two low]
        rfl
      rw [seq]
      rfl
  onAir state wanted low := by
    have rows := nextSeq_onAir state
    rw [wanted, level_not_two low] at rows
    rw [decideSeq_stop rows, state]
  level2 up wanted two := by
    obtain ⟨-, state, -⟩ := settleSeq_down 2 up (.inr two)
    rw [decideSeq_running running, state, wanted]
    rfl
  down up unwanted := by
    rw [decideSeq_running running]
    rcases up with state | state | state
    · obtain ⟨-, eq, -⟩ := settleSeq_down 2 (.inl state) (.inl unwanted)
      rw [eq, unwanted]
      rfl
    · obtain ⟨-, eq, -⟩ := settleSeq_down 2 (.inr state) (.inl unwanted)
      rw [eq, unwanted]
      rfl
    · obtain ⟨-, seq⟩ := settleSeq_rampDown 3 state (.inl (by rw [unwanted]; rfl))
      rw [seq, unwanted]
      split
      · rfl
      · exact state
  rampDown state wanted keeps := by
    rw [decideSeq_running running]
    refine ⟨fun low tuned => ?_, fun high => ?_⟩
    · have rows := nextSeq_rampDown state
      rw [wanted, keeps, decide_eq_true low, tuned] at rows
      exact (settleSeq_rampUp 2 rows wanted low).state
    · obtain ⟨-, seq⟩ := settleSeq_rampDown 3 state (.inr high)
      rw [seq, wanted, keeps]
      split
      · rfl
      · exact state
  muted state wanted keeps := by
    have rows := nextSeq_muted state
    refine ⟨fun low tuned => ?_, fun high => ?_⟩
    · rw [wanted, keeps, decide_eq_true low, tuned] at rows
      rw [decideSeq_running running]
      exact (settleSeq_rampUp 2 rows wanted low).state
    · have not : (decide ((s.protection x).level < 2) && s.tuned x) = false := by
        rcases high with two | no
        · rw [two]; rfl
        · rw [no, Bool.and_false]
      rw [wanted, keeps, not] at rows
      rw [decideSeq_stop rows, state]
  mutedOff state unwanted := by
    have rows := nextSeq_muted state
    rw [offCause_of_unwanted unwanted, if_pos rfl] at rows
    rw [decideSeq_running running, (SameFacts.paDischarge 3 rows).2]
    rfl
  runDown down wanted := by
    rw [decideSeq_running running]
    refine ⟨fun state => ?_, fun state => ?_⟩
    · have rows := nextSeq_muted state
      rw [down, Bool.or_true, if_pos rfl] at rows
      rw [(SameFacts.paDischarge 3 rows).2]
      rfl
    · have turned : (s.wantedOn x && !(s.seq x).runDown) = false := by rw [down, Bool.not_true, Bool.and_false]
      obtain ⟨-, seq⟩ := settleSeq_rampDown 3 state (.inl turned)
      rw [seq, turned]
      split
      · rfl
      · exact state
  paDischarge state := by rw [decideSeq_stop (nextSeq_paDischarge state), state]
  told := decideSeq_told
  others y other := decideSeq_seq_other s other

end Decided

end Sys2Proof.Machine
end

section
/-! PROOFS. The expiries of a sequencer (O49, O50) and RESTORE_CHAIN (O25). -/

namespace Sys2Proof.Machine

/-! ## What passes through the passing of time -/

section Time
variable {s t : State} {x : Tx}

theorem TimeFrame.sameFacts (h : TimeFrame s t) (x : Tx) : SameFacts x s t where
  pe := h.pe
  syn := h.syn
  pu := h.pu
  fc := h.fc
  handedOver := by rw [h.untouched.seq_eq]
  retune := by rw [h.untouched.seq_eq]
  slots n := by rw [State.lane, h.lanes]; rfl
  current n := by rw [State.lane, h.lanes]; rfl

theorem TimeFrame.lane_eq (h : TimeFrame s t) (n : Slot) : t.lane n = s.lane n := by
  rw [State.lane, h.lanes]
  rfl

theorem TimeFrame.laneOn_eq (h : TimeFrame s t) (x : Tx) (n : Slot) : t.laneOn x n = s.laneOn x n :=
  laneOn_congr (by rw [h.lane_eq]) x

theorem TimeFrame.mixer_eq (h : TimeFrame s t) (x : Tx) : t.mixer x = s.mixer x := by
  rw [State.mixer, h.mixers]
  rfl

/-- A sequencer's own timers and notes written: its decision reads the same facts. -/
theorem setSeq_facts {q : Sequencer} (handedOver : q.handedOver = (s.seq x).handedOver)
    (retune : q.retunePending = (s.seq x).retunePending) : SameFacts x s (s.setSeq x q) where
  pe := rfl
  syn := rfl
  pu := rfl
  fc := rfl
  handedOver := by rw [setSeq_seq, if_pos rfl, handedOver]
  retune := by rw [setSeq_seq, if_pos rfl, retune]
  slots _ := rfl
  current _ := rfl

/-- A decision on facts that it leaves reaches only lanes, mixers, phases, the chain's sequencer and the notices. -/
theorem SameFacts.laneFrame (h : SameFacts x s t) (frame : SeqFrame s t) (probe : t.probe = s.probe) :
    LaneFrame { s with os := t.os, ports := t.ports } t :=
  ⟨frame.phase, frame.time, frame.ref, h.pe, h.syn, h.fc, probe, rfl, h.pu, frame.store, frame.supply, rfl, frame.draws,
    frame.pending⟩

end Time

theorem level_low_or_two {l : Level} (h : l ≠ 3) : l < 2 ∨ l = 2 := by
  revert h
  revert l
  decide

/-! ## The two expiries of a sequencer (R127, R130) -/

/-- Settles O49. -/
theorem driveSettleExamined : Obligations.DriveSettleExamined := by
  intro s x d timer running state wanted u
  have time : TimeFrame s u := advanceTo_frame s d
  let v := u.setSeq x { s.seq x with settleTimer := none, driveSettled := true }
  have facts : SameFacts x u v :=
    setSeq_facts (by rw [time.untouched.seq_eq]) (by rw [time.untouched.seq_eq])
  have here : SameFacts x s v := (time.sameFacts x).trans facts
  have seq : v.seq x = { s.seq x with settleTimer := none, driveSettled := true } := by rw [setSeq_seq, if_pos rfl]
  have ready : (v.seq x).state = .driveSettle := by rw [seq]; exact state
  have wanted' : v.wantedOn x = true := here.wantedOn.trans wanted
  have exec_eq : exec (.driveSettleExpiry x) s = .next (v.decideSeq x) := by
    change execDriveSettleExpiry x s = _
    simp only [execDriveSettleExpiry, timer]
    change Host.Outcome.next ((u.setSeq x { u.seq x with settleTimer := none, driveSettled := true }).decideSeq x) = _
    rw [time.untouched.seq_eq]
  refine ⟨fun untuned => ?_, fun tuned => ⟨v.decideSeq x, exec_eq, ?_⟩⟩
  · rw [exec_eq, decideSeq_waits ready wanted' (.inr (here.tuned.trans untuned))]
  · have local' := decideSeq_local v x
    have running' : v.phase = .running := time.phase.trans running
    obtain ⟨muted, rises⟩ := decideSeq_settled running' ready wanted' (by rw [seq]) (here.tuned.trans tuned)
    rw [here.protection] at muted rises
    let t := v.decideSeq x
    have frame : SeqFrame v t := decideSeq_frame v x
    have laneFrame (k : SameFacts x v t) : LaneFrame { u with os := t.os, ports := t.ports } t :=
      k.laneFrame frame local'.probe
    have others (y : Tx) (other : y ≠ x) : t.seq y = s.seq y := by
      rw [local'.seq y other, setSeq_seq, if_neg other, time.untouched.seq_eq]
    obtain ⟨-, level, -⟩ := (wantedOn_iff s x).mp wanted
    rcases level_low_or_two level with low | two
    · have up := rises low
      have timers := congrArg Sequencer.settleTimer up.seq
      have settled := congrArg Sequencer.driveSettled up.seq
      have moved : (t.seq x).state ≠ (v.seq x).state := by
        rw [up.state, ready]
        split <;> nofun
      have moves := decideSeq_moves v x
      have on {n : Slot} (h : s.laneOn x n = true) : v.laneOn x n = true := (laneOn_congr (here.slots n) x).trans h
      refine ⟨laneFrame up.facts, timers, settled, others, decideSeq_told moved, fun two => ?_, fun _ => ?_⟩
      · rw [two] at low
        exact absurd low (lt_irrefl _)
      · refine ⟨?_, ?_, fun onAir => ?_, fun n h => ?_⟩
        · rw [up.state]
          split
          · exact .inl rfl
          · exact .inr rfl
        · rw [up.state]
          cases (t.mixer x).timer.isSome <;> simp
        · obtain ⟨mixer, targets⟩ := up.onAir onAir
          exact ⟨mixer.trans (time.mixer_eq x), fun n h =>
            (targets n (on h)).trans (congrArg Lane.target (time.lane_eq n))⟩
        · obtain ⟨laneState, target⟩ := up.agrees n (on h)
          refine ⟨laneState, target, (moves.current n).trans (here.current n), fun waits => ?_⟩
          exact up.phases n (on h) ((congrArg Lane.phaseReset (time.lane_eq n)).trans waits)
    · obtain ⟨facts', seq'⟩ := muted two
      have entered : (t.seq x).state = .muted := by rw [seq']; rfl
      have moved : (t.seq x).state ≠ (v.seq x).state := by
        rw [entered, ready]
        nofun
      refine ⟨laneFrame facts', by rw [seq']; rfl, by rw [seq']; rfl, others, decideSeq_told moved, fun _ => entered,
        fun low => ?_⟩
      rw [two] at low
      exact absurd low (lt_irrefl _)

theorem offState_paOff (s : State) (x : Tx) : (s.offState x).paOn = false ∧ s.offState x ≠ .paDischarge := by
  unfold State.offState
  split
  · exact ⟨rfl, nofun⟩
  · split
    · split
      · exact ⟨rfl, nofun⟩
      · exact ⟨rfl, nofun⟩
    · exact ⟨rfl, nofun⟩

/-- The sequencer of a chain that has just handed its tuning LO over on its way off the air (R124). -/
theorem moveSeq_handsOver {s : State} {x : Tx} {st : SeqState} (live : (s.seq x).state.live = true)
    (off : st.live = false) : let t := s.moveSeq x st
    t.seq x = { s.enterSeq x st with handedOver := s.pe.active.tuningLo x, retunePending := false } ∧
      t.SequencerOk x := by
  have eq : s.entered x st = (s.written x st).handOver x := by
    rcases entered_cases s x st with ⟨-, -, eq⟩ | ⟨stays, -⟩
    · exact eq
    · rw [stays live] at off
      cases off
  have seq : (s.moveSeq x st).seq x =
      { s.enterSeq x st with handedOver := s.pe.active.tuningLo x, retunePending := false } := by
    rw [moveSeq_seq, eq, handOver_seq, if_pos rfl, written_seq, if_pos rfl]
    rfl
  refine ⟨seq, ?_, ?_⟩
  · rw [seq]
    exact enterSeq_sound s x _ nofun
  · have untouched := (entered_moveSeq s x st).untouched
    rw [seq, untouched.synth_eq, eq, handOver_wanted]
    rfl

/-- Settles O50. -/
theorem paDischargeEnds : Obligations.PaDischargeEnds := by
  intro s x d timer running state
  let u := s.advanceTo d
  have time : TimeFrame s u := advanceTo_frame s d
  have live : (u.seq x).state.live = true := by rw [time.untouched.seq_eq, state]; rfl
  let st : SeqState := if (u.protection x).lockedOut then .lockedOut else .off
  have off : st.live = false := by
    change SeqState.live (if _ then _ else _) = _
    split <;> rfl
  let v := u.moveSeq x st
  let t := v.decideSeq x
  obtain ⟨seq, ok⟩ := moveSeq_handsOver live off
  have entered : (v.seq x).state = st := by rw [seq]; rfl
  have running' : v.phase = .running := ((moveSeq_frame u x st).phase.trans time.phase).trans running
  have decided : SameFacts x v t ∧ (t.seq x).state = t.offState x := by
    rw [show t = State.settleSeq 4 v x from decideSeq_running running']
    cases locked : (u.protection x).lockedOut with
    | true => exact settleSeq_lockedOut 2 (by rw [entered]; exact if_pos locked)
    | false =>
      exact settleSeq_off 3 (by rw [entered]; exact if_neg (by rw [locked]; exact Bool.false_ne_true))
  obtain ⟨facts, settled⟩ := decided
  obtain ⟨sound, handed⟩ := (decideSeq_keeps v x).sequencer x ok
  obtain ⟨paOff, notDischarge⟩ := offState_paOff t x
  have handedOver : (t.seq x).handedOver = s.pe.active.tuningLo x := by
    rw [facts.handedOver, seq, time.pe]
  refine ⟨t, ?_, (moveSeq_frame u x st).trans (decideSeq_frame v x), handedOver, by rw [facts.retune, seq], ?_, ?_,
    fun l lo => ?_, fun q => (decideSeq_heeds v x).told _ _ (moveSeq_told ..), fun locked => ?_,
    fun free unwanted => ?_, fun free wanted => ?_⟩
  · change execPaDischargeExpiry x s = _
    simp only [execPaDischargeExpiry, timer]
    rfl
  · cases discharge : (t.seq x).dischargeTimer with
    | none => rfl
    | some e => exact absurd (settled.symm.trans (sound.discharge.mp (by rw [discharge]; rfl))) notDischarge
  · rw [settled, paOff]
  · rw [← handed, handedOver, lo]
  · rw [settled, State.offState, if_pos locked]
  · rw [settled, State.offState, if_neg (by rw [free]; exact Bool.false_ne_true),
      if_neg (by rw [unwanted]; exact Bool.false_ne_true)]
  · rw [settled, State.offState, if_neg (by rw [free]; exact Bool.false_ne_true), if_pos wanted]

/-! ## RESTORE_CHAIN (R147) -/

theorem txOfCode_chainCode (x : Tx) : txOfCode (byteAt (byte (chainCode (.tx x))) 0) = some x := by
  cases x <;> rfl

theorem txOfCode_eq_none {n : Nat} (h : n < 2 ∨ 5 < n) : txOfCode n = none := by
  rcases h with low | high
  · interval_cases n <;> rfl
  · obtain ⟨k, rfl⟩ : ∃ k, n = k + 6 := ⟨n - 6, by omega⟩
    rfl

/-- The lockout taken out of the set, and its SITE write and notice. -/
def State.restored (s : State) (x : Tx) : State := (s.unlocked x).requestSite.notifyBoth .chainChanged

theorem restored_outside (s : State) (x : Tx) : Outside (s.unlocked x) (s.restored x) :=
  (requestSite_outside _).trans (notifyBoth_outside ..)

theorem restored_protection (s : State) (x : Tx) :
    (s.restored x).protection x = { s.protection x with trips := [], lockedOut := false } := by
  rw [State.protection, (restored_outside s x).pu]
  exact PerTx.get_put_same ..

/-- The sequencer's decision on the removal of a lockout (R126, R129, R130, R133). -/
theorem lockoutRemoved_decided {w : State} {x : Tx} (running : w.phase = .running)
    (free : (w.protection x).lockedOut = false) :
    let t := (w.setSeq x (w.seq x).lockoutRemoved).decideSeq x
    ((w.seq x).state = .lockedOut ∨ (w.seq x).state = .rampDown ∨ (w.seq x).state = .paDischarge →
      t.protection x = w.protection x) ∧
    ((w.seq x).state = .lockedOut →
      (t.seq x).state = (if w.wantedOn x = true then
        (if w.tuned x = true then .driveSettle else .tuning) else .off)) ∧
    ((w.seq x).state = .rampDown →
      (t.seq x).state = (if w.currentSum x = 0 then .paDischarge else .rampDown)) ∧
    ((w.seq x).state = .paDischarge → t.seq x = w.seq x) := by
  intro t
  let v := w.setSeq x (w.seq x).lockoutRemoved
  have facts : SameFacts x w v := setSeq_facts rfl rfl
  have seq : v.seq x = (w.seq x).lockoutRemoved := by rw [setSeq_seq, if_pos rfl]
  have same : (v.seq x).state = (w.seq x).state := by rw [seq]; rfl
  have decided : t = State.settleSeq 4 v x := decideSeq_running running
  have leaves (state : (w.seq x).state = .lockedOut) : SameFacts x v t ∧ (t.seq x).state = t.offState x := by
    rw [decided]
    exact settleSeq_lockedOut 2 (same.trans state)
  have falls (state : (w.seq x).state = .rampDown) : SameFacts x v t ∧
      (t.seq x).state = if w.currentSum x = 0 then .paDischarge else .rampDown := by
    have turned : (v.wantedOn x && !(v.seq x).runDown) = false := by
      rw [seq, Sequencer.lockoutRemoved, state]
      simp
    obtain ⟨facts', seq'⟩ := settleSeq_rampDown 3 (same.trans state) (.inl turned)
    rw [decided]
    refine ⟨facts', ?_⟩
    rw [seq', turned, facts.currentSum]
    split
    · rfl
    · exact same.trans state
  have stays (state : (w.seq x).state = .paDischarge) : t = v := decideSeq_stop (nextSeq_paDischarge (same.trans state))
  refine ⟨?_, fun state => ?_, fun state => (falls state).2, fun state => ?_⟩
  · rintro (state | state | state)
    · exact ((leaves state).1.protection x).trans (facts.protection x)
    · exact ((falls state).1.protection x).trans (facts.protection x)
    · rw [stays state]
      exact facts.protection x
  · obtain ⟨facts', eq⟩ := leaves state
    rw [eq, (facts.trans facts').offState, State.offState, if_neg (by rw [free]; exact Bool.false_ne_true)]
  · have down : ((w.seq x).runDown || (w.seq x).state == .rampDown) = (w.seq x).runDown := by
      rw [state]
      exact Bool.or_false _
    rw [stays state, seq, Sequencer.lockoutRemoved, down]

/-- Settles O25. -/
theorem restoreChainClears : Obligations.RestoreChainClears := by
  intro s p tag fill running own u
  have served (b : Byte) {t : State} {status : Status} {reply : List Byte}
      (h : serve .restoreChain p [b] u = (t, ⟨status, reply⟩)) :
      exec (.restoreChain p tag ⟨[b], fill⟩) s = .next (t.answered p 0x0D tag status reply) :=
    exec_of_serve (k := .restoreChain) tag running nofun (fun _ => own) rfl h
  refine ⟨fun b out => served b ?_, ?_⟩
  · simp only [serve, serveRestoreChain]
    rw [show txOfCode (byteAt [b] 0) = none from txOfCode_eq_none out]
    rfl
  · intro x c v w
    have reply : serve .restoreChain p (byte (chainCode (.tx x))) u =
        (u.restore x, .ok (byte c.lockedOut.toNat ++ byte c.trips.length)) := by
      simp only [serve, serveRestoreChain, txOfCode_chainCode]
      rfl
    refine ⟨fun free => served _ ?_, fun locked => ?_⟩
    · refine reply.trans ?_
      rw [restore_eq, if_neg (by rw [show (u.protection x).lockedOut = false from free]; exact Bool.false_ne_true), free]
      rfl
    · intro t
      have eq : u.restore x = t := by
        rw [restore_eq, if_pos locked]
        rfl
      refine ⟨served _ ?_, ?_⟩
      · refine reply.trans ?_
        rw [eq, locked]
        rfl
      · have phase : (u.restored x).phase = .running :=
          (restored_outside u x).phase.trans ((framed_frame s p _).phase.trans running)
        have protection := restored_protection u x
        have decided := lockoutRemoved_decided phase (by rw [protection])
        rw [protection] at decided
        exact decided

end Sys2Proof.Machine
end

section
/-! PROOFS. S and its cause; what a sequencer's hand-over withdraws from its chain's conditions. -/

namespace Sys2Proof.Machine

/-! ## The conditions present, S and its cause (R139, R140, R143) -/

section Severity
variable (v : Severities) (d : DeviceConditions) (c : ChainConditions)

theorem mem_allConditions (k : Condition) : k ∈ allConditions := by
  cases k <;> decide

theorem foldl_max_spec {f : Condition → Level} (l : List Condition) (acc : Level) :
    let top := l.foldl (fun acc k => max acc (f k)) acc
    acc ≤ top ∧ (∀ k ∈ l, f k ≤ top) ∧ (top = acc ∨ ∃ k ∈ l, f k = top) := by
  induction l generalizing acc with
  | nil => exact ⟨le_rfl, nofun, .inl rfl⟩
  | cons k l ih =>
    obtain ⟨above, each, met⟩ := ih (max acc (f k))
    refine ⟨(le_max_left ..).trans above, fun j mem => ?_, ?_⟩
    · rcases List.mem_cons.mp mem with rfl | mem
      · exact (le_max_right ..).trans above
      · exact each j mem
    · rcases met with met | ⟨j, mem, eq⟩
      · rcases max_choice acc (f k) with left | right
        · exact .inl (met.trans left)
        · exact .inr ⟨k, List.mem_cons_self, (met.trans right).symm⟩
      · exact .inr ⟨j, List.mem_cons_of_mem k mem, eq⟩

theorem mem_presentKinds (k : Condition) : k ∈ presentKinds d c ↔ isPresent d c k = true := by
  rw [presentKinds, List.mem_filter]
  exact and_iff_right (mem_allConditions k)

/-- No kind present is more severe than S. -/
theorem of_le_highestSeverity {k : Condition} (present : isPresent d c k = true) :
    v.of k ≤ highestSeverity v d c := by
  obtain ⟨-, each, -⟩ := foldl_max_spec (f := v.of) (presentKinds d c) 0
  exact each k ((mem_presentKinds d c k).mpr present)

/-- S is the severity of a kind present, or 0. -/
theorem highestSeverity_attained :
    (∃ k, isPresent d c k = true ∧ v.of k = highestSeverity v d c) ∨
      (∀ k, isPresent d c k = false) ∧ highestSeverity v d c = 0 := by
  obtain ⟨-, -, met⟩ := foldl_max_spec (f := v.of) (presentKinds d c) 0
  rcases met with zero | ⟨k, mem, eq⟩
  · by_cases h : ∃ k, isPresent d c k = true
    · obtain ⟨k, present⟩ := h
      have low := of_le_highestSeverity v d c present
      rw [show highestSeverity v d c = 0 from zero] at low ⊢
      exact .inl ⟨k, present, le_antisymm low (Fin.zero_le _)⟩
    · exact .inr ⟨fun k => Bool.eq_false_iff.mpr fun present => h ⟨k, present⟩, zero⟩
  · exact .inl ⟨k, (mem_presentKinds d c k).mp mem, eq⟩

/-- Fewer conditions, no higher S. -/
theorem highestSeverity_mono {d' : DeviceConditions} {c' : ChainConditions}
    (less : ∀ k, isPresent d' c' k = true → isPresent d c k = true) : highestSeverity v d' c' ≤ highestSeverity v d c := by
  rcases highestSeverity_attained v d' c' with ⟨k, present, eq⟩ | ⟨-, zero⟩
  · exact eq ▸ of_le_highestSeverity v d c (less k present)
  · rw [zero]
    exact Fin.zero_le _

theorem topCondition_eq : topCondition v d c =
    allConditions.find? fun k => isPresent d c k && decide (v.of k = highestSeverity v d c) := by
  rw [topCondition, presentKinds, List.find?_filter]
  congr 1
  funext k
  rw [Bool.decide_and, Bool.decide_eq_true, Bool.decide_eq_true]
  rfl

end Severity

/-! ## A decision that raises no level -/

/-- Where S is not above the level, a decision leaves the level, the trip list and the lockout (R141, R142). -/
theorem ChainProtection.decide_calm {c : ChainProtection} {v : Severities} {d : DeviceConditions}
    (calm : highestSeverity v d c.present ≤ c.level) (l : Limits) (now seconds : Nat) :
    let c' := c.decide v l d now seconds
    c'.level = c.level ∧ c'.trips = c.trips ∧ c'.lockedOut = c.lockedOut := by
  intro c'
  rcases c.decide_cases v l d now seconds with ⟨above, -⟩ | ⟨-, eq⟩ | ⟨-, -, eq⟩ | ⟨-, -, eq⟩
  · exact absurd above (not_lt.mpr calm)
  all_goals
    rw [show c' = _ from eq]
    exact ⟨rfl, rfl, rfl⟩

/-! ## What a sequencer's hand-over withdraws (R74, R83) -/

section Withdraws
variable {y : Tx} {s t u : State}

/-- A chain's protection is as it was, or has been decided again with its synthesizer no longer FAILED, and lost only
where it was lost. -/
def Withdraws (y : Tx) (s t : State) : Prop :=
  t.protection y = s.protection y ∨
    ∃ p : ChainConditions, p.paFault = (s.protection y).present.paFault ∧
      p.paWarning = (s.protection y).present.paWarning ∧ p.txLoUnverified = false ∧
      (p.txLoLost = true → (s.synth (.tx y)).lost = true) ∧
      t.protection y = ChainProtection.decide { s.protection y with present := p } s.severities s.limits s.pu.device
        s.time.steps s.time.seconds

theorem Withdraws.of_pu (pu : t.pu = s.pu) : Withdraws y s t := .inl (by rw [State.protection, pu]; rfl)

theorem Withdraws.after (h : Withdraws y s t) (pu : u.pu = t.pu) : Withdraws y s u := by
  have same : u.protection y = t.protection y := by rw [State.protection, pu]; rfl
  rw [Withdraws, same]
  exact h

theorem Withdraws.before (pu : t.pu = s.pu) (active : t.pe.active = s.pe.active) (time : t.time = s.time)
    (lost : (t.synth (.tx y)).lost = (s.synth (.tx y)).lost) (h : Withdraws y t u) : Withdraws y s u := by
  have same : t.protection y = s.protection y := by rw [State.protection, pu]; rfl
  rw [Withdraws, same, State.severities, State.limits, active, time, pu, lost] at h
  exact h

theorem withdrawSynth_withdraws (pu : t.pu = s.pu) (active : t.pe.active = s.pe.active) (time : t.time = s.time)
    (lost : (t.synth (.tx y)).lost = true → (s.synth (.tx y)).lost = true) (state : (t.synth (.tx y)).state ≠ .failed) :
    Withdraws y s (t.withdrawSynth (.tx y)) := by
  have same : t.protection y = s.protection y := by rw [State.protection, pu]; rfl
  unfold State.withdrawSynth
  dsimp only
  split
  · exact .inl same
  · refine .inr ⟨(t.synth (.tx y)).conditions (s.protection y).present, rfl, rfl, beq_eq_false_iff_ne.mpr state, lost, ?_⟩
    rw [State.decideProtection, State.protection_setProtection_same, State.protection_setProtection_same, same]
    change ChainProtection.decide _ t.pe.active.severities t.pe.active.limits t.pu.device _ _ = _
    rw [active, pu]
    change ChainProtection.decide _ _ _ _ t.time.steps t.time.seconds = _
    rw [time]
    rfl

theorem takeWanted_withdraws (s : State) (y : Tx) (lo : Option Nat) : Withdraws y s (s.takeWanted (.tx y) lo) := by
  unfold State.takeWanted
  split
  · exact .of_pu rfl
  cases lo with
  | some l =>
    change Withdraws y s (s.takeLo (.tx y) l)
    rcases takeLo_cases s (.tx y) l with ⟨-, eq⟩ | ⟨-, eq⟩ | ⟨-, -, eq⟩
    · rw [eq]
      split <;> exact .of_pu rfl
    · rw [eq]
      split <;> exact .of_pu rfl
    · rw [eq]
      refine Withdraws.after ?_ (startMeasurement_pu _)
      let x : SynContext := { (s.dropCycle (.tx y)).synth (.tx y) with wanted := some l, attempts := 0 }
      have synth : (((s.dropCycle (.tx y)).setSynth (.tx y) x).startProgramming (.tx y)).synth (.tx y) = x.programming := by
        rw [startProgramming_eq, State.synth_setSynth_same, State.synth_setSynth_same]
      refine withdrawSynth_withdraws rfl rfl rfl (fun lost => ?_) ?_
      · rw [synth] at lost
        exact (congrArg SynContext.lost (dropCycle_synth s (.tx y))).symm.trans lost
      · rw [synth]
        nofun
  | none =>
    change Withdraws y s (s.takeNone (.tx y))
    rcases takeNone_cases s (.tx y) with ⟨-, eq⟩ | ⟨-, eq⟩ | ⟨-, -, eq⟩
    · rw [eq]
      exact .of_pu rfl
    · rw [eq]
      split <;> exact .of_pu rfl
    · rw [eq]
      refine Withdraws.after ?_ (startMeasurement_pu _)
      let u := s.dropCycle (.tx y)
      have frame := refreshWords_laneKeeps (u.setSynth (.tx y) (u.synth (.tx y)).idled) (.tx y)
      have synth : ((u.setSynth (.tx y) (u.synth (.tx y)).idled).refreshWords (.tx y)).synth (.tx y) = _ :=
        frame.untouched.synth_eq _
      rw [State.synth_setSynth_same] at synth
      rw [goIdle_eq]
      refine withdrawSynth_withdraws frame.pu (by rw [frame.pe]; rfl) frame.time (fun lost => ?_) ?_
      · rw [synth] at lost
        cases lost
      · rw [synth]
        nofun

theorem handOver_withdraws (s : State) (y : Tx) : Withdraws y s (s.handOver y) :=
  takeWanted_withdraws ..

theorem moveSeq_withdraws (s : State) (y : Tx) (st : SeqState) : Withdraws y s (s.moveSeq y st) := by
  refine Withdraws.after ?_ (entered_moveSeq s y st).pu
  rcases entered_cases s y st with ⟨-, -, eq⟩ | ⟨-, eq⟩
  · rw [eq]
    exact (handOver_withdraws (s.written y st) y).before rfl rfl rfl rfl
  · rw [eq]
    exact .of_pu rfl

/-- A decision hands an LO over only from DRIVE_SETTLE, to a chain that is not wanted on (R124, R127). -/
theorem decideSeq_pu (notSettling : (s.seq y).state ≠ .driveSettle ∨ s.wantedOn y = true) : (s.decideSeq y).pu = s.pu := by
  unfold State.decideSeq
  split
  · cases state : (s.seq y).state with
    | off => exact (settleSeq_off 3 state).1.pu
    | tuning => exact (settleSeq_tuning 3 state).1.pu
    | lockedOut => exact (settleSeq_lockedOut 2 state).1.pu
    | driveSettle =>
      have wanted := notSettling.resolve_left (absurd state)
      have rows := nextSeq_driveSettle state
      rw [wanted] at rows
      split at rows
      · next unwanted => cases unwanted
      · split at rows
        · split at rows
          · next two => exact (settleSeq_muted 3 rows wanted (.inr (by rw [state]; nofun)) (.inl two)).1.pu
          · next other =>
            obtain ⟨-, level, -⟩ := (wantedOn_iff s y).mp wanted
            exact (settleSeq_rampUp 2 rows wanted ((level_low_or_two level).resolve_right other)).facts.pu
        · rw [settleSeq_stop 4 rows]
    | rampUp => exact settleSeq_pu_of_airborne 4 (.inl (by rw [state]; rfl))
    | onAir => exact settleSeq_pu_of_airborne 4 (.inl (by rw [state]; rfl))
    | muted => exact settleSeq_pu_of_airborne 4 (.inl (by rw [state]; rfl))
    | rampDown => exact settleSeq_pu_of_airborne 4 (.inl (by rw [state]; rfl))
    | paDischarge => exact settleSeq_pu_of_airborne 4 (.inr state)
  · rfl

theorem decideSeq_withdraws (s : State) (y : Tx) : Withdraws y s (s.decideSeq y) := by
  by_cases notSettling : (s.seq y).state ≠ .driveSettle ∨ s.wantedOn y = true
  · exact .of_pu (decideSeq_pu notSettling)
  · rw [not_or, not_not, Bool.not_eq_true] at notSettling
    obtain ⟨state, unwanted⟩ := notSettling
    unfold State.decideSeq
    split
    · exact (moveSeq_withdraws s y _).after (settleSeq_driveSettle_off 2 state unwanted).1.pu
    · exact .of_pu rfl

/-- What is withdrawn leaves the amplifier's conditions. -/
theorem Withdraws.amplifier (h : Withdraws y s t) :
    (t.protection y).present.paFault = (s.protection y).present.paFault ∧
      (t.protection y).present.paWarning = (s.protection y).present.paWarning := by
  rcases h with same | ⟨p, fault, warning, -, -, eq⟩
  · rw [same]
    exact ⟨rfl, rfl⟩
  · obtain ⟨present, -⟩ := ChainProtection.decide_keeps { s.protection y with present := p } s.severities s.limits
      s.pu.device s.time.steps s.time.seconds
    rw [eq, present]
    exact ⟨fault, warning⟩

/-- At level 3, or with a level that covers S and the conditions its synthesizer's, a withdrawal leaves the level, the trip
list and the lockout. -/
theorem Withdraws.calm (h : Withdraws y s t) (covered : (s.protection y).level = 3 ∨ s.LevelOk y ∧ s.ConditionsOk y) :
    (t.protection y).level = (s.protection y).level ∧ (t.protection y).trips = (s.protection y).trips ∧
      (t.protection y).lockedOut = (s.protection y).lockedOut := by
  rcases h with same | ⟨p, fault, warning, unverified, lost, eq⟩
  · rw [same]
    exact ⟨rfl, rfl, rfl⟩
  · rw [eq]
    refine ChainProtection.decide_calm (c := { s.protection y with present := p }) ?_ _ _ _
    rcases covered with three | ⟨⟨highest, level⟩, conditions⟩
    · rw [three]
      exact Fin.le_last _
    · refine le_trans (highestSeverity_mono s.severities s.pu.device (s.protection y).present fun k present => ?_)
        (highest ▸ level)
      have agrees : (s.protection y).present.txLoLost = (s.synth (.tx y)).lost :=
        (congrArg ChainConditions.txLoLost conditions).symm
      cases k with
      | txLoLost => exact agrees.trans (lost present)
      | txLoUnverified => exact absurd (unverified.symm.trans present) Bool.false_ne_true
      | paFault => exact fault.symm.trans present
      | paWarning => exact warning.symm.trans present
      | refAbsent => exact present
      | refExpired => exact present
      | supplyWarning => exact present
      | refHoldover => exact present
      | linksSilent => exact present

end Withdraws

end Sys2Proof.Machine
end

section
/-! PROOFS. What a decision of a chain's protection sets off, and what it leaves. -/

namespace Sys2Proof.Machine

/-! ## What a change of a chain's protection sets off (R144, R146) -/

section Protect
variable {x : Tx} {s t u : State}

/-- The level or the lockout of a chain differs. -/
def State.levelMoved (before s : State) (x : Tx) : Bool :=
  ((before.protection x).level != (s.protection x).level) ||
    ((before.protection x).lockedOut != (s.protection x).lockedOut)

/-- The notices, the SITE write and the probation failure of a changed level or lockout. -/
def State.announced (before s : State) (x : Tx) : State :=
  (s.tellChange (State.levelMoved before s x)).tellLockout
    ((before.protection x).lockedOut != (s.protection x).lockedOut)

theorem handProtection_eq (before s : State) (x : Tx) : State.handProtection before s x =
    (State.announced before s x).tellChain x (State.levelMoved before s x) := rfl

theorem levelMoved_eq_false {before s : State} (level : (s.protection x).level = (before.protection x).level)
    (lockedOut : (s.protection x).lockedOut = (before.protection x).lockedOut) :
    State.levelMoved before s x = false := by
  rw [State.levelMoved, level, lockedOut, bne_self_eq_false, bne_self_eq_false]
  rfl

theorem levelMoved_of_level {before s : State} (level : (before.protection x).level ≠ (s.protection x).level) :
    State.levelMoved before s x = true := by
  rw [State.levelMoved, bne_iff_ne.mpr level]
  rfl

/-- `t` is `s` but for its notices, the store and a failed probation. -/
structure Announces (s t : State) : Prop where
  same : t = { s with pe := t.pe, store := t.store, ports := t.ports }
  active : t.pe.active = s.pe.active

theorem Announces.refl (s : State) : Announces s s := ⟨rfl, rfl⟩

theorem Announces.trans (a : Announces s t) (b : Announces t u) : Announces s u := by
  refine ⟨?_, b.active.trans a.active⟩
  obtain ⟨b, -⟩ := b
  obtain ⟨a, -⟩ := a
  generalize t.pe = pe, t.store = store, t.ports = ports at a
  subst a
  exact b

theorem Announces.field (h : Announces s t) : t.phase = s.phase ∧ t.time = s.time ∧ t.syn = s.syn ∧ t.fc = s.fc ∧
    t.os = s.os ∧ t.pu = s.pu ∧ t.lanes = s.lanes ∧ t.mixers = s.mixers ∧ t.inputs = s.inputs ∧ t.phases = s.phases ∧
    t.ref = s.ref ∧ t.probe = s.probe := by
  obtain ⟨same, -⟩ := h
  generalize t.pe = pe, t.store = store, t.ports = ports at same
  subst same
  exact ⟨rfl, rfl, rfl, rfl, rfl, rfl, rfl, rfl, rfl, rfl, rfl, rfl⟩

theorem notifyBoth_announces (s : State) (n : Notice) : Announces s (s.notifyBoth n) := ⟨rfl, rfl⟩

theorem requestSite_announces (s : State) : Announces s s.requestSite := by
  rw [requestSite_eq]
  exact ⟨rfl, rfl⟩

theorem probationFailure_announces (s : State) : Announces s s.probationFailure := by
  unfold State.probationFailure
  split
  · dsimp only
    split <;> exact ⟨rfl, rfl⟩
  · exact .refl s

theorem announced_announces (before s : State) (x : Tx) : Announces s (State.announced before s x) := by
  refine .trans (t := s.tellChange (State.levelMoved before s x)) ?_ ?_
  · unfold State.tellChange
    split
    · exact notifyBoth_announces ..
    · exact .refl s
  · change Announces _ (State.tellLockout _ _)
    unfold State.tellLockout
    split
    · exact (requestSite_announces _).trans (probationFailure_announces _)
    · exact .refl _

theorem Announces.pu (h : Announces s t) : t.pu = s.pu := by
  obtain ⟨-, -, -, -, -, pu, -⟩ := h.field
  exact pu

theorem Announces.synth_eq (h : Announces s t) (c : Chain) : t.synth c = s.synth c := by
  obtain ⟨-, -, syn, -⟩ := h.field
  rw [State.synth, syn]
  rfl

theorem Announces.seq_eq (h : Announces s t) (y : Tx) : t.seq y = s.seq y := by
  obtain ⟨-, -, -, -, os, -⟩ := h.field
  rw [State.seq, os]
  rfl

theorem Announces.lane_eq (h : Announces s t) (n : Slot) : t.lane n = s.lane n := by
  obtain ⟨-, -, -, -, -, -, lanes, -⟩ := h.field
  rw [State.lane, lanes]
  rfl

theorem Announces.protection_eq (h : Announces s t) (y : Tx) : t.protection y = s.protection y := by
  rw [State.protection, h.pu]
  rfl

theorem Announces.local (h : Announces s t) (x : Tx) : Local x s t := by
  refine .of_rest ?_ h.active (by rw [h.pu]) (fun y _ => h.seq_eq y) fun y _ => h.protection_eq y
  obtain ⟨-, -, -, -, os, pu, -⟩ := h.field
  rw [os, pu]
  exact h.same

theorem Announces.moves (h : Announces s t) : LaneMoves s t := by
  obtain ⟨-, time, -, -, -, -, lanes, mixers, inputs, phases, -⟩ := h.field
  exact .of_same time mixers inputs phases lanes

theorem Announces.wantedOn (h : Announces s t) : t.wantedOn x = s.wantedOn x := by
  rw [State.wantedOn, State.wantedOn, State.offCauses, State.offCauses, h.active, h.protection_eq, h.seq_eq]

theorem Announces.tuned (h : Announces s t) : t.tuned x = s.tuned x := by
  rw [State.tuned, State.tuned, State.verifiedFor, State.verifiedFor, State.isVerified, State.isVerified, h.synth_eq,
    h.active]

theorem Announces.currentSum (h : Announces s t) : t.currentSum x = s.currentSum x := by
  rw [State.currentSum, State.currentSum, lanesOn_congr (s := s) (t := t) fun n => by rw [h.lane_eq]]
  exact congrArg List.sum (List.map_congr_left fun n _ => congrArg Lane.current (h.lane_eq n))

theorem tellChain_local (s : State) (x : Tx) (b : Bool) : Local x s (s.tellChain x b) := by
  unfold State.tellChain
  split
  · exact (decideOn_local ..).trans (decideSeq_local ..)
  · exact .refl x s

theorem tellChain_moves (s : State) (x : Tx) (b : Bool) : LaneMoves s (s.tellChain x b) := by
  unfold State.tellChain
  split
  · exact (decideLanes_moves ..).trans (decideSeq_moves ..)
  · exact .refl s

theorem tellChain_withdraws (s : State) (x : Tx) (b : Bool) : Withdraws x s (s.tellChain x b) := by
  unfold State.tellChain
  split
  · have frame := decideLanes_frame s (s.lanesOn x)
    exact (decideSeq_withdraws ..).before frame.pu (by rw [frame.pe]) frame.time (by rw [frame.untouched.synth_eq])
  · exact .of_pu rfl

theorem handProtection_local (before s : State) (x : Tx) : Local x s (State.handProtection before s x) :=
  ((announced_announces before s x).local x).trans (tellChain_local ..)

theorem handProtection_moves (before s : State) (x : Tx) : LaneMoves s (State.handProtection before s x) :=
  (announced_announces before s x).moves.trans (tellChain_moves ..)

theorem handProtection_withdraws (before s : State) (x : Tx) : Withdraws x s (State.handProtection before s x) := by
  have announces := announced_announces before s x
  obtain ⟨-, time, -⟩ := announces.field
  exact (tellChain_withdraws ..).before announces.pu announces.active time (by rw [announces.synth_eq])

theorem handProtection_pu {before s : State} (notSettling : (s.seq x).state ≠ .driveSettle) :
    (State.handProtection before s x).pu = s.pu := by
  have announces := announced_announces before s x
  rw [handProtection_eq, State.tellChain]
  split
  · have frame := decideLanes_frame (State.announced before s x) ((State.announced before s x).lanesOn x)
    rw [decideSeq_pu (.inl (by rw [frame.untouched.seq_eq, announces.seq_eq]; exact notSettling)), frame.pu, announces.pu]
  · exact announces.pu

/-- A change that adds no lockout writes nothing. -/
theorem handProtection_store {before s : State} (lockedOut : (s.protection x).lockedOut = (before.protection x).lockedOut) :
    (State.handProtection before s x).store = s.store ∧ (State.handProtection before s x).pe = s.pe := by
  have frame := (tellChange_frame s (State.levelMoved before s x)).trans
    (tellChain_frame (s.tellChange (State.levelMoved before s x)) x (State.levelMoved before s x))
  have eq : State.announced before s x = s.tellChange (State.levelMoved before s x) := by
    rw [State.announced, lockedOut, bne_self_eq_false]
    rfl
  rw [handProtection_eq, eq]
  exact ⟨frame.store, frame.pe⟩

theorem handProtection_still {before s : State} (level : (s.protection x).level = (before.protection x).level)
    (lockedOut : (s.protection x).lockedOut = (before.protection x).lockedOut) :
    State.handProtection before s x = s := by
  have still := levelMoved_eq_false level lockedOut
  rw [handProtection_eq, State.announced, still, lockedOut, bne_self_eq_false]
  rfl

/-- What a moved level or lockout makes of the chain's lanes and sequencer. -/
theorem handProtection_moved {before s : State} (moved : State.levelMoved before s x = true) :
    let w := State.announced before s x
    State.handProtection before s x = (w.decideLanes (w.lanesOn x)).decideSeq x ∧ ∀ p, w.told p .chainChanged := by
  intro w
  rw [handProtection_eq, moved]
  refine ⟨rfl, fun p => (tellLockout_heeds ..).told p _ ?_⟩
  rw [moved]
  exact notifyBoth_told ..

theorem handProtection_told {before s : State} (moved : State.levelMoved before s x = true) (p : Port) :
    (State.handProtection before s x).told p .chainChanged := by
  obtain ⟨eq, told⟩ := handProtection_moved moved
  rw [eq]
  exact (decideSeq_heeds ..).told _ _ ((decideLanes_frame ..).heeds.told _ _ (told p))

/-- The chain's protection as it is decided (R140 to R146). -/
def State.judged (s : State) (x : Tx) : ChainProtection :=
  (s.protection x).decide s.severities s.limits s.pu.device s.time.steps s.time.seconds

theorem decideProtection_protection (s : State) (x y : Tx) :
    (s.decideProtection x).protection y = if y = x then s.judged x else s.protection y :=
  State.protection_setProtection ..

theorem decideProtection_local (s : State) (x : Tx) : Local x s (s.decideProtection x) := setProtection_local ..

theorem protect_local (s : State) (x : Tx) : Local x s (s.protect x) :=
  (decideProtection_local ..).trans (handProtection_local ..)

theorem protect_moves (s : State) (x : Tx) : LaneMoves s (s.protect x) :=
  LaneMoves.trans (t := s.decideProtection x) (.of_same rfl rfl rfl rfl rfl) (handProtection_moves s ..)

theorem protect_withdraws (s : State) (x : Tx) : Withdraws x (s.decideProtection x) (s.protect x) :=
  handProtection_withdraws ..

theorem protect_protection (notSettling : (s.seq x).state ≠ .driveSettle) : (s.protect x).protection x = s.judged x := by
  have pu : (s.protect x).pu = (s.decideProtection x).pu := handProtection_pu notSettling
  rw [State.protection, pu]
  exact (decideProtection_protection s x x).trans (if_pos rfl)

/-- Where S does not pass the level, a decision of it is handed to no one. -/
theorem protect_calm (calm : highestSeverity s.severities s.pu.device (s.protection x).present ≤ (s.protection x).level) :
    s.protect x = s.decideProtection x := by
  obtain ⟨level, -, lockedOut⟩ := ChainProtection.decide_calm calm s.limits s.time.steps s.time.seconds
  have judged : (s.decideProtection x).protection x = s.judged x := (decideProtection_protection s x x).trans (if_pos rfl)
  exact handProtection_still (by rw [judged]; exact level) (by rw [judged]; exact lockedOut)

end Protect

/-! ## The fields of a sequencer that no decision of it writes -/

section Fixed
variable {x : Tx} {s t u : State}

/-- The samples and the delays of a sequencer. -/
def Sequencer.fixed (q : Sequencer) : Bool × Bool × Nat × Nat :=
  (q.faultSample, q.warningSample, q.driveSettle, q.paDischarge)

theorem moveSeq_fixed (s : State) (x : Tx) (st : SeqState) : ((s.moveSeq x st).seq x).fixed = (s.seq x).fixed := by
  rw [moveSeq_seq]
  rcases entered_cases s x st with ⟨-, -, eq⟩ | ⟨-, eq⟩
  · rw [eq, handOver_seq, if_pos rfl, written_seq, if_pos rfl]
    rfl
  · rw [eq, written_seq, if_pos rfl]
    rfl

theorem settleSeq_fixed (fuel : Nat) (s : State) (x : Tx) : ((State.settleSeq fuel s x).seq x).fixed = (s.seq x).fixed := by
  induction fuel generalizing s with
  | zero => rfl
  | succ fuel ih =>
    cases next : s.nextSeq x with
    | none => rw [settleSeq_stop _ next]
    | some st => rw [settleSeq_next _ next, ih, moveSeq_fixed]

theorem decideSeq_fixed (s : State) (x : Tx) : ((s.decideSeq x).seq x).fixed = (s.seq x).fixed := by
  unfold State.decideSeq
  split
  · exact settleSeq_fixed 4 s x
  · rfl

theorem tellChain_fixed (s : State) (x : Tx) (b : Bool) : ((s.tellChain x b).seq x).fixed = (s.seq x).fixed := by
  unfold State.tellChain
  split
  · rw [decideSeq_fixed, (decideLanes_frame ..).untouched.seq_eq]
  · rfl

theorem protect_fixed (s : State) (x : Tx) : ((s.protect x).seq x).fixed = (s.seq x).fixed := by
  rw [State.protect, handProtection_eq, tellChain_fixed, (announced_announces ..).seq_eq]
  rfl

/-- A chain that comes to PA_DISCHARGE waits for its delay (R130). -/
theorem settleSeq_discharges (fuel : Nat) (other : (s.seq x).state ≠ .paDischarge)
    (here : ((State.settleSeq fuel s x).seq x).state = .paDischarge) :
    ((State.settleSeq fuel s x).seq x).dischargeTimer = s.afterSteps (s.seq x).paDischarge := by
  induction fuel generalizing s with
  | zero => exact absurd here other
  | succ fuel ih =>
    cases next : s.nextSeq x with
    | none =>
      rw [settleSeq_stop _ next] at here
      exact absurd here other
    | some st =>
      rw [settleSeq_next _ next] at here ⊢
      by_cases discharge : st = .paDischarge
      · obtain ⟨-, seq⟩ := moveSeq_facts (s := s) (x := x) (st := st) fun _ => by rw [discharge]; rfl
        rw [settleSeq_stop fuel (nextSeq_paDischarge (by rw [seq]; exact discharge)), seq]
        exact if_pos discharge
      · rw [ih (by rw [(moveSeq_seq_state s x st).1]; exact discharge) here]
        have delay := congrArg (fun f => f.2.2.2) (moveSeq_fixed s x st)
        change State.afterSteps _ (Sequencer.paDischarge _) = _
        rw [State.afterSteps, (moveSeq_moves s x st).time]
        exact congrArg (fun d => some (s.time.steps + d)) delay

/-- The lanes of a chain that agree with their tables go on agreeing, whatever its sequencer decides. -/
theorem settleSeq_agrees_on (fuel : Nat) (agrees : ∀ n, s.laneOn x n = true → s.Agrees n) {n : Slot}
    (on : s.laneOn x n = true) : (State.settleSeq fuel s x).Agrees n := by
  induction fuel generalizing s with
  | zero => exact agrees n on
  | succ fuel ih =>
    cases next : s.nextSeq x with
    | none =>
      rw [settleSeq_stop _ next]
      exact agrees n on
    | some st =>
      rw [settleSeq_next _ next]
      have slots := (moveSeq_moves s x st).slots
      exact ih (fun m on' => moveSeq_agrees_on st ((laneOn_congr (slots m) x).symm.trans on'))
        ((laneOn_congr (slots n) x).trans on)

end Fixed

end Sys2Proof.Machine
end

section
/-! PROOFS. The conditions of a chain and the amplifier inputs (O51). -/

namespace Sys2Proof.Machine

/-! ## S and its cause (R139, R140, R143) -/

/-- The kinds in rank order, each with whether it is present and its severity. -/
def conditionRows (v : Severities) (d : DeviceConditions) (c : ChainConditions) : List (Bool × Level × Condition) :=
  allConditions.map fun k => (isPresent d c k, v.of k, k)

theorem mem_conditionRows (v : Severities) (d : DeviceConditions) (c : ChainConditions) (r : Bool × Level × Condition) :
    r ∈ conditionRows v d c ↔ isPresent d c r.2.2 = r.1 ∧ v.of r.2.2 = r.2.1 := by
  obtain ⟨present, severity, k⟩ := r
  rw [conditionRows, List.mem_map]
  constructor
  · rintro ⟨j, -, eq⟩
    cases eq
    exact ⟨rfl, rfl⟩
  · rintro ⟨isPresent, of⟩
    exact ⟨k, mem_allConditions k, Prod.ext isPresent (Prod.ext of rfl)⟩

theorem topCondition_rows (v : Severities) (d : DeviceConditions) (c : ChainConditions) : topCondition v d c =
    ((conditionRows v d c).find? fun k => k.1 && decide (k.2.1 = highestSeverity v d c)).map fun k => k.2.2 := by
  rw [topCondition_eq, conditionRows, List.find?_map, Option.map_map]
  exact Option.map_id'.symm

/-! ## A decision spelled out (R141 to R143, R145, R146) -/

/-- What a decision makes of the level, the hold and the cause. -/
theorem ChainProtection.decide_spec (c : ChainProtection) (v : Severities) (l : Limits) (d : DeviceConditions)
    (now seconds : Nat) :
    let top := highestSeverity v d c.present
    let cause := topCondition v d c.present
    let p := c.decide v l d now seconds
    p.present = c.present ∧ p.highest = top ∧
      (c.level < top → p.level = top ∧ p.hold = none ∧ p.holding = false ∧ p.cause = cause) ∧
      (top = c.level → p.level = c.level ∧ p.hold = none ∧ p.holding = false ∧ p.cause = cause) ∧
      (top < c.level → p.level = c.level ∧ p.holding = true ∧ p.cause = c.cause ∧
        p.hold = (if c.highest < top ∨ (top < c.highest ∧ c.hold = none)
          then some (now + 100 * l.recoveryHold) else c.hold)) := by
  intro top cause p
  obtain ⟨present, highest, -⟩ := c.decide_keeps v l d now seconds
  refine ⟨present, highest, ?_⟩
  rcases c.decide_cases v l d now seconds with ⟨above, eq⟩ | ⟨equal, eq⟩ | ⟨below, restart, eq⟩ | ⟨below, runs, eq⟩
  · refine ⟨fun _ => ?_, fun equal => absurd above (equal ▸ lt_irrefl _), fun below => absurd above below.asymm⟩
    rw [show p = _ from eq]
    split
    · obtain ⟨-, -, level, hold, cause, holding⟩ := ChainProtection.trip_keeps
        { c with highest := highestSeverity v d c.present, level := highestSeverity v d c.present, hold := none,
                 cause := topCondition v d c.present, holding := false } l seconds
      exact ⟨level, hold, holding, cause⟩
    · exact ⟨rfl, rfl, rfl, rfl⟩
  · refine ⟨fun above => absurd above (equal ▸ lt_irrefl _), fun _ => ?_, fun below => absurd below (equal ▸ lt_irrefl _)⟩
    rw [show p = _ from eq]
    exact ⟨rfl, rfl, rfl, rfl⟩
  · refine ⟨fun above => absurd above below.asymm, fun equal => absurd below (equal ▸ lt_irrefl _), fun _ => ?_⟩
    rw [show p = _ from eq, if_pos restart]
    exact ⟨rfl, rfl, rfl, rfl⟩
  · refine ⟨fun above => absurd above below.asymm, fun equal => absurd below (equal ▸ lt_irrefl _), fun _ => ?_⟩
    rw [show p = _ from eq, if_neg runs]
    exact ⟨rfl, rfl, rfl, rfl⟩

/-! ## A change of a chain's conditions (R134, R139 to R143) -/

section Conditions
variable {s : State} {x : Tx} {c : ChainConditions}

theorem setPresent_same (same : c = (s.protection x).present) : s.setPresent x c = s := if_pos same

/-- The chain with its new conditions written, before they are decided. -/
def State.withPresent (s : State) (x : Tx) (c : ChainConditions) : State :=
  s.setProtection x { s.protection x with present := c }

theorem setPresent_new (new : c ≠ (s.protection x).present) : s.setPresent x c = (s.withPresent x c).protect x :=
  if_neg new

theorem withPresent_protection (s : State) (x : Tx) (c : ChainConditions) :
    (s.withPresent x c).protection x = { s.protection x with present := c } := State.protection_setProtection_same ..

theorem setPresent_local (s : State) (x : Tx) (c : ChainConditions) : Local x s (s.setPresent x c) := by
  by_cases same : c = (s.protection x).present
  · rw [setPresent_same same]
    exact .refl x s
  · rw [setPresent_new same]
    exact (setProtection_local ..).trans (protect_local ..)

theorem setPresent_fixed (s : State) (x : Tx) (c : ChainConditions) :
    ((s.setPresent x c).seq x).fixed = (s.seq x).fixed := by
  by_cases same : c = (s.protection x).present
  · rw [setPresent_same same]
  · rw [setPresent_new same, protect_fixed]
    rfl

theorem setPresent_amplifier (s : State) (x : Tx) (c : ChainConditions) :
    ((s.setPresent x c).protection x).present.paFault = c.paFault ∧
      ((s.setPresent x c).protection x).present.paWarning = c.paWarning := by
  by_cases same : c = (s.protection x).present
  · rw [setPresent_same same, same]
    exact ⟨rfl, rfl⟩
  · have judged : ((s.withPresent x c).decideProtection x).protection x = (s.withPresent x c).judged x :=
      (decideProtection_protection _ x x).trans (if_pos rfl)
    have present : ((s.withPresent x c).judged x).present = c :=
      (ChainProtection.decide_keeps ..).1.trans (congrArg ChainProtection.present (withPresent_protection s x c))
    obtain ⟨fault, warning⟩ := (protect_withdraws (s.withPresent x c) x).amplifier
    rw [setPresent_new same, fault, warning, judged, present]
    exact ⟨rfl, rfl⟩

theorem setPresent_rises (s : State) (x : Tx) (c : ChainConditions) :
    (s.protection x).level ≤ ((s.setPresent x c).protection x).level := by
  by_cases same : c = (s.protection x).present
  · rw [setPresent_same same]
  · rw [setPresent_new same]
    refine le_trans ?_ ((protect_keeps (s.withPresent x c) x).rises x)
    rw [withPresent_protection]

theorem setPresent_levelOk (level : s.LevelOk x) : (s.setPresent x c).LevelOk x := by
  by_cases same : c = (s.protection x).present
  · rw [setPresent_same same]
    exact level
  · rw [setPresent_new same]
    exact protect_level ..

theorem setPresent_protection (new : c ≠ (s.protection x).present) (notSettling : (s.seq x).state ≠ .driveSettle) :
    (s.setPresent x c).protection x = ChainProtection.decide { s.protection x with present := c } s.severities s.limits
      s.pu.device s.time.steps s.time.seconds := by
  rw [setPresent_new new, protect_protection (s := s.withPresent x c) notSettling, State.judged, withPresent_protection]
  rfl

/-- A level that covers S covers each kind present. -/
theorem State.LevelOk.covers (level : s.LevelOk x) {k : Condition} (present : isPresent s.pu.device (s.protection x).present k = true) :
    s.severities.of k ≤ (s.protection x).level := by
  obtain ⟨highest, below⟩ := level
  exact (of_le_highestSeverity _ _ _ present).trans (highest ▸ below)

/-- A sample of an amplifier input is taken with the conditions it makes. -/
theorem sample_taken {s : State} {x : Tx} {q : Sequencer} (state : q.state = (s.seq x).state) (level : s.LevelSound)
    (c : ChainConditions) : let t := (s.setSeq x q).setPresent x c
    ProtFrame s t ∧ (t.seq x).fixed = q.fixed ∧ (t.protection x).present.paFault = c.paFault ∧
      (t.protection x).present.paWarning = c.paWarning ∧ (s.protection x).level ≤ (t.protection x).level ∧
      (∀ k, isPresent s.pu.device (t.protection x).present k = true → s.severities.of k ≤ (t.protection x).level) ∧
      (∀ y, y ≠ x → t.protection y = s.protection y) ∧
      (c ≠ (s.protection x).present → (s.seq x).state ≠ .driveSettle →
        t.protection x = ChainProtection.decide { s.protection x with present := c } s.severities s.limits s.pu.device
          s.time.steps s.time.seconds) := by
  intro t
  let u := s.setSeq x q
  have seq : u.seq x = q := (setSeq_seq ..).trans (if_pos rfl)
  have away := setPresent_local u x c
  obtain ⟨fault, warning⟩ := setPresent_amplifier u x c
  refine ⟨(setSeq_frame ..).toProt.trans (setPresent_frame ..), (setPresent_fixed u x c).trans (by rw [seq]), fault, warning,
    setPresent_rises u x c, fun k present => ?_, away.protection, fun new notSettling => ?_⟩
  · have covers := (setPresent_levelOk (c := c) (show u.LevelOk x from level x)).covers (k := k)
    rw [away.device, State.severities, away.active] at covers
    exact covers present
  · exact setPresent_protection (s := u) new (by rw [seq, state]; exact notSettling)

theorem exec_paFaultInput {s : State} {x : Tx} {b : Bool} (live : s.phase ≠ .held) (new : (s.seq x).faultSample ≠ b) :
    exec (.paFaultInput x b) s = .next ((s.setSeq x { s.seq x with faultSample := b }).setPresent x
      { (s.protection x).present with paFault := b }) := by
  change execPaFaultInput x b s = _
  exact if_neg (not_or.mpr ⟨live, Ne.symm new⟩)

theorem exec_paWarningInput {s : State} {x : Tx} {b : Bool} (live : s.phase ≠ .held) (new : (s.seq x).warningSample ≠ b) :
    exec (.paWarningInput x b) s = .next ((s.setSeq x { s.seq x with warningSample := b }).setPresent x
      { (s.protection x).present with paWarning := b }) := by
  change execPaWarningInput x b s = _
  exact if_neg (not_or.mpr ⟨live, Ne.symm new⟩)

end Conditions

/-- Settles O51. -/
theorem amplifierInputsSampled : Obligations.AmplifierInputsSampled := by
  refine ⟨fun v d c => ?_, fun s x b => ?_⟩
  · intro kinds top
    have rows : kinds = conditionRows v d c := rfl
    refine ⟨fun k mem => ?_, fun k mem present => ?_, ?_, ?_⟩
    · exact (mem_conditionRows ..).mp (rows ▸ mem)
    · obtain ⟨isPresent, severity⟩ := (mem_conditionRows ..).mp (rows ▸ mem)
      exact severity ▸ of_le_highestSeverity v d c (isPresent.trans present)
    · rcases highestSeverity_attained v d c with ⟨k, present, eq⟩ | ⟨none, zero⟩
      · exact .inl ⟨(true, v.of k, k), rows ▸ (mem_conditionRows ..).mpr ⟨present, rfl⟩, rfl, eq⟩
      · exact .inr ⟨fun k mem => ((mem_conditionRows ..).mp (rows ▸ mem)).1.symm.trans (none _), zero⟩
    · rw [rows]
      exact topCondition_rows v d c
  · intro c decided
    have judged {t : State} {p : ChainConditions} (eq : t.protection x = ChainProtection.decide { c with present := p }
        s.severities s.limits s.pu.device s.time.steps s.time.seconds) : (t.protection x).present = p ∧ decided t := by
      obtain ⟨present, spec⟩ := ChainProtection.decide_spec { c with present := p } s.severities s.limits s.pu.device
        s.time.steps s.time.seconds
      have present' : (t.protection x).present = p := by rw [eq, present]
      refine ⟨present', ?_⟩
      simp only [decided]
      rw [present', eq]
      exact spec
    refine ⟨fun idle => ?_, fun idle => ?_, fun sound live new => ⟨_, exec_paFaultInput live new, ?_⟩,
      fun sound live new => ⟨_, exec_paWarningInput live new, ?_⟩⟩
    · change execPaFaultInput x b s = _
      exact if_pos (idle.imp_right Eq.symm)
    · change execPaWarningInput x b s = _
      exact if_pos (idle.imp_right Eq.symm)
    · obtain ⟨frame, fixed, fault, warning, rises, covers, others, decides⟩ :=
        sample_taken (s := s) (x := x) (q := { s.seq x with faultSample := b }) rfl sound { c.present with paFault := b }
      refine ⟨frame, congrArg (fun f => f.1) fixed, fault, warning, rises, fun on => ?_, others,
        fun changed notSettling => judged (decides (fun same => ?_) notSettling)⟩
      · exact covers .paFault (fault.trans on)
      · exact changed (congrArg ChainConditions.paFault same).symm
    · obtain ⟨frame, fixed, fault, warning, rises, covers, others, decides⟩ :=
        sample_taken (s := s) (x := x) (q := { s.seq x with warningSample := b }) rfl sound { c.present with paWarning := b }
      refine ⟨frame, congrArg (fun f => f.2.1) fixed, warning, fault, rises, fun on => ?_, others,
        fun changed notSettling => judged (decides (fun same => ?_) notSettling)⟩
      · exact covers .paWarning (warning.trans on)
      · exact changed (congrArg ChainConditions.paWarning same).symm

end Sys2Proof.Machine
end

section
/-! PROOFS. Trips and lockouts (O52). -/

namespace Sys2Proof.Machine

/-! ## A trip and a lockout (R145, R146) -/

section Trip
variable {c : ChainProtection} {l : Limits} {seconds : Nat}

theorem ChainProtection.trip_none (none : l.tripLimit = 0 ∨ c.lockedOut = true) : c.trip l seconds = c := by
  unfold ChainProtection.trip
  split
  · rfl
  · exact if_pos none

theorem ChainProtection.trip_entry (fault : c.present.paFault = true) (limit : 0 < l.tripLimit)
    (free : c.lockedOut = false) :
    let entry : Trip := { time := seconds, faults := if c.present.txLoLost then .both else .paFault }
    let list := c.trips.drop (c.trips.length + 1 - l.tripLimit) ++ [entry]
    c.trip l seconds = { c with trips := list, lockedOut := locksOut l list } := by
  intro entry list
  have faults : tripFaults c.present = some entry.faults := by
    rw [tripFaults, fault]
    cases lost : c.present.txLoLost with
    | true => simp only [entry, lost, if_true]
    | false => simp only [entry, lost, Bool.false_eq_true, if_false]
  unfold ChainProtection.trip
  rw [faults]
  refine if_neg ?_
  rintro (zero | locked)
  · exact absurd zero limit.ne'
  · exact absurd (free.symm.trans locked) Bool.false_ne_true

theorem locksOut_append (l : Limits) (older : List Trip) (entry : Trip) : locksOut l (older ++ [entry]) = true ↔
    (older ++ [entry]).length = l.tripLimit ∧
      ∀ oldest, (older ++ [entry]).head? = some oldest → entry.time - oldest.time ≤ 60 * l.tripWindow := by
  obtain ⟨oldest, head⟩ : ∃ oldest, (older ++ [entry]).head? = some oldest := by
    cases older with
    | nil => exact ⟨entry, rfl⟩
    | cons first rest => exact ⟨first, rfl⟩
  rw [locksOut, head, List.getLast?_concat, decide_eq_true_iff]
  simp only [Option.some.injEq, forall_eq']

end Trip

/-! ## The SITE write and the probation of a lockout (R54, R146, R153) -/

section Lockout
variable {s t : State}

theorem Writes.of_store {s t : State} {r : RecordName} {P : Content → Prop} (store : t.store = s.store) (h : s.Writes r P) :
    t.Writes r P := by
  rw [State.Writes, State.record, store]
  exact h

/-- A content that waits for SITE goes on waiting when the writer starts, or is the one written. -/
theorem writerStart_writes {c : Content} (content : (s.record .site).pendingContent = some c) :
    s.writerStart.Writes .site (· = c) := by
  by_cases free : s.WriterFree
  · cases retry : (s.record .site).retry with
    | none =>
      rw [writerStart_site free content retry, startWrite_some content]
      exact .inr ⟨_, rfl, rfl, rfl⟩
    | some d =>
      have waits : s.writeReady .site = false := by
        rw [← Bool.not_eq_true, writeReady_iff]
        rintro ⟨-, -, none⟩
        rw [retry] at none
        cases none
      cases ready : s.writeReady .dflt with
      | true =>
        obtain ⟨c', content', retry'⟩ := (writeReady_iff ..).mp ready
        rw [writerStart_dflt free waits content' retry', startWrite_some content']
        exact .inl ⟨c, content, rfl⟩
      | false =>
        rw [writerStart_rest fun _ r => by cases r <;> assumption]
        exact .inl ⟨c, content, rfl⟩
  · rw [writerStart_rest fun h => absurd h free]
    exact .inl ⟨c, content, rfl⟩

theorem requestSite_writes (s : State) :
    s.requestSite.Writes .site (· = { plan := s.pe.active, lockout := s.lockoutSet }) :=
  writerStart_writes (State.record_setRecord_same .. ▸ rfl)

theorem Writes.imp {r : RecordName} {P Q : Content → Prop} (h : s.Writes r P) (imp : ∀ c, P c → Q c) : s.Writes r Q := by
  rcases h with ⟨c, pending, holds⟩ | ⟨w, flight, record, holds⟩
  · exact .inl ⟨c, pending, imp c holds⟩
  · exact .inr ⟨w, flight, record, imp _ holds⟩

theorem lockoutSet_get (s : State) (x : Tx) : s.lockoutSet.get x = (s.protection x).lockedOut := by
  cases x <;> rfl

theorem probationFailure_store (s : State) : s.probationFailure.store = s.store := by
  unfold State.probationFailure
  split
  · dsimp only
    split <;> rfl
  · rfl

theorem probationFailure_settled (s : State) : s.probationFailure.pe.status = .settled := by
  unfold State.probationFailure
  split
  · dsimp only
    split <;> rfl
  · next other =>
    cases status : s.pe.status with
    | settled => rfl
    | onProbation => exact absurd status other

/-- An addition to the lockout set is written to SITE and ends a probation. -/
theorem handProtection_lockout {before : State} {x : Tx} (lockedOut : (s.protection x).lockedOut = true)
    (free : (before.protection x).lockedOut = false) : let t := State.handProtection before s x
    t.Writes .site (fun content => content.plan = s.pe.active ∧ content.lockout.get x = true) ∧
      t.pe.status = .settled := by
  intro t
  let u := s.tellChange (State.levelMoved before s x)
  have announced : State.announced before s x = u.requestSite.probationFailure := by
    rw [State.announced, lockedOut, free]
    rfl
  have frame := tellChain_frame (State.announced before s x) x (State.levelMoved before s x)
  have same : u.pu = s.pu ∧ u.os = s.os := tellChange_same ⟨rfl, rfl⟩ _
  have store : t.store = u.requestSite.store := by
    rw [show t = _ from handProtection_eq .., frame.store, announced, probationFailure_store]
  refine ⟨Writes.of_store store (Writes.imp (requestSite_writes u) ?_), ?_⟩
  · rintro c rfl
    refine ⟨congrArg PlanEngine.active (tellChange_frame ..).pe, ?_⟩
    rw [lockoutSet_get, State.protection, same.1]
    exact lockedOut
  · rw [show t = _ from handProtection_eq .., frame.pe, announced, probationFailure_settled]

end Lockout

theorem targetOf_quiet {s : State} {x : Tx} {n : Slot} (on : s.laneOn x n = true) (rampUp : (s.seq x).state ≠ .rampUp)
    (onAir : (s.seq x).state ≠ .onAir) (st : LaneState) : s.targetOf n st = 0 := by
  obtain ⟨e, slot, chain⟩ := (laneOn_iff ..).mp on
  rw [State.targetOf, slot]
  dsimp only
  rw [chain, beq_eq_false_iff_ne.mpr rampUp, beq_eq_false_iff_ne.mpr onAir, Bool.or_self, Bool.and_false,
    if_neg Bool.false_ne_true]

theorem unwanted_of_level {s : State} {x : Tx} (three : (s.protection x).level = 3) : s.wantedOn x = false := by
  rw [← Bool.not_eq_true, wantedOn_iff]
  rintro ⟨-, level, -⟩
  exact level three

/-- Where the sequencer stands that is told of a level of 3 (R126, R127, R129, R130, R133). -/
structure TakenDown (x : Tx) (s t : State) : Prop where
  off : (s.seq x).state = .off ∨ (s.seq x).state = .tuning ∨ (s.seq x).state = .driveSettle →
    (t.seq x).state = (if (t.protection x).lockedOut = true then .lockedOut else .off)
  down : (s.seq x).state = .rampUp ∨ (s.seq x).state = .onAir ∨ (s.seq x).state = .rampDown →
    (t.seq x).state = (if s.currentSum x = 0 then .paDischarge else .rampDown) ∧
    ∀ n, s.laneOn x n = true → (t.lane n).target = 0 ∧ (t.lane n).current = (s.lane n).current
  muted : (s.seq x).state = .muted ∨ (s.seq x).state = .paDischarge → (t.seq x).state = .paDischarge
  locked : (s.seq x).state = .lockedOut → (t.protection x).lockedOut = true → (t.seq x).state = .lockedOut
  discharges : (t.seq x).state = .paDischarge → (s.seq x).state ≠ .paDischarge →
    (t.seq x).dischargeTimer = some (s.time.steps + (s.seq x).paDischarge)

theorem decided_takenDown {w : State} {x : Tx} (running : w.phase = .running) (three : (w.protection x).level = 3) :
    TakenDown x w ((w.decideLanes (w.lanesOn x)).decideSeq x) := by
  let d := w.decideLanes (w.lanesOn x)
  let t := d.decideSeq x
  have frame : LaneFrame w d := decideLanes_frame w (w.lanesOn x)
  have moves := (decideLanes_moves w (w.lanesOn x)).trans (decideSeq_moves d x)
  have seq : d.seq x = w.seq x := frame.untouched.seq_eq x
  have level : (d.protection x).level = 3 := by rw [frame.untouched.protection_eq]; exact three
  have unwanted : d.wantedOn x = false := unwanted_of_level level
  have still : t.wantedOn x = false := 
    unwanted_of_level (((decideSeq_withdraws d x).calm (.inl level)).1.trans level)
  have decided : SeqDecided d t x := decideSeq_decided (frame.phase.trans running)
  have slots (n : Slot) : (d.lane n).slot = (w.lane n).slot := (decideLanes_reads w _).slots n
  have sum : d.currentSum x = w.currentSum x := by
    rw [State.currentSum, State.currentSum, lanesOn_congr slots]
    exact congrArg List.sum (List.map_congr_left fun n _ => decideLanes_current w _ n)
  have settled : t = State.settleSeq 4 d x := decideSeq_running (frame.phase.trans running)
  have off (h : (w.seq x).state = .off ∨ (w.seq x).state = .tuning ∨ (w.seq x).state = .lockedOut ∨
      (w.seq x).state = .driveSettle) :
      (t.seq x).state = (if (t.protection x).lockedOut = true then .lockedOut else .off) := by
    rw [decided.off (by rw [seq]; simpa only [unwanted, and_true] using h), still]
    rfl
  refine ⟨fun h => off (by tauto), fun up => ?_, fun h => ?_, fun locked still => ?_, fun here other => ?_⟩
  · have state := decided.down (by rw [seq]; exact up) unwanted
    rw [sum] at state
    refine ⟨state, fun n on => ⟨?_, moves.current n⟩⟩
    have agrees : t.Agrees n := by
      rw [settled]
      exact settleSeq_agrees_on 4 (fun m on' => decideLanes_agrees w ((mem_lanesOn ..).mpr ((laneOn_congr (slots m) x).symm.trans on')))
        ((laneOn_congr (slots n) x).trans on)
    refine agrees.2.trans (targetOf_quiet ((laneOn_congr (moves.slots n) x).trans on) ?_ ?_ _)
    all_goals
      rw [state]
      split <;> nofun
  · rcases h with state | state
    · exact decided.mutedOff (by rw [seq]; exact state) unwanted
    · exact decided.paDischarge (by rw [seq]; exact state)
  · exact (off (.inr (.inr (.inl locked)))).trans (if_pos still)
  · have timer := settleSeq_discharges 4 (s := d) (by rw [seq]; exact other) (by rw [← settled]; exact here)
    rw [← settled, seq, State.afterSteps, frame.time] at timer
    exact timer

/-- Settles O52. -/
theorem faultTripsAndLocksOut : Obligations.FaultTripsAndLocksOut := by
  intro s x live sample absent severe low c l entry list
  let q : Sequencer := { s.seq x with faultSample := true }
  let u := (s.setSeq x q).withPresent x { c.present with paFault := true }
  let v := u.decideProtection x
  let t := u.protect x
  have seq : u.seq x = q := (setSeq_seq ..).trans (if_pos rfl)
  have before : u.protection x = { c with present := { c.present with paFault := true } } := withPresent_protection ..
  have exec_eq : exec (.paFaultInput x true) s = .next t := by
    refine (exec_paFaultInput live (by rw [sample]; exact Bool.false_ne_true)).trans
      (congrArg _ (setPresent_new fun same => ?_))
    exact absurd (absent.symm.trans (congrArg ChainConditions.paFault same).symm) Bool.false_ne_true
  have three : highestSeverity s.severities s.pu.device { c.present with paFault := true } = 3 :=
    le_antisymm (Fin.le_last _) (severe ▸ of_le_highestSeverity (k := .paFault) s.severities _ _ rfl)
  let raised : ChainProtection :=
    { c with
      present := { c.present with paFault := true }, highest := 3, level := 3, hold := none
      cause := topCondition s.severities s.pu.device { c.present with paFault := true }, holding := false }
  have judged : v.protection x = raised.trip l s.time.seconds := by
    rw [show v.protection x = u.judged x from (decideProtection_protection u x x).trans (if_pos rfl), State.judged, before]
    rcases ChainProtection.decide_cases { c with present := { c.present with paFault := true } } s.severities s.limits
      s.pu.device s.time.steps s.time.seconds with ⟨-, eq⟩ | ⟨equal, -⟩ | ⟨below, -⟩ | ⟨below, -⟩
    · refine eq.trans ?_
      rw [three, if_pos rfl]
    · exact absurd (equal.symm.trans three) low.ne
    · rw [three] at below
      exact absurd below low.asymm
    · rw [three] at below
      exact absurd below low.asymm
  have level : (v.protection x).level = 3 := by
    obtain ⟨-, -, level, -⟩ := raised.trip_keeps l s.time.seconds
    rw [judged, level]
  have moved : State.levelMoved u v x = true :=
    levelMoved_of_level (by rw [before, level]; exact low.ne)
  obtain ⟨level', trips, lockedOut⟩ := (protect_withdraws u x).calm (.inl level)
  obtain ⟨eq, -⟩ := handProtection_moved moved
  have announces := announced_announces u v x
  have base : (u.protection x).lockedOut = c.lockedOut := by rw [before]
  have quiet (same : (v.protection x).lockedOut = c.lockedOut) : t.store = s.store ∧ t.pe = s.pe :=
    handProtection_store (before := u) (s := v) (same.trans base.symm)
  refine ⟨t, exec_eq, ((setSeq_frame ..).toProt.trans (setProtection_frame ..).toSeq.toProt).trans (protect_frame ..),
    level'.trans level, handProtection_told moved, fun none => ?_, fun limit free => ?_, fun running => ?_⟩
  · have kept : v.protection x = raised := judged.trans (ChainProtection.trip_none none)
    rw [show (t.protection x).trips = _ from trips, show (t.protection x).lockedOut = _ from lockedOut, kept]
    exact ⟨rfl, rfl, quiet (by rw [kept])⟩
  · have entered : v.protection x = { raised with trips := list, lockedOut := locksOut l list } :=
      judged.trans (ChainProtection.trip_entry rfl limit free)
    have locked' : (t.protection x).lockedOut = locksOut l list := by rw [show (t.protection x).lockedOut = _ from lockedOut, entered]
    refine ⟨by rw [show (t.protection x).trips = _ from trips, entered], ?_, fun locked => ?_, fun stays => ?_⟩
    · rw [locked']
      exact locksOut_append l _ entry
    · exact handProtection_lockout (before := u) (s := v) (lockedOut.symm.trans locked) (base.trans free)
    · exact quiet ((lockedOut.symm.trans stays).trans free.symm)
  · obtain ⟨phase, time, -⟩ := announces.field
    have taken := decided_takenDown (w := State.announced u v x) (x := x) (phase.trans running)
      (by rw [announces.protection_eq]; exact level)
    rw [← eq] at taken
    have seq' : (State.announced u v x).seq x = q := (announces.seq_eq x).trans seq
    have lane (n : Slot) : (State.announced u v x).lane n = s.lane n := announces.lane_eq n
    have sum : (State.announced u v x).currentSum x = s.currentSum x := announces.currentSum
    obtain ⟨off, down, muted, locked, discharges⟩ := taken
    rw [seq'] at off down muted locked discharges
    rw [sum] at down
    refine ⟨off, fun up => ?_, muted, fun state locked' => locked state ?_, fun here other => ?_⟩
    · obtain ⟨state, lanes⟩ := down up
      refine ⟨state, fun n on => ?_⟩
      obtain ⟨target, current⟩ := lanes n ((laneOn_congr (by rw [lane]) x).trans on)
      exact ⟨target, current.trans (by rw [lane])⟩
    · refine lockedOut.trans ?_
      rw [judged, ChainProtection.trip_none (c := raised) (.inr locked')]
      exact locked'
    · refine (discharges here other).trans ?_
      rw [time]
      rfl

end Sys2Proof.Machine
end

section
/-! PROOFS. The recovery hold (O53). -/

namespace Sys2Proof.Machine

/-! ## The recovery hold (R142 to R144) -/

/-- An expired hold on a chain whose level lay above its S: the chain that it leaves is sound. -/
theorem expire_ok {s u : State} {x : Tx} (time : TimeFrame s u) (sound : s.Sound) :
    let v := u.setProtection x ((u.protection x).expire u.severities u.pu.device)
    v.LevelOk x ∧ v.ConditionsOk x := by
  intro v
  have protection : v.protection x = (s.protection x).expire s.severities s.pu.device := by
    rw [show v.protection x = _ from State.protection_setProtection_same .., time.untouched.protection_eq, time.pu,
      State.severities, time.pe]
    rfl
  refine ⟨?_, ?_⟩
  · rw [State.LevelOk, protection]
    obtain ⟨highest, -⟩ := sound.level x
    have severities : v.severities = s.severities := congrArg (fun e => Plan.severities (PlanEngine.active e)) time.pe
    have device : v.pu.device = s.pu.device :=
      (congrArg Protection.device time.pu : u.pu.device = s.pu.device)
    rw [severities, device]
    exact ⟨highest, le_rfl⟩
  · rw [State.ConditionsOk, protection, show v.synth (.tx x) = s.synth (.tx x) from time.synth_eq _]
    exact sound.conditions x

section Wanted
variable {s t : State} {x : Tx}

theorem LaneFrame.wantedOn (h : LaneFrame s t) (x : Tx) : t.wantedOn x = s.wantedOn x := by
  rw [State.wantedOn, State.wantedOn, State.offCauses, State.offCauses, h.pe, h.untouched.protection_eq,
    h.untouched.seq_eq]

theorem LaneFrame.tuned (h : LaneFrame s t) (x : Tx) : t.tuned x = s.tuned x := by
  rw [State.tuned, State.tuned, State.verifiedFor, State.verifiedFor, State.isVerified, State.isVerified,
    h.untouched.synth_eq, h.pe]

theorem TimeFrame.tuned (h : TimeFrame s t) (x : Tx) : t.tuned x = s.tuned x := (h.sameFacts x).tuned

theorem rampUp_or_onAir (b : Bool) (st : SeqState) (eq : st = if b then .rampUp else .onAir) :
    st = .rampUp ∨ st = .onAir := by
  cases b with
  | true => exact .inl eq
  | false => exact .inr eq

end Wanted

/-- Settles O53. -/
theorem recoveryHoldLowersLevel : Obligations.RecoveryHoldLowersLevel := by
  refine ⟨fun s x => ?_, fun s x running => ⟨decideSeq_frame s x, decideSeq_decided running⟩, fun s x d sound hold => ?_⟩
  · intro enabled c retune
    refine ⟨?_, rfl, rfl, ?_⟩
    · rw [wantedOn_iff]
      exact and_congr_right fun _ => and_congr_left fun _ => ⟨level_lt_three, ne_of_lt⟩
    · rw [tuned_iff]
      refine and_congr_right fun _ => ⟨fun ⟨present, eq⟩ => ⟨eq, eq ▸ present⟩, fun ⟨eq, present⟩ => ⟨eq ▸ present, eq⟩⟩
  · intro c
    generalize hu : s.advanceTo d = u
    have time : TimeFrame s u := hu ▸ advanceTo_frame s d
    let v := u.setProtection x
      { c with
        level := c.highest, hold := none, holding := false
        cause := topCondition s.severities s.pu.device c.present }
    have expired : u.setProtection x ((u.protection x).expire u.severities u.pu.device) = v := by
      rw [time.untouched.protection_eq, time.pu, State.severities, time.pe]
      rfl
    let t := State.handProtection u v x
    have exec_eq : exec (.recoveryHoldExpiry x) s = .next t := by
      change execRecoveryHoldExpiry x s = _
      simp only [execRecoveryHoldExpiry, hold, hu]
      exact congrArg (fun w => Host.Outcome.next (State.handProtection u w x)) expired
    have before : u.protection x = c := time.untouched.protection_eq x
    have after : v.protection x = _ := State.protection_setProtection_same ..
    obtain ⟨levelOk, conditionsOk⟩ := expire_ok (x := x) time sound
    rw [expired] at levelOk conditionsOk
    obtain ⟨level, trips, lockedOut⟩ := (handProtection_withdraws u v x).calm (.inr ⟨levelOk, conditionsOk⟩)
    rw [after] at level trips lockedOut
    have announced (changed : c.highest ≠ c.level) : State.levelMoved u v x = true :=
      levelMoved_of_level (by rw [before, after]; exact changed.symm)
    let w := (v.notifyBoth .chainChanged).decideLanes (s.lanesOn x)
    have moved (changed : c.highest ≠ c.level) : t = w.decideSeq x := by
      obtain ⟨eq, -⟩ := handProtection_moved (announced changed)
      have notices : State.announced u v x = v.notifyBoth .chainChanged := by
        rw [State.announced, announced changed, before, after, bne_self_eq_false]
        rfl
      have lanes : (v.notifyBoth .chainChanged).lanesOn x = s.lanesOn x :=
        lanesOn_congr (fun n => congrArg Lane.slot (time.lane_eq n)) x
      rw [show t = _ from eq, notices, lanes]
    have still (same : c.highest = c.level) : t = v :=
      handProtection_still (by rw [before, after]; exact same) (by rw [before, after])
    have frame : SeqFrame u t := by
      by_cases same : c.highest = c.level
      · rw [still same]
        exact (setProtection_frame ..).toSeq
      · rw [moved same]
        exact (((setProtection_frame ..).toSeq.trans (notifyBoth_frame ..)).trans (decideLanes_frame ..).toSeq).trans
          (decideSeq_frame ..)
    refine ⟨t, exec_eq, frame, level, trips, lockedOut, fun changed => handProtection_told (announced changed),
      ⟨still, moved⟩, fun running falls low enabled free retune => ?_, fun notSettling => ?_⟩
    · have lanes : LaneFrame (v.notifyBoth .chainChanged) w := decideLanes_frame ..
      have running' : w.phase = .running := lanes.phase.trans (time.phase.trans running)
      have seq : w.seq x = s.seq x := (lanes.untouched.seq_eq x).trans (time.untouched.seq_eq x)
      have protection : w.protection x = v.protection x := lanes.untouched.protection_eq x
      have active : w.pe.active = s.pe.active := congrArg PlanEngine.active (lanes.pe.trans time.pe)
      have wanted : w.wantedOn x = true := by
        rw [wantedOn_iff, protection, after, seq, active]
        exact ⟨enabled, low.ne, free, retune⟩
      have tuned : w.tuned x = s.tuned x := (lanes.tuned x).trans (time.tuned x)
      have decided := decideSeq_decided (x := x) running'
      rw [← moved falls.ne] at decided
      rw [← seq, ← tuned]
      have below : (w.protection x).level = c.highest := by rw [protection, after]
      refine ⟨fun state => ?_, fun state keeps high verified => ?_, fun state keeps high verified => ?_,
        fun state high => decided.onAir state wanted (below ▸ high), decided.paDischarge⟩
      · obtain ⟨facts, eq⟩ := settleSeq_off 3 state
        rw [← decideSeq_running running', ← moved falls.ne] at facts eq
        rw [eq, facts.offState, State.offState, if_neg (by rw [protection, after, free]; exact Bool.false_ne_true),
          if_pos wanted]
      · exact rampUp_or_onAir _ _ ((decided.muted state wanted keeps).1 (below ▸ high) verified)
      · exact rampUp_or_onAir _ _ ((decided.rampDown state wanted keeps).1 (below ▸ high) verified)
    · have same : t.protection x = v.protection x := by
        rw [State.protection, handProtection_pu (by
          rw [show v.seq x = s.seq x from time.untouched.seq_eq x]
          exact notSettling)]
        rfl
      rw [same, after]
      exact ⟨rfl, rfl, rfl⟩

end Sys2Proof.Machine
end

section
/-! PROOFS. The settle expiry (O42) and the ends of a probation (O38). -/

namespace Sys2Proof.Machine

/-! ## The settle expiry (R77, R78, R83) -/

section Settle
variable {s t : State} {c : Chain}

theorem joined_other {c other : Chain} (x : SynContext) (audit : Bool) (apart : other ≠ c) (empty : s.fc.queue = []) :
    (((s.setSynth c x).joinQueue c audit).startMeasurement).synth other = s.synth other := by
  have away (v : State) (z : SynContext) : (v.setSynth c z).synth other = v.synth other :=
    (State.synth_setSynth ..).trans (if_neg apart)
  by_cases waits : s.fc.current.isSome = true ∨ s.ref.state = .absent
  · rw [joined_waits x audit (by rw [empty]; nofun) waits]
    exact away s x
  · rw [not_or, Bool.not_eq_true, Option.isSome_eq_false_iff, Option.isNone_iff_eq_none] at waits
    rw [joined_measured x audit waits.1 waits.2 empty]
    split
    · exact away s x
    · exact (away _ _).trans (away s x)

/-- A synthesizer that settles, or tries again, waits nowhere. -/
theorem State.CounterSound.not_queued (k : s.CounterSound) (settling : (s.synth c).settle.isSome) :
    ∀ q ∈ s.fc.queue, q.syn ≠ c := by
  have state := (k.contexts c).settle settling
  exact (k.absent (by rw [state]; nofun) (by rw [state]; nofun) (fun verified => by rw [state] at verified; cases verified)).1

theorem exec_settleExpiry {d : Nat} (timer : (s.synth c).settle = some d) (lock : Bool) :
    exec (.settleExpiry c lock) s = .next (
      let u := (s.advanceTo d).setSynth c { s.synth c with settle := none }
      if lock then u.enterQueued c else u.failedAttempt c) := by
  change execSettleExpiry c lock s = _
  simp only [execSettleExpiry, timer]
  rw [(advanceTo_frame s d).synth_eq]

theorem enterQueued_eq (s : State) (c : Chain) (x : SynContext) : (s.setSynth c x).enterQueued c =
    ((s.setSynth c { x with state := .queued }).joinQueue c false).startMeasurement := by
  rw [State.enterQueued, State.synth_setSynth_same, setSynth_setSynth]

theorem failedAttempt_retries (x : SynContext) (left : x.attempts < s.limits.attempts) :
    (s.setSynth c x).failedAttempt c = s.setSynth c x.programming := by
  rw [State.failedAttempt, State.synth_setSynth_same, startProgramming_eq, State.synth_setSynth_same, setSynth_setSynth]
  exact if_pos left

/-- The context of a synthesizer whose attempts are used up. -/
def SynContext.givesUp (x : SynContext) (retry : Timer) : SynContext := { x with state := .failed, retry := retry }

/-- The notice and the probation failure of a synthesizer that enters FAILED. -/
def State.failureTold (s : State) (c : Chain) : State :=
  if s.pe.active.uses c then (s.notifyBoth .synthFailed).probationFailure else s.notifyBoth .synthFailed

theorem failureTold_announces (s : State) (c : Chain) : Announces s (s.failureTold c) := by
  unfold State.failureTold
  split
  · exact (notifyBoth_announces ..).trans (probationFailure_announces _)
  · exact notifyBoth_announces ..

theorem failedAttempt_fails (x : SynContext) (used : s.limits.attempts ≤ x.attempts) :
    (s.setSynth c x).failedAttempt c =
      ((s.setSynth c (x.givesUp (s.afterSeconds s.limits.retryHold))).failureTold c).reportSynth c := by
  rw [State.failedAttempt, State.synth_setSynth_same]
  refine (if_neg (not_lt.mpr used)).trans ?_
  rw [State.enterFailed, State.synth_setSynth_same, setSynth_setSynth]
  rfl

theorem setPresent_present {x : Tx} {p : ChainConditions} (notSettling : (s.seq x).state ≠ .driveSettle) :
    ((s.setPresent x p).protection x).present = p := by
  by_cases same : p = (s.protection x).present
  · rw [setPresent_same same, same]
  · rw [setPresent_protection same notSettling, (ChainProtection.decide_keeps ..).1]

theorem State.LevelOk.congr {x : Tx} (ok : s.LevelOk x) (active : t.pe.active = s.pe.active) (pu : t.pu = s.pu) :
    t.LevelOk x := by
  rw [State.LevelOk, State.protection, State.severities, active, pu]
  exact ok

/-- Settles O42. -/
theorem settleExpiryExamined : Obligations.SettleExpiryExamined := by
  refine ⟨fun s c d sound timer => ?_, fun s c d timer => ?_⟩
  · intro x g
    generalize hu : s.advanceTo d = u
    have time : TimeFrame s u := hu ▸ advanceTo_frame s d
    let z : SynContext := { x with settle := none, state := .queued }
    let t := ((u.setSynth c z).joinQueue c false).startMeasurement
    have exec_eq : exec (.settleExpiry c true) s = .next t := by
      rw [exec_settleExpiry timer, hu]
      exact congrArg _ (enterQueued_eq ..)
    have frame : SynthFrame u t := ((setSynth_frame ..).trans (joinQueue_frame ..)).trans (startMeasurement_frame _)
    obtain ⟨pu, lanes, -⟩ := joined_same u c z false
    refine ⟨t, exec_eq, frame, pu.trans time.pu, lanes.trans time.lanes, fun other apart empty => ?_, fun waits => ?_,
      fun free present empty => ?_⟩
    · exact (joined_other z false apart (time.fc ▸ empty)).trans (time.synth_eq other)
    · have new : ∀ q ∈ u.fc.queue, q.syn ≠ c := time.fc ▸ sound.not_queued (by rw [timer]; rfl)
      have eq : t = (u.setSynth c z).queued c false := joined_waits z false new (time.fc ▸ time.ref ▸ waits)
      rw [eq]
      exact ⟨State.synth_setSynth_same .., congrArg (fun f : Counter =>
        { f with queue := f.queue ++ [({ syn := c, audit := false } : QueueEntry)] }) time.fc⟩
    · intro e m
      obtain ⟨synth, fc⟩ := joined_measured_fc z false (time.fc ▸ free) (time.ref ▸ present) (time.fc ▸ empty)
      have backup : u.time.backup = s.time.backup := hu ▸ advanceTo_backup d present
      rw [time.fc, time.limits, backup, ← congrArg TimeBase.steps frame.time] at fc
      exact ⟨synth, fc⟩
  · intro x u
    have time : TimeFrame s u := advanceTo_frame s d
    have exec_eq := exec_settleExpiry timer false
    refine ⟨fun left => ?_, fun used => ?_⟩
    · rw [exec_eq]
      exact congrArg _ (failedAttempt_retries (s := u) _ (time.limits ▸ left))
    · intro f g
      let z : SynContext := { x with settle := none, state := .failed, retry := some (u.time.steps + 100 * s.limits.retryHold) }
      have fails : exec (.settleExpiry c false) s = .next (g.reportSynth c) := by
        rw [exec_eq]
        refine congrArg _ ((failedAttempt_fails (s := u) (c := c) { s.synth c with settle := none } (time.limits ▸ used)).trans ?_)
        rw [State.afterSeconds, State.afterSteps, time.limits]
        refine congrArg (State.reportSynth · c) ?_
        rw [State.failureTold]
        change (if u.pe.active.uses c then _ else _) = _
        rw [time.pe]
        rfl
      have told : Announces (u.setSynth c z) g := by
        change Announces _ (if s.pe.active.uses c then _ else _)
        split
        · exact (notifyBoth_announces ..).trans (probationFailure_announces _)
        · exact notifyBoth_announces ..
      have reports (y : Tx) (own : c = .tx y) : g.reportSynth c = g.setPresent y
          { (s.protection y).present with txLoLost := x.lost, txLoUnverified := true } := by
        subst own
        have synth : g.synth (.tx y) = z := (told.synth_eq _).trans (State.synth_setSynth_same ..)
        have protection : g.protection y = s.protection y :=
          (told.protection_eq y).trans (time.untouched.protection_eq y)
        change g.setPresent y ((g.synth (.tx y)).conditions (g.protection y).present) = _
        rw [synth, protection]
        rfl
      have settles {y : Tx} (notSettling : (s.seq y).state ≠ .driveSettle) : (g.seq y).state ≠ .driveSettle := by
        rw [told.seq_eq, show (u.setSynth c z).seq y = s.seq y from time.untouched.seq_eq y]
        exact notSettling
      refine ⟨?_, fun y own notSettling => ⟨_, fails, ?_, fun level => ?_⟩⟩
      · rw [fails]
        cases c with
        | rx r => rfl
        | tx y => exact congrArg _ (reports y rfl)
      all_goals rw [reports y own]
      · exact setPresent_present (settles notSettling)
      · have active : g.pe.active = s.pe.active := told.active.trans (congrArg PlanEngine.active time.pe)
        have ok : g.LevelOk y := State.LevelOk.congr (level y) active (told.pu.trans time.pu)
        have covers := (setPresent_levelOk (c := { (s.protection y).present with txLoLost := x.lost, txLoUnverified := true })
          ok).covers (k := .txLoUnverified)
        rw [setPresent_present (settles notSettling), State.severities, (setPresent_local ..).active, active] at covers
        exact covers rfl

end Settle

/-! ## The ends of a probation (R53 to R55) -/

section Probation

theorem failProbation_revert {e : PlanEngine} {i : Nat} {r : Requester} (pending : e.pendingApply = some ⟨.revert, i, r⟩) :
    e.failProbation = { e with status := .settled, probation := none } := by
  rw [PlanEngine.failProbation, pending]

theorem topIssue_eq (e : PlanEngine) : e.topIssue = ((e.entry 0).map Plan.issue).getD 0 := by
  rw [PlanEngine.entry_zero]
  rfl

theorem failProbation_other {e : PlanEngine} (other : ∀ i r, e.pendingApply ≠ some ⟨.revert, i, r⟩) :
    e.failProbation = { e with
      status := .settled, probation := none
      pendingApply := some
        { change := .revert, issue := ((e.entry 0).map Plan.issue).getD 0, requestedBy := .probation } } := by
  rw [PlanEngine.failProbation, ← topIssue_eq]
  cases pending : e.pendingApply with
  | none => rfl
  | some p =>
    obtain ⟨change, i, r⟩ := p
    cases change with
    | revert => exact absurd pending (other i r)
    | commit plan => rfl

theorem probationFailure_pe {s : State} (running : s.pe.status = .onProbation) :
    s.probationFailure.pe = s.pe.failProbation := by
  rw [State.probationFailure, if_pos running]
  dsimp only
  split <;> rfl

theorem probationFailure_cancels {s : State} {plan : Plan} {i : Nat} {r : Requester} (running : s.pe.status = .onProbation)
    (pending : s.pe.pendingApply = some ⟨.commit plan, i, r⟩) (p : Port) : s.probationFailure.told p .commitCancelled := by
  have commit : s.pe.commitPending = true := by rw [PlanEngine.commitPending, pending]
  rw [State.probationFailure, if_pos running]
  dsimp only
  rw [if_pos commit]
  exact notifyBoth_told ..

/-- Settles O38. -/
theorem probationEnds : Obligations.ProbationEnds := by
  refine ⟨fun p r x => ⟨rfl, rfl⟩, fun e => ⟨fun ⟨i, q, pending⟩ => failProbation_revert pending, failProbation_other⟩,
    fun s d timer => ?_, fun s r d timer used uses running => ?_⟩
  · change execProbationExpiry s = _
    simp only [execProbationExpiry, timer]
    rw [(advanceTo_frame s d).pe]
  · obtain ⟨fails, -⟩ := (settleExpiryExamined.2 s (.rx r) d timer).2 used
    dsimp only at fails
    generalize made : ((s.advanceTo d).setSynth (.rx r) _).notifyBoth .synthFailed = f at fails
    have pe : f.pe = s.pe := by
      rw [← made]
      exact (advanceTo_frame s d).pe
    rw [if_pos (show s.pe.active.uses (.rx r) = true from uses)] at fails
    have running' : f.pe.status = .onProbation := by rw [pe, running]
    have fallen : f.probationFailure.pe = s.pe.failProbation := by rw [probationFailure_pe running', pe]
    refine ⟨_, fails, fun q => (probationFailure_heeds f).told q _ ?_, fun idle => ?_, fun plan i q pending => ⟨?_, ?_⟩,
      fun i q pending => fallen.trans (failProbation_revert pending)⟩
    · rw [← made]
      exact notifyBoth_told ..
    · exact fallen.trans (failProbation_other fun i q revert => by rw [idle] at revert; cases revert)
    · exact probationFailure_cancels running' (by rw [pe]; exact pending)
    · exact fallen.trans (failProbation_other fun i q revert => by rw [pending] at revert; cases revert)

end Probation

end Sys2Proof.Machine
end

section
/-! PROOFS. The judgement of a presence window (O39). -/

namespace Sys2Proof.Machine

/-! ## The measurement in flight across a change of the reference (R86, R89) -/

section Held
variable {s t u : State}

/-- What a change of conditions leaves of the counter: the measurement of a receive synthesizer, and in ABSENT every
measurement, for none starts there. -/
structure CounterHeld (s t : State) : Prop where
  ref : t.ref = s.ref
  receive : ∀ m r, s.fc.current = some m → m.syn = .rx r → t.fc.current = some m
  absent : s.ref.state = .absent → ∀ m, t.fc.current = some m → s.fc.current = some m

theorem CounterHeld.refl (s : State) : CounterHeld s s := ⟨rfl, fun _ _ h _ => h, fun _ _ h => h⟩

theorem CounterHeld.trans (a : CounterHeld s t) (b : CounterHeld t u) : CounterHeld s u :=
  ⟨b.ref.trans a.ref, fun m r h rx => b.receive m r (a.receive m r h rx) rx,
    fun absent m h => a.absent absent m (b.absent (by rw [a.ref, absent]) m h)⟩

theorem Local.counterHeld {x : Tx} (h : Local x s t) : CounterHeld s t :=
  ⟨h.ref, fun m _ here rx => h.held m here (by rw [rx]; nofun), h.absent⟩

theorem setDevice_held (s : State) (d : DeviceConditions) : CounterHeld s (s.setDevice d) := by
  unfold State.setDevice
  split
  · exact .refl s
  · have folded := foldl_related (R := CounterHeld) .refl .trans (f := State.protect) (fun s x => (protect_local s x).counterHeld)
      allTx { s with pu := { s.pu with device := d } }
    exact ⟨folded.ref, folded.receive, folded.absent⟩

/-- A reference that has not been ABSENT enters a state. -/
theorem setReference_counter {st : RefState} (present : s.ref.state ≠ .absent) : let t := s.setReference st
    (st = .absent → (∀ m, t.fc.current = some m → m.spoiled = true) ∧
      ∀ m r, s.fc.current = some m → m.syn = .rx r → t.fc.current = some { m with spoiled := true }) ∧
    (st ≠ .absent → ∀ m r, s.fc.current = some m → m.syn = .rx r → t.fc.current = some m) := by
  intro t
  let e := { s with ref := s.enterReference st }.notifyBoth .referenceChanged
  let w := if st = .absent then e.spoilMeasurement else e
  have eq : t = w.setDevice (w.pu.device.ofReference st) := by
    change State.setReference s st = _
    unfold State.setReference
    dsimp only
    exact if_neg (by simpa using present)
  have held := setDevice_held w (w.pu.device.ofReference st)
  rw [← eq] at held
  refine ⟨fun absent => ?_, fun other m r here rx => held.receive m r ?_ rx⟩
  · have spoiled : w = e.spoilMeasurement := if_pos absent
    have state : w.ref.state = .absent := by
      rw [spoiled]
      exact absent
    refine ⟨fun m here => ?_, fun m r here rx => held.receive _ r ?_ rx⟩
    · have before := held.absent state m here
      rw [spoiled] at before
      obtain ⟨m', -, rfl⟩ := Option.map_eq_some_iff.mp before
      rfl
    · rw [spoiled]
      exact congrArg (Option.map _) here
  · rw [show w = e from if_neg other]
    exact here

/-- The reference leaves ABSENT for QUALIFYING: where its conditions stand as they should, only the counter starts. -/
theorem setReference_qualifying (absent : s.ref.state = .absent) (conditions : s.pu.device.refAbsent = true ∧
    s.pu.device.refHoldover = false ∧ s.pu.device.refExpired = false) :
    s.setReference .qualifying =
      ({ s with ref := s.enterReference .qualifying }.notifyBoth .referenceChanged).startMeasurement := by
  obtain ⟨refAbsent, refHoldover, refExpired⟩ := conditions
  have same : s.pu.device.ofReference .qualifying = s.pu.device := by
    generalize s.pu.device = d at refAbsent refHoldover refExpired ⊢
    obtain ⟨a, e, w, h, l⟩ := d
    cases refAbsent
    cases refHoldover
    cases refExpired
    rfl
  unfold State.setReference
  dsimp only
  rw [absent, if_neg (show RefState.qualifying ≠ .absent from nofun)]
  refine (if_pos rfl).trans (congrArg State.startMeasurement ?_)
  exact if_pos same

end Held

/-! ## The judgement of a presence window (R58 to R63) -/

section Window
variable {s t : State}

/-- The reference state after a window: absence before everything, then the disciplined input (R60 to R62). -/
def RefState.afterWindow (st : RefState) (present previous sample : Bool) : RefState :=
  (st.afterPresence present).afterSample previous sample

/-- The state that a window's judgement leaves before its last change: as it was but for a drawn order, or with the
disciplined input's change taken first. -/
def Redrawn (s v : State) (present previous sample : Bool) : Prop :=
  ∃ d, v = { s with draws := d } ∨
    present = false ∧ s.ref.state.afterSample previous sample ≠ s.ref.state ∧
      v = ({ s with draws := d } : State).setReference (s.ref.state.afterSample previous sample)

theorem afterSample_present {st : RefState} {previous sample : Bool} (moved : st.afterSample previous sample ≠ st) :
    st ≠ .absent ∧ st.afterSample previous sample ≠ .absent := by
  cases st <;> cases previous <;> cases sample <;> simp_all [RefState.afterSample]

theorem afterWindow_one (st : RefState) (present previous sample : Bool) :
    st.afterPresence present = st ∨
      (st.afterPresence present).afterSample previous sample = st.afterPresence present := by
  cases present with
  | false => exact .inr rfl
  | true =>
    cases st with
    | absent => exact .inr rfl
    | qualifying => exact .inl rfl
    | locked => exact .inl rfl
    | holdover => exact .inl rfl
    | expired => exact .inl rfl

theorem afterWindow_absent (present previous sample : Bool) :
    RefState.absent.afterWindow present previous sample = .absent ∨
      RefState.absent.afterWindow present previous sample = .qualifying := by
  cases present with
  | false => exact .inl rfl
  | true => exact .inr rfl

theorem moveReference_self (s : State) : s.moveReference s.ref.state = s := if_pos rfl

theorem judgeWindow_cases (s : State) (present previous sample : Bool) :
    let new := s.ref.state.afterWindow present previous sample
    let t := s.judgeWindow present previous sample
    (new = s.ref.state → t = s) ∧
      (new ≠ s.ref.state → ∃ v, Redrawn s v present previous sample ∧ t = v.setReference new) := by
  intro new t
  by_cases both : present = false ∧ s.ref.state.afterSample previous sample ≠ s.ref.state
  · obtain ⟨gone, changed⟩ := both
    have absent : new = .absent := by
      change (s.ref.state.afterPresence present).afterSample previous sample = _
      rw [gone]
      rfl
    have moved : t = (if Config.disciplinedFirst s.draws then
        ({ s with draws := s.draws + 1 } : State).setReference (s.ref.state.afterSample previous sample)
        else { s with draws := s.draws + 1 }).setReference .absent := if_pos ⟨gone, changed⟩
    refine ⟨fun same => absurd (same.symm.trans absent) (afterSample_present changed).1, fun _ => ?_⟩
    rw [absent]
    split at moved
    · exact ⟨_, ⟨s.draws + 1, .inr ⟨gone, changed, rfl⟩⟩, moved⟩
    · exact ⟨_, ⟨s.draws + 1, .inl rfl⟩, moved⟩
  · let mid := s.ref.state.afterPresence present
    have eq : t = (s.moveReference mid).moveReference
        ((s.moveReference mid).ref.state.afterSample previous sample) := if_neg both
    have state : (s.moveReference mid).ref.state = mid := by
      unfold State.moveReference
      split
      · next same => exact same.symm
      · rw [(setReference_frame ..).2]
        rfl
    have one : t = s.moveReference new := by
      rw [eq, state]
      rcases afterWindow_one s.ref.state present previous sample with still | still
      · have new' : new = mid.afterSample previous sample := rfl
        rw [new', show mid = s.ref.state from still, moveReference_self]
      · have self := moveReference_self (s.moveReference mid)
        rw [state] at self
        rw [show mid.afterSample previous sample = mid from still, self]
        exact congrArg s.moveReference still.symm
    refine ⟨fun same => one.trans (if_pos same), fun moved => ⟨s, ⟨s.draws, .inl rfl⟩, one.trans (if_neg moved)⟩⟩

/-- What the reference's change at the end of a window leaves of the state before its last change. -/
structure Redirected (s v : State) : Prop where
  frame : RefFrame { s with draws := v.draws } v
  kept : v.ref.lastCount = s.ref.lastCount ∧ v.ref.disciplined = s.ref.disciplined
  device : ∀ st, v.pu.device.ofReference st = s.pu.device.ofReference st
  present : s.ref.state ≠ .absent → v.ref.state ≠ .absent ∧
    ∀ m r, s.fc.current = some m → m.syn = .rx r → v.fc.current = some m
  absent : s.ref.state = .absent → v = { s with draws := v.draws }

theorem Redrawn.redirected {v : State} {present previous sample : Bool} (h : Redrawn s v present previous sample) :
    Redirected s v := by
  obtain ⟨d, rfl | ⟨-, changed, rfl⟩⟩ := h
  · exact ⟨.refl _, ⟨rfl, rfl⟩, fun _ => rfl, fun present => ⟨present, fun _ _ here _ => here⟩, fun _ => rfl⟩
  · obtain ⟨here, there⟩ := afterSample_present changed
    generalize s.ref.state.afterSample previous sample = st at there ⊢
    obtain ⟨frame, ref⟩ := setReference_frame ({ s with draws := d } : State) st
    obtain ⟨-, keeps⟩ := setReference_counter (s := { s with draws := d }) (st := st) here
    refine ⟨?_, ?_, fun st' => ?_, fun _ => ⟨?_, keeps there⟩, fun absent => absurd absent here⟩
    · rw [frame.draws]
      exact frame
    · rw [ref]
      exact ⟨rfl, rfl⟩
    · rw [setReference_device]
      rfl
    · rw [ref]
      exact there

theorem ofReference_eq (d : DeviceConditions) (st : RefState) : d.ofReference st = { d with
    refAbsent := decide (st = .absent ∨ st = .qualifying)
    refHoldover := decide (st = .holdover), refExpired := decide (st = .expired) } := by
  cases st <;> rfl

theorem RefFrame.limits (h : RefFrame s t) : t.limits = s.limits := by
  have active : t.pe.active = s.pe.active := by
    rcases h.pe with same | ⟨-, failed⟩
    · rw [same]
    · rw [failed]
      rfl
  rw [State.limits, active]
  rfl

/-- Settles O39. -/
theorem presenceWindowJudged : Obligations.PresenceWindowJudged := by
  intro s edges level
  refine ⟨fun held => if_pos held, fun live => ?_⟩
  intro present new
  let p := s.passWindow present
  let w : State := { p with ref := { p.ref with lastCount := edges, disciplined := level } }
  let t := w.judgeWindow present s.ref.disciplined level
  have time : TimeFrame s p := passWindow_frame s present
  have exec_eq : exec (.presenceWindowEnd edges level) s = .next t := by
    change execPresenceWindowEnd edges level s = _
    exact if_neg live
  have ref : w.ref = { s.ref with lastCount := edges, disciplined := level } := by
    change { p.ref with lastCount := edges, disciplined := level } = _
    rw [time.ref]
  have passed : p.time.backup = s.time.backup + 1 ∧
      p.time.steps = s.time.steps + (if s.ref.state = .absent ∨ present = false then 1 else 0) := by
    change (s.passWindow present).time.backup = _ ∧ (s.passWindow present).time.steps = _
    unfold State.passWindow
    dsimp only
    split <;> exact ⟨rfl, rfl⟩
  have judged : new = w.ref.state.afterWindow present s.ref.disciplined level := by
    rw [ref]
    change (if present = false then _ else _) = _
    cases present <;> cases s.ref.state <;> cases s.ref.disciplined <;> cases level <;> rfl
  obtain ⟨stays, moves⟩ := judgeWindow_cases w present s.ref.disciplined level
  rw [← judged] at stays moves
  have state : w.ref.state = s.ref.state := by rw [ref]
  rw [state] at stays moves
  refine ⟨t, exec_eq, ?_⟩
  by_cases same : new = s.ref.state
  · have eq : t = w := stays same
    rw [eq]
    exact ⟨time.phase, time.supply, time.pending, state.trans same.symm, rfl, rfl, passed.1, passed.2,
      fun _ => ⟨ref, time.pu, time.ports, time.pe, time.syn, time.fc, time.lanes, time.os, time.store, time.inputs⟩,
      fun moved => absurd same moved⟩
  · obtain ⟨v, redrawn, eq⟩ := moves same
    obtain ⟨frame, ⟨lastCount, disciplined⟩, device, here, gone⟩ := redrawn.redirected
    obtain ⟨frame', ref'⟩ := setReference_frame v new
    have told := setReference_told v new
    have device' := setReference_device v new
    have counter (present : v.ref.state ≠ .absent) := setReference_counter (s := v) (st := new) present
    rw [← show t = _ from eq] at frame' ref' told device' counter
    have limits : v.limits = s.limits := frame.limits.trans time.limits
    have whole : t.time = p.time := frame'.time.trans frame.time
    have steps : v.time.steps = t.time.steps := (congrArg TimeBase.steps frame'.time).symm
    refine ⟨frame'.phase.trans (frame.phase.trans time.phase), frame'.supply.trans (frame.supply.trans time.supply),
      frame'.pending.trans (frame.pending.trans time.pending), by rw [ref']; rfl, by rw [ref']; exact lastCount,
      by rw [ref']; exact disciplined, by rw [whole]; exact passed.1, by rw [whole]; exact passed.2,
      fun still => absurd still same, fun _ => ⟨told, ?_, ?_, ?_, ?_, fun absent => ?_, fun absent a h e => ?_⟩⟩
    · rw [ref']
      exact steps
    · rw [ref', ← steps, ← limits]
      rfl
    · rw [ref', ← steps, ← limits]
      rfl
    · rw [device', device, ofReference_eq, show w.pu.device = s.pu.device from congrArg Protection.device time.pu]
    · obtain ⟨present', receive⟩ := here (by
        rw [state]
        exact fun absent' => same (absent.trans absent'.symm))
      obtain ⟨spoiled, received⟩ := (counter present').1 absent
      exact ⟨spoiled, fun m r current rx => received m r (receive m r (time.fc.symm ▸ current) rx) rx⟩
    · have qualifying : new = .qualifying := by
        have windowed := judged
        rw [state, absent] at windowed
        rw [absent, windowed] at same
        exact windowed.trans ((afterWindow_absent ..).resolve_left same)
      have v_eq : v = { w with draws := v.draws } := gone (state.trans absent)
      have vstate : v.ref.state = .absent := by
        rw [v_eq]
        exact state.trans absent
      have vdevice : v.pu.device = s.pu.device := by
        rw [v_eq]
        exact congrArg Protection.device time.pu
      have vfc : v.fc = s.fc := by
        rw [v_eq]
        exact time.fc
      have vsyn (c : Chain) : v.synth c = s.synth c := by
        rw [v_eq]
        exact time.synth_eq c
      have start := setReference_qualifying vstate (by rw [vdevice]; exact ⟨a, h, e⟩)
      rw [← qualifying, ← show t = _ from eq] at start
      let x := { v with ref := v.enterReference new }.notifyBoth .referenceChanged
      have fc : x.fc = s.fc := vfc
      refine ⟨fun m current => ?_, fun empty => ?_, fun q rest free head => ?_⟩
      · rw [start, startMeasurement_rest (s := x) (.inl (by rw [fc, current]; rfl))]
        exact fc
      · rw [start, startMeasurement_rest (s := x) (.inr (.inr (by rw [fc]; exact empty)))]
        exact fc
      · have started := startMeasurement_head (s := x) (by rw [fc]; exact free)
          (show new ≠ .absent by rw [qualifying]; nofun) (by rw [fc]; exact head)
        rw [← start] at started
        have counting : t.fc = { s.fc with
            started := s.fc.started + 1, queue := rest, current := some (x.measurementOf q) } := by
          rw [started, ← fc]
          split <;> rfl
        refine ⟨_, counting, ?_, ?_, ?_, ?_, fun own => ?_⟩
        · rw [measurementOf_eq]
        · rw [measurementOf_eq]
        · rw [measurementOf_eq]
        · rw [measurementOf_eq]
          exact congrArg (10 * ·) steps
        · rw [started, if_neg (by rw [own]; exact Bool.false_ne_true), State.synth_setSynth_same]
          exact congrArg (fun z : SynContext => { z with state := .measuring }) (vsyn q.syn)

end Window

end Sys2Proof.Machine
end

section
/-! PROOFS. A change of the device-wide conditions, the store, and the supply measurement (O58). -/

namespace Sys2Proof.Machine

/-! ## A change of the device-wide conditions and the store (R139, R146, R154) -/

section Device
variable {s t : State}

/-- No chain's S passes its level. -/
def State.Calm (s : State) : Prop :=
  ∀ x, highestSeverity s.severities s.pu.device (s.protection x).present ≤ (s.protection x).level

theorem protect_keepsCalm (calm : s.Calm) (x : Tx) : (s.protect x).Calm ∧ (s.protect x).store = s.store := by
  rw [protect_calm (calm x)]
  refine ⟨fun y => ?_, rfl⟩
  change highestSeverity s.severities s.pu.device _ ≤ _
  rw [decideProtection_protection]
  split
  · obtain ⟨present, -, -, rises, -⟩ := ChainProtection.decide_keeps (s.protection x) s.severities s.limits s.pu.device
      s.time.steps s.time.seconds
    rw [State.judged, present]
    exact (calm x).trans rises
  · exact calm y

theorem foldl_protect_calm (l : List Tx) (calm : s.Calm) : (l.foldl State.protect s).store = s.store := by
  induction l generalizing s with
  | nil => rfl
  | cons x l ih =>
    obtain ⟨calm', store⟩ := protect_keepsCalm calm x
    exact (ih calm').trans store

/-- Fewer conditions on a part whose levels cover them add no lockout and write nothing. -/
theorem setDevice_calm (level : s.LevelSound) {d : DeviceConditions}
    (fewer : ∀ k c, isPresent d c k = true → isPresent s.pu.device c k = true) : (s.setDevice d).store = s.store := by
  unfold State.setDevice
  split
  · rfl
  · refine foldl_protect_calm (s := { s with pu := { s.pu with device := d } }) allTx fun x => ?_
    obtain ⟨highest, below⟩ := level x
    exact (highestSeverity_mono _ s.pu.device _ fun k => fewer k _).trans (highest ▸ below)

/-- A chain's lockout only comes, so one that has not changed in the end has not changed on the way. -/
theorem protect_store {x : Tx} (same : ((s.protect x).protection x).lockedOut = (s.protection x).lockedOut) :
    (s.protect x).store = s.store := by
  have judged : (s.decideProtection x).protection x = s.judged x := (decideProtection_protection s x x).trans (if_pos rfl)
  have later := (handProtection_keeps s (s.decideProtection x) x).locked x
  have earlier : (s.protection x).lockedOut = true → (s.judged x).lockedOut = true := by
    obtain ⟨-, -, -, -, locked⟩ := ChainProtection.decide_keeps (s.protection x) s.severities s.limits s.pu.device
      s.time.steps s.time.seconds
    exact locked
  have between : ((s.decideProtection x).protection x).lockedOut = (s.protection x).lockedOut := by
    cases before : (s.protection x).lockedOut with
    | true => rw [judged, earlier before]
    | false =>
      cases there : ((s.decideProtection x).protection x).lockedOut with
      | false => rfl
      | true => exact absurd ((same.trans before).symm.trans (later there)) Bool.false_ne_true
  exact (handProtection_store between).1

theorem foldl_protect_store (l : List Tx) (same : ∀ x, ((l.foldl State.protect s).protection x).lockedOut
    = (s.protection x).lockedOut) : (l.foldl State.protect s).store = s.store := by
  induction l generalizing s with
  | nil => rfl
  | cons x l ih =>
    have locked (y : Tx) : ((s.protect x).protection y).lockedOut = (s.protection y).lockedOut := by
      have rest : Keeps (s.protect x) (l.foldl State.protect (s.protect x)) :=
        foldl_related (f := State.protect) Keeps.refl Keeps.trans protect_keeps l _
      cases before : (s.protection y).lockedOut with
      | true => exact (protect_keeps s x).locked y before
      | false =>
        cases there : ((s.protect x).protection y).lockedOut with
        | false => rfl
        | true => exact absurd (((same y).trans before).symm.trans (rest.locked y there)) Bool.false_ne_true
    exact (ih fun y => (same y).trans (locked y).symm).trans (protect_store (locked x))

/-- A write to SITE is under way, or one waits that may start. -/
def State.SiteWaits (s : State) : Prop :=
  s.store.inFlight.isSome = true ∨
    (s.record .site).pendingContent.isSome = true ∧ (s.record .site).retry = none

theorem State.SiteWaits.of_store (store : t.store = s.store) (h : s.SiteWaits) : t.SiteWaits := by
  rw [State.SiteWaits, State.record, store]
  exact h

/-- A started writer is busy where it is free to write. -/
theorem State.SiteWaits.busy (h : s.SiteWaits) (running : s.phase = .running) (supply : s.supply.state = .normal) :
    s.writerStart.store.inFlight.isSome = true := by
  by_cases busy : s.store.inFlight = none
  · rcases h with flight | ⟨pending, retry⟩
    · rw [busy] at flight
      cases flight
    · obtain ⟨c, content⟩ := Option.isSome_iff_exists.mp pending
      rw [writerStart_site ⟨running, busy, supply⟩ content retry, startWrite_some content]
      rfl
  · rw [writerStart_rest fun free => absurd free.idle busy]
    exact Option.isSome_iff_ne_none.mpr busy

theorem State.SiteWaits.writerStart (h : s.SiteWaits) : s.writerStart.SiteWaits := by
  by_cases free : s.WriterFree
  · exact .inl (h.busy free.running free.supply)
  · rw [writerStart_rest fun free' => absurd free' free]
    exact h

theorem State.SiteWaits.requestSite (h : s.SiteWaits) : s.requestSite.SiteWaits := by
  refine SiteWaits.writerStart ?_
  rcases h with flight | ⟨-, retry⟩
  · exact .inl flight
  · refine .inr ?_
    rw [State.record_setRecord_same]
    exact ⟨rfl, retry⟩

theorem State.SiteWaits.protect (h : s.SiteWaits) (x : Tx) : (s.protect x).SiteWaits := by
  let v := s.decideProtection x
  let moved := State.levelMoved s v x
  have noticed : (v.tellChange moved).SiteWaits := .of_store (tellChange_frame v moved).store h
  have announced : (State.announced s v x).SiteWaits := by
    unfold State.announced State.tellLockout
    split
    · exact .of_store (probationFailure_store _) noticed.requestSite
    · exact noticed
  exact .of_store (tellChain_frame (State.announced s v x) x moved).store announced

theorem State.SiteWaits.setDevice (h : s.SiteWaits) (d : DeviceConditions) : (s.setDevice d).SiteWaits := by
  unfold State.setDevice
  split
  · exact h
  · refine foldl_related (R := fun s t => s.SiteWaits → t.SiteWaits) (fun _ => id) (fun a b k => b (a k))
      (f := State.protect) (fun s x k => k.protect x) allTx { s with pu := { s.pu with device := d } } h

end Device

/-! ## The supply measurement (R154, R158) -/

/-- Settles O58. -/
theorem supplyMeasured : Obligations.SupplyMeasured := by
  intro s m live above new
  have after : s.supply.state.after m = new := by
    change s.supply.state.after m = (match s.supply.state with
      | .normal => if m.val < 180 then _ else _
      | .warning => if 188 ≤ m.val then _ else _)
    cases s.supply.state with
    | normal => exact if_congr decide_eq_true_iff rfl rfl
    | warning => rfl
  have exec_eq : exec (.supplyMeasurement m) s =
      .next (({ s with supply := { s.supply with measurement := m } } : State).moveSupply new) := by
    change execSupplyMeasurement m s = _
    rw [execSupplyMeasurement, if_neg live, if_neg (by rw [supplyBelow80, decide_eq_true_iff]; exact not_lt.mpr above)]
    exact congrArg _ (congrArg _ after)
  refine ⟨fun same => ?_, fun moved => ?_⟩
  · exact exec_eq.trans (congrArg _ (if_pos same))
  · generalize new = st at exec_eq moved ⊢
    let v := ({ s with supply := { s.supply with measurement := m, state := st } } : State).notifyBoth .supplyChanged
    let d : DeviceConditions := { s.pu.device with supplyWarning := st == .warning }
    let u := v.setDevice d
    have frame : ProtFrame v u := setDevice_frame v d
    have writer : ProtFrame u u.writerStart := writerStart_frame u
    have whole := frame.trans writer
    have supply : u.supply.state = st := congrArg Supply.state frame.supply
    refine ⟨u.writerStart, exec_eq.trans (congrArg _ (if_neg moved)), whole.phase, whole.time, whole.ref, whole.pending,
      whole.supply, fun q => ?_, ?_, fun normal running pending retry => ?_, fun normal running level => ?_,
      fun warning kept => ?_⟩
    · exact (writerStart_heeds u).told _ _ ((setDevice_tells v d).told _ _ (notifyBoth_told ..))
    · rw [(writerStart_outside u).pu, setDevice_device]
      exact congrArg (fun b => ({ s.pu.device with supplyWarning := b } : DeviceConditions)) (by cases st <;> rfl)
    · have waits : v.SiteWaits := .inr ⟨pending, retry⟩
      exact (State.SiteWaits.setDevice waits d).busy (frame.phase.trans running) (supply.trans normal)
    · have store : u.store = s.store := setDevice_calm (s := v) level fun k c present => by
        have fewer : d.supplyWarning = false := by
          change (st == .warning) = false
          rw [normal]
          rfl
        cases k with
        | supplyWarning => exact absurd (fewer.symm.trans present) Bool.false_ne_true
        | refAbsent => exact present
        | txLoLost => exact present
        | txLoUnverified => exact present
        | paFault => exact present
        | refExpired => exact present
        | paWarning => exact present
        | refHoldover => exact present
        | linksSilent => exact present
      have record (r : RecordName) : u.record r = s.record r := by rw [State.record, store]; rfl
      have running' : u.phase = .running := frame.phase.trans running
      intro starts waits
      have free (idle : s.store.inFlight = none) : u.WriterFree := ⟨running', by rw [store, idle], supply.trans normal⟩
      have started {r : RecordName} {c : Content} (content : (s.record r).pendingContent = some c)
          (eq : u.writerStart = u.startWrite r) :
          u.writerStart.store.inFlight = some { record := r, content := c, retryUsed := (s.record r).retryUsed } ∧
            (u.writerStart.record r).pendingContent = none ∧ (u.writerStart.record r).status = .invalid := by
        rw [eq, startWrite_some (by rw [record, content])]
        have written (x : StoredRecord) : (u.setRecord r x).record r = x := State.record_setRecord_same ..
        refine ⟨by rw [record], ?_⟩
        change ((u.setRecord r _).record r).pendingContent = none ∧ ((u.setRecord r _).record r).status = .invalid
        rw [written]
        exact ⟨rfl, rfl⟩
      refine ⟨fun busy => ?_, fun c idle ready => ?_, fun c idle none ready => ?_, fun none => ?_⟩
      · rw [writerStart_rest fun free' => absurd free'.idle (by
          rw [store]
          exact Option.isSome_iff_ne_none.mp busy), store]
      · obtain ⟨content, retry⟩ := ready
        exact started content (writerStart_site (free idle) (by rw [record, content]) (by rw [record, retry]))
      · obtain ⟨content, retry⟩ := ready
        refine started content (writerStart_dflt (free idle) ?_ (by rw [record, content]) (by rw [record, retry]))
        rw [← Bool.not_eq_true, writeReady_iff, record]
        exact fun ⟨c', content', retry'⟩ => none c' ⟨content', retry'⟩
      · rw [writerStart_rest fun _ r => ?_, store]
        rw [← Bool.not_eq_true, writeReady_iff, record]
        exact fun ⟨c', content', retry'⟩ => none r c' ⟨content', retry'⟩
    · have warned : u.supply.state ≠ .normal := by rw [supply, warning]; nofun
      rw [writerStart_rest fun free => absurd free.supply warned] at kept ⊢
      change (v.setDevice d).store = v.store
      by_cases same : d = v.pu.device
      · rw [State.setDevice, if_pos same]
      · have eq : u = allTx.foldl State.protect { v with pu := { v.pu with device := d } } := if_neg same
        rw [eq] at kept
        change u.store = _
        rw [eq]
        exact foldl_protect_store allTx kept

end Sys2Proof.Machine
end

section
/-! PROOFS. The lane tables, a ramp step's values, and which moves of a sequencer start a ramp. -/

namespace Sys2Proof.Machine

/-! ## The lane tables (R31, R93, R95, R96) -/

section Tables
variable {s t : State} {n : Slot}

theorem isVerified_iff (s : State) (c : Chain) : s.isVerified c = true ↔ (s.synth c).state = .verified := beq_iff_eq

theorem carriesLanes_iff (st : SeqState) :
    st.carriesLanes = true ↔ st ∈ [SeqState.rampUp, .onAir, .muted, .rampDown] := by
  cases st <;> decide

theorem levelScaled_eq (share : Nat) (level : Level) :
    levelScaled share level = if level = 0 then share else if level = 1 then share / 2 else 0 := by
  match level with
  | 0 => rfl
  | 1 => rfl
  | 2 => rfl
  | 3 => rfl

theorem targetOf_absent (slot : (s.lane n).slot = none) (st : LaneState) : s.targetOf n st = 0 := by
  rw [State.targetOf, slot]

theorem laneStateOf_absent (slot : (s.lane n).slot = none) : s.laneStateOf n = .unassigned := by
  rw [State.laneStateOf, slot]

/-- A lane's target, by its state, its chain's state and level. -/
theorem targetOf_present {e : SlotEntry} (slot : (s.lane n).slot = some e) (st : LaneState) : s.targetOf n st =
    if (st = .livePrimary ∨ st = .liveFallback) ∧
        ((s.seq e.outputChain).state = .rampUp ∨ (s.seq e.outputChain).state = .onAir) then
      levelScaled (s.pe.active.effectiveShare n) (s.protection e.outputChain).level
    else 0 := by
  rw [State.targetOf, slot]
  exact if_congr (by simp only [Bool.and_eq_true, Bool.or_eq_true, beq_iff_eq]) rfl rfl

/-- A lane is HELD where its chain does not carry lanes or its source is not VERIFIED (R95). -/
theorem laneStateOf_held {e : SlotEntry} (slot : (s.lane n).slot = some e)
    (held : (s.seq e.outputChain).state.carriesLanes = false ∨ (s.pe.active.tx.get e.outputChain).enabled = false ∨
      s.isVerified (.rx (e.sourceChain (s.input n).source)) = false) : s.laneStateOf n = .held := by
  rw [State.laneStateOf, slot]
  refine if_pos ?_
  rcases held with no | no | no
  · rw [no]; rfl
  · rw [no, Bool.not_false, Bool.or_true]; rfl
  · rw [no, Bool.not_false, Bool.or_true]

theorem laneStateOf_live {e : SlotEntry} {i : InputState} (slot : (s.lane n).slot = some e)
    (carries : (s.seq e.outputChain).state.carriesLanes = true)
    (enabled : (s.pe.active.tx.get e.outputChain).enabled = true)
    (verified : s.isVerified (.rx (e.sourceChain (s.input n).source)) = true)
    (input : (s.input n).inputState = some i) : s.laneStateOf n = i.laneState := by
  rw [State.laneStateOf, slot]
  dsimp only
  rw [carries, enabled, verified, input]
  rfl

end Tables

/-! ## One step of a ramp (R32, R33, R103) -/

section Step
variable {s t : State} {x : Tx}

theorem stepRamp_lane (s : State) (x : Tx) (n : Slot) : (s.stepRamp x).lane n =
    if s.laneOn x n = true then
      { s.lane n with current := rampValue (s.lane n).start (s.lane n).target ((s.mixer x).step + 1) }
    else s.lane n := by
  have fold := foldl_setLane
    (g := fun s' n => { s'.lane n with current := rampValue (s'.lane n).start (s'.lane n).target ((s.mixer x).step + 1) })
    (fun s m n y other => by rw [State.lane_setLane, if_neg other]) (lanesOn_nodup s x) s n
  exact fold.trans (if_congr (mem_lanesOn s x n) rfl rfl)

theorem stepRamp_mixer (s : State) (x y : Tx) : (s.stepRamp x).mixer y =
    if y = x then { s.mixer x with
      step := (s.mixer x).step + 1
      timer := if 16 ≤ (s.mixer x).step + 1 then none else some (s.time.steps + (s.mixer x).rampUnit) }
    else s.mixer y := by
  have mixers := foldl_setLane_mixers
    (fun s' n => { s'.lane n with current := rampValue (s'.lane n).start (s'.lane n).target ((s.mixer x).step + 1) })
    (s.lanesOn x) s
  have time := foldl_setLane_time
    (fun s' n => { s'.lane n with current := rampValue (s'.lane n).start (s'.lane n).target ((s.mixer x).step + 1) })
    (s.lanesOn x) s
  refine (State.mixer_setMixer ..).trans ?_
  split
  · rfl
  · rw [State.mixer, mixers]
    rfl

/-- A ramp value lies between its ends, so it is never below 0. -/
theorem rampValue_eq (start target : Nat) {k : Nat} (le : k ≤ 16) :
    ((rampValue start target k : Nat) : Int) = start + ((target : Int) - start) * k / 16 := by
  have nonneg : 0 ≤ (start : Int) + ((target : Int) - start) * k / 16 := by
    have expand : ((target : Int) - start) * k = (target * k : Nat) - (start * k : Nat) := by
      push_cast
      ring
    have bound : start * k ≤ start * 16 := Nat.mul_le_mul_left start le
    rw [expand]
    omega
  exact Int.toNat_of_nonneg nonneg

theorem rampValue_end (start target : Nat) : rampValue start target 16 = target := by
  rw [rampValue]
  omega

/-- Sixteen times a ramp value is at most the weighted mean of its ends. -/
theorem rampValue_le (start target : Nat) {k : Nat} (le : k ≤ 16) :
    16 * rampValue start target k ≤ start * (16 - k) + target * k := by
  have eq := rampValue_eq start target le
  have expand : ((target : Int) - start) * k = (target * k : Nat) - (start * k : Nat) := by
    push_cast
    ring
  have split : start * (16 - k) = start * 16 - start * k := Nat.mul_sub start 16 k
  have bound : start * k ≤ start * 16 := Nat.mul_le_mul_left start le
  rw [expand] at eq
  omega

/-- The currents of a ramp sum to no more than the larger of its ends' sums (R33). -/
theorem rampValue_sum_le (l : List Slot) (start target : Slot → Nat) {k : Nat} (le : k ≤ 16) :
    (l.map fun n => rampValue (start n) (target n) k).sum ≤ max (l.map start).sum (l.map target).sum := by
  have mean : 16 * (l.map fun n => rampValue (start n) (target n) k).sum
      ≤ (l.map start).sum * (16 - k) + (l.map target).sum * k := by
    induction l with
    | nil => simp
    | cons n l ih =>
      have own := rampValue_le (start n) (target n) le
      simp only [List.map_cons, List.sum_cons]
      rw [Nat.add_mul, Nat.add_mul]
      omega
  have low := Nat.mul_le_mul_right (16 - k) (le_max_left (l.map start).sum (l.map target).sum)
  have high := Nat.mul_le_mul_right k (le_max_right (l.map start).sum (l.map target).sum)
  have whole : max (l.map start).sum (l.map target).sum * (16 - k) + max (l.map start).sum (l.map target).sum * k
      = max (l.map start).sum (l.map target).sum * 16 := by
    rw [← Nat.mul_add, Nat.sub_add_cancel le]
  omega

end Step

/-! ## Which moves of a sequencer start a ramp (R96, R122) -/

section Ramps
variable {s t u : State} {x : Tx}

/-- No ramp of chain `x` starts from `s` to `t`: its mixer and its lanes' ends are as they were. -/
def Unramped (x : Tx) (s t : State) : Prop :=
  t.mixer x = s.mixer x ∧
    ∀ n, s.laneOn x n = true → (t.lane n).start = (s.lane n).start ∧ (t.lane n).target = (s.lane n).target

theorem Unramped.refl (x : Tx) (s : State) : Unramped x s s := ⟨rfl, fun _ _ => ⟨rfl, rfl⟩⟩

theorem Unramped.trans (slots : ∀ n, (t.lane n).slot = (s.lane n).slot) (a : Unramped x s t) (b : Unramped x t u) :
    Unramped x s u := by
  refine ⟨b.1.trans a.1, fun n on => ?_⟩
  obtain ⟨start, target⟩ := a.2 n on
  obtain ⟨start', target'⟩ := b.2 n ((laneOn_congr (slots n) x).trans on)
  exact ⟨start'.trans start, target'.trans target⟩

theorem entered_unramped (s : State) (x : Tx) (st : SeqState) : Unramped x s (s.entered x st) := by
  rcases entered_cases s x st with ⟨-, -, eq⟩ | ⟨-, eq⟩
  · let w := s.written x st
    let v := w.setSeq x { w.seq x with handedOver := w.pe.active.tuningLo x, retunePending := false }
    have handed : s.entered x st = v.takeWanted (.tx x) (w.pe.active.tuningLo x) := eq
    have words (n : Slot) : { (s.entered x st).lane n with transmitWord := none } = { s.lane n with transmitWord := none } := by
      obtain ⟨u, quiet, eq'⟩ := takeWanted_quiet v x (w.pe.active.tuningLo x)
      rw [handed]
      rcases eq' with eq' | eq'
      · rw [eq']
        exact quiet.words n
      · rw [eq', State.lane, startMeasurement_lanes]
        exact quiet.words n
    refine ⟨?_, fun n _ => ⟨(congrArg Lane.start (words n) :), (congrArg Lane.target (words n) :)⟩⟩
    rw [handed, State.mixer, (takeWanted_frame v (.tx x) (w.pe.active.tuningLo x)).mixers]
    rfl
  · rw [eq]
    exact .refl x s

theorem cleared_unramped (s : State) (x : Tx) (st : SeqState) : Unramped x s (s.cleared x st) := by
  unfold State.cleared
  split
  · obtain ⟨lane, -, -, mixers⟩ := clearPhases_spec s x
    refine ⟨by rw [State.mixer, mixers]; rfl, fun n _ => ?_⟩
    rw [lane]
    split <;> exact ⟨rfl, rfl⟩
  · exact .refl x s

/-- A move of a sequencer starts a ramp of its chain where it changes a target, and only there. -/
theorem moveSeq_ramp (s : State) (x : Tx) (st : SeqState) : let t := s.moveSeq x st
    Unramped x s t ∨
      t.mixer x = s.restarted x ∧ ∃ n, s.laneOn x n = true ∧ (t.lane n).target ≠ (s.lane n).target := by
  intro t
  let w := (s.entered x st).cleared x st
  have eq : t = w.decideLanes (w.lanesOn x) := moveSeq_eq ..
  have slots (n : Slot) : (w.lane n).slot = (s.lane n).slot :=
    ((decideLanes_reads w (w.lanesOn x)).slots n).symm.trans (eq ▸ (moveSeq_moves s x st).slots n)
  have before : Unramped x s w :=
    (entered_unramped s x st).trans (entered_moves s x st).slots (cleared_unramped ..)
  have time : w.time = s.time :=
    ((decideLanes_frame w (w.lanesOn x)).time.symm.trans (by rw [← eq])).trans (moveSeq_moves s x st).time
  by_cases retargets : w.Retargets (w.lanesOn x) x
  · obtain ⟨mixer, -⟩ := decideLanes_ramps retargets
    obtain ⟨n, -, on, changed⟩ := retargets
    have on' : s.laneOn x n = true := (laneOn_congr (slots n) x).symm.trans on
    refine .inr ⟨?_, n, on', ?_⟩
    · rw [eq, mixer, State.restarted, State.restarted, before.1, time]
    · rw [eq, decideLanes_target, ← (before.2 n on').2]
      exact changed
  · obtain ⟨mixer, lanes⟩ := decideLanes_no_ramp retargets
    refine .inl (before.trans slots ⟨by rw [eq, mixer], fun n on => ?_⟩)
    have target : (w.redecided (w.lanesOn x) n).target = (w.lane n).target := by
      by_contra changed
      exact retargets ⟨n, (mem_lanesOn ..).mpr on, on, changed⟩
    rw [eq, lanes n on, target]
    exact ⟨redecided_start .., rfl⟩

/-- The states in which a chain's lanes have a share. -/
def SeqState.shares (st : SeqState) : Bool := st == .rampUp || st == .onAir

theorem SeqState.shares_eq_false {st : SeqState} : st.shares = false ↔ st ≠ .rampUp ∧ st ≠ .onAir := by
  cases st <;> decide

theorem Agrees.silent {n : Slot} (agrees : s.Agrees n) (on : s.laneOn x n = true) (none : (s.seq x).state.shares = false) :
    (s.lane n).target = 0 := by
  obtain ⟨rampUp, onAir⟩ := SeqState.shares_eq_false.mp none
  exact agrees.2.trans (targetOf_quiet on rampUp onAir _)

/-- Between states without a share no ramp starts. -/
theorem moveSeq_silent {st : SeqState} (agrees : ∀ n, s.laneOn x n = true → s.Agrees n)
    (before : (s.seq x).state.shares = false) (after : st.shares = false) : Unramped x s (s.moveSeq x st) := by
  rcases moveSeq_ramp s x st with still | ⟨-, n, on, changed⟩
  · exact still
  · refine absurd ?_ changed
    have on' : (s.moveSeq x st).laneOn x n = true := (laneOn_congr ((moveSeq_moves s x st).slots n) x).trans on
    rw [Agrees.silent (moveSeq_agrees_on st on) on' (by rw [(moveSeq_seq_state s x st).1, after]),
      Agrees.silent (agrees n on) on before]

/-- A chain that gives way to a lower state: it does not rise again at the same event. -/
def State.Falls (s : State) (x : Tx) : Prop :=
  ((s.seq x).state.live = false ∨ (s.seq x).state = .driveSettle ∧ (s.seq x).driveSettled = false ∨
      (s.seq x).state = .paDischarge) ∨
    ((s.seq x).state = .muted ∨ (s.seq x).state = .rampDown) ∧
      ((s.wantedOn x && !(s.seq x).runDown) = false ∨ (s.protection x).level = 2 ∨ s.tuned x = false)

theorem State.Falls.shares (falls : s.Falls x) : (s.seq x).state.shares = false := by
  rcases falls with (off | ⟨state, -⟩ | state) | ⟨state | state, -⟩
  · cases state : (s.seq x).state <;> simp_all [SeqState.live, SeqState.shares]
  all_goals
    rw [state]
    rfl

/-- A move to an off state, to DRIVE_SETTLE or to PA_DISCHARGE rises no further. -/
theorem moveSeq_falls {st : SeqState} (low : st.live = false ∨ st = .driveSettle ∨ st = .paDischarge) :
    (s.moveSeq x st).Falls x := by
  obtain ⟨state, settled⟩ := moveSeq_seq_state s x st
  rcases low with off | drive | discharge
  · exact .inl (.inl (by rw [state, off]))
  · exact .inl (.inr (.inl ⟨state.trans drive, settled⟩))
  · exact .inl (.inr (.inr (state.trans discharge)))

/-- A move to MUTED or RAMP_DOWN of a chain that its level, a going-off cause or its synthesizer keeps down. -/
theorem moveSeq_falls_live {st : SeqState} (low : st = .muted ∨ st = .rampDown)
    (kept : s.wantedOn x = false ∨ (s.protection x).level = 2 ∨ s.tuned x = false) : (s.moveSeq x st).Falls x := by
  obtain ⟨facts, seq⟩ := moveSeq_facts (s := s) (x := x) (st := st) fun _ => by rcases low with eq | eq <;> rw [eq] <;> rfl
  obtain ⟨state, -⟩ := moveSeq_seq_state s x st
  refine .inr ⟨low.imp state.trans state.trans, ?_⟩
  rw [facts.wantedOn, facts.protection, facts.tuned]
  exact kept.imp_left fun no => by rw [no]; rfl

theorem fall_iff : (!s.wantedOn x || decide ((s.protection x).level = 2)) = true ↔
    s.wantedOn x = false ∨ (s.protection x).level = 2 := by
  rw [Bool.or_eq_true, Bool.not_eq_true', decide_eq_true_iff]

/-- The first move of a decision either puts the chain on air or lets it fall. -/
theorem nextSeq_falls {st : SeqState} (next : s.nextSeq x = some st) (none : st.shares = false) :
    (s.moveSeq x st).Falls x := by
  cases state : (s.seq x).state with
  | off =>
    rw [nextSeq_off state] at next
    split at next
    · cases next; exact moveSeq_falls (.inl rfl)
    · split at next
      · cases next
        refine moveSeq_falls ?_
        split
        · exact .inr (.inl rfl)
        · exact .inl rfl
      · cases next
  | tuning =>
    rw [nextSeq_tuning state] at next
    split at next
    · cases next; exact moveSeq_falls (.inl rfl)
    · split at next
      · cases next; exact moveSeq_falls (.inl rfl)
      · split at next
        · cases next; exact moveSeq_falls (.inr (.inl rfl))
        · cases next
  | lockedOut =>
    rw [nextSeq_lockedOut state] at next
    split at next
    · cases next
    · cases next; exact moveSeq_falls (.inl rfl)
  | driveSettle =>
    rw [nextSeq_driveSettle state] at next
    split at next
    · cases next
      refine moveSeq_falls (.inl ?_)
      split <;> rfl
    · split at next
      · split at next
        · next two => cases next; exact moveSeq_falls_live (.inl rfl) (.inr (.inl two))
        · cases next; cases none
      · cases next
  | rampUp =>
    rw [nextSeq_rampUp state] at next
    split at next
    · next fall => cases next; exact moveSeq_falls_live (.inr rfl) ((fall_iff.mp fall).imp_right .inl)
    · split at next
      · cases next
      · cases next; cases none
  | onAir =>
    rw [nextSeq_onAir state] at next
    split at next
    · next fall => cases next; exact moveSeq_falls_live (.inr rfl) ((fall_iff.mp fall).imp_right .inl)
    · cases next
  | muted =>
    rw [nextSeq_muted state] at next
    split at next
    · cases next; exact moveSeq_falls (.inr (.inr rfl))
    · split at next
      · cases next; cases none
      · cases next
  | rampDown =>
    rw [nextSeq_rampDown state] at next
    split at next
    · cases next; cases none
    · next low =>
      split at next
      · split at next
        · next stays =>
          cases next
          rw [stays, Bool.true_and, Bool.and_eq_true, decide_eq_true_iff, not_and] at low
          obtain ⟨wanted, -⟩ := Bool.and_eq_true_iff.mp stays
          obtain ⟨-, level, -⟩ := (wantedOn_iff s x).mp wanted
          refine moveSeq_falls_live (.inl rfl) ?_
          rcases level_low_or_two level with high | two
          · exact .inr (.inr (Bool.not_eq_true _ ▸ low high))
          · exact .inr (.inl two)
        · cases next; exact moveSeq_falls (.inr (.inr rfl))
      · cases next
  | paDischarge =>
    rw [nextSeq_paDischarge state] at next
    cases next

/-- A chain that falls goes to no state with a share. -/
theorem State.Falls.next {st : SeqState} (falls : s.Falls x) (next : s.nextSeq x = some st) : st.shares = false := by
  rcases falls with (off | ⟨state, unsettled⟩ | state) | ⟨state | state, kept⟩
  · cases state : (s.seq x).state with
    | off =>
      rw [nextSeq_off state] at next
      split at next
      · cases next; rfl
      · split at next
        · cases next
          split <;> rfl
        · cases next
    | tuning =>
      rw [nextSeq_tuning state] at next
      split at next
      · cases next; rfl
      · split at next
        · cases next; rfl
        · split at next
          · cases next; rfl
          · cases next
    | lockedOut =>
      rw [nextSeq_lockedOut state] at next
      split at next
      · cases next
      · cases next; rfl
    | driveSettle => rw [state] at off; cases off
    | rampUp => rw [state] at off; cases off
    | onAir => rw [state] at off; cases off
    | muted => rw [state] at off; cases off
    | rampDown => rw [state] at off; cases off
    | paDischarge => rw [state] at off; cases off
  · rw [nextSeq_driveSettle state, unsettled] at next
    split at next
    · cases next
      split <;> rfl
    · cases next
  · rw [nextSeq_paDischarge state] at next
    cases next
  · rw [nextSeq_muted state] at next
    split at next
    · cases next; rfl
    · next on =>
      split at next
      · next up =>
        rw [Bool.not_eq_true, Bool.or_eq_false_iff, Bool.not_eq_false'] at on
        obtain ⟨wanted, keeps⟩ := on
        rw [Bool.and_eq_true, decide_eq_true_iff] at up
        rcases kept with no | two | no
        · rw [wanted, keeps] at no
          cases no
        · rw [two] at up
          exact absurd up.1 (by decide)
        · exact absurd (no.symm.trans up.2) Bool.false_ne_true
      · cases next
  · rw [nextSeq_rampDown state] at next
    split at next
    · next up =>
      rw [Bool.and_eq_true, Bool.and_eq_true, decide_eq_true_iff] at up
      obtain ⟨⟨wanted, low⟩, tuned⟩ := up
      rcases kept with no | two | no
      · exact absurd (no.symm.trans wanted) Bool.false_ne_true
      · rw [two] at low
        exact absurd low (by decide)
      · exact absurd (no.symm.trans tuned) Bool.false_ne_true
    · split at next
      · cases next
        split <;> rfl
      · cases next

theorem settleSeq_falls (fuel : Nat) (falls : s.Falls x) (agrees : ∀ n, s.laneOn x n = true → s.Agrees n) :
    Unramped x s (State.settleSeq fuel s x) ∧ (State.settleSeq fuel s x).Falls x := by
  induction fuel generalizing s with
  | zero => exact ⟨.refl x s, falls⟩
  | succ fuel ih =>
    cases next : s.nextSeq x with
    | none =>
      rw [settleSeq_stop _ next]
      exact ⟨.refl x s, falls⟩
    | some st =>
      have low := falls.next next
      have slots := (moveSeq_moves s x st).slots
      rw [settleSeq_next _ next]
      obtain ⟨later, falls'⟩ := ih (nextSeq_falls next low) fun n on =>
        moveSeq_agrees_on st ((laneOn_congr (slots n) x).symm.trans on)
      exact ⟨(moveSeq_silent agrees falls.shares low).trans slots later, falls'⟩

end Ramps

end Sys2Proof.Machine
end

section
/-! PROOFS. The ramp that a decision starts, and the ramp step (O47). -/

namespace Sys2Proof.Machine

/-! ## The ramp that a decision of a sequencer starts (R96, R103) -/

section Decision
variable {s t : State} {x : Tx}

/-- A move to a state with a share: the chain is wanted on at a level below 2, and ON_AIR follows RAMP_UP alone. -/
theorem nextSeq_shares {st : SeqState} (next : s.nextSeq x = some st) (shares : st.shares = true) :
    s.wantedOn x = true ∧ (s.protection x).level ≠ 2 ∧
      (st = .rampUp ∧ ((s.seq x).state = .driveSettle ∨ (s.seq x).state = .muted ∨ (s.seq x).state = .rampDown) ∨
        st = .onAir ∧ (s.seq x).state = .rampUp) := by
  cases state : (s.seq x).state with
  | off =>
    rw [nextSeq_off state] at next
    split at next
    · cases next; cases shares
    · split at next
      · cases next
        split at shares <;> cases shares
      · cases next
  | tuning =>
    rw [nextSeq_tuning state] at next
    split at next
    · cases next; cases shares
    · split at next
      · cases next; cases shares
      · split at next
        · cases next; cases shares
        · cases next
  | lockedOut =>
    rw [nextSeq_lockedOut state] at next
    split at next
    · cases next
    · cases next; cases shares
  | driveSettle =>
    rw [nextSeq_driveSettle state] at next
    split at next
    · cases next
      split at shares <;> cases shares
    · next wanted =>
      split at next
      · split at next
        · cases next; cases shares
        · next other =>
          cases next
          exact ⟨by simpa using wanted, other, .inl ⟨rfl, .inl rfl⟩⟩
      · cases next
  | rampUp =>
    rw [nextSeq_rampUp state] at next
    split at next
    · cases next; cases shares
    · next stays =>
      split at next
      · cases next
      · cases next
        rw [fall_iff, not_or, Bool.not_eq_false] at stays
        exact ⟨stays.1, stays.2, .inr ⟨rfl, rfl⟩⟩
  | onAir =>
    rw [nextSeq_onAir state] at next
    split at next
    · cases next; cases shares
    · cases next
  | muted =>
    rw [nextSeq_muted state] at next
    split at next
    · cases next; cases shares
    · next on =>
      split at next
      · next up =>
        cases next
        rw [Bool.not_eq_true, Bool.or_eq_false_iff, Bool.not_eq_false'] at on
        rw [Bool.and_eq_true, decide_eq_true_iff] at up
        exact ⟨on.1, up.1.ne, .inl ⟨rfl, .inr (.inl rfl)⟩⟩
      · cases next
  | rampDown =>
    rw [nextSeq_rampDown state] at next
    split at next
    · next up =>
      cases next
      rw [Bool.and_eq_true, Bool.and_eq_true, Bool.and_eq_true, decide_eq_true_iff] at up
      exact ⟨up.1.1.1, up.1.2.ne, .inl ⟨rfl, .inr (.inr rfl)⟩⟩
    · split at next
      · cases next
        split at shares <;> cases shares
      · cases next
  | paDischarge =>
    rw [nextSeq_paDischarge state] at next
    cases next

/-- A chain on air at a level other than 2 that is wanted on goes to ON_AIR at most, without a ramp. -/
theorem settleSeq_up (fuel : Nat) (up : (s.seq x).state = .rampUp ∨ (s.seq x).state = .onAir) (wanted : s.wantedOn x = true)
    (level : (s.protection x).level ≠ 2) (agrees : ∀ n, s.laneOn x n = true → s.Agrees n) :
    Unramped x s (State.settleSeq fuel s x) ∧ ((State.settleSeq fuel s x).seq x).state.shares = true := by
  induction fuel generalizing s with
  | zero => exact ⟨.refl x s, by rcases up with state | state <;> exact congrArg SeqState.shares state⟩
  | succ fuel ih =>
    have stays : (!s.wantedOn x || decide ((s.protection x).level = 2)) = false := by
      rw [wanted, decide_eq_false level]
      rfl
    cases next : s.nextSeq x with
    | none =>
      rw [settleSeq_stop _ next]
      exact ⟨.refl x s, by rcases up with state | state <;> exact congrArg SeqState.shares state⟩
    | some st =>
      rcases up with state | state
      · rw [nextSeq_rampUp state, stays, if_neg Bool.false_ne_true] at next
        split at next
        · cases next
        · next rest =>
          cases next
          have row : s.nextSeq x = some .onAir := by
            rw [nextSeq_rampUp state, stays, if_neg Bool.false_ne_true, if_neg rest]
          obtain ⟨facts, seq⟩ := moveSeq_facts (s := s) (x := x) (st := .onAir) fun _ => rfl
          obtain ⟨-, targets⟩ := moveSeq_onAir_mixer state agrees
          have still : Unramped x s (s.moveSeq x .onAir) := by
            rcases moveSeq_ramp s x .onAir with still | ⟨-, n, on, changed⟩
            · exact still
            · exact absurd (targets n on) changed
          rw [settleSeq_next _ row]
          obtain ⟨later, shares⟩ := ih (.inr (by rw [seq]; rfl)) (facts.wantedOn.trans wanted) (by rw [facts.protection]; exact level)
            fun n on => moveSeq_agrees_on _ ((laneOn_congr (facts.slots n) x).symm.trans on)
          exact ⟨still.trans facts.slots later, shares⟩
      · rw [nextSeq_onAir state, stays, if_neg Bool.false_ne_true] at next
        cases next

/-- After the first move of a decision no ramp starts, and the chain keeps to that move's side of the air. -/
theorem settleSeq_after (fuel : Nat) {st : SeqState} (next : s.nextSeq x = some st) :
    let u := s.moveSeq x st
    Unramped x u (State.settleSeq fuel u x) ∧ ((State.settleSeq fuel u x).seq x).state.shares = st.shares := by
  intro u
  have slots := (moveSeq_moves s x st).slots
  have agrees (n : Slot) (on : u.laneOn x n = true) : u.Agrees n :=
    moveSeq_agrees_on st ((laneOn_congr (slots n) x).symm.trans on)
  cases shares : st.shares with
  | false =>
    obtain ⟨later, falls⟩ := settleSeq_falls fuel (nextSeq_falls next shares) agrees
    exact ⟨later, falls.shares⟩
  | true =>
    obtain ⟨wanted, level, way⟩ := nextSeq_shares next shares
    have live : st.live = true := by rcases way with ⟨eq, -⟩ | ⟨eq, -⟩ <;> rw [eq] <;> rfl
    obtain ⟨facts, seq⟩ := moveSeq_facts (s := s) (x := x) (st := st) fun _ => live
    have state : (u.seq x).state = st := by rw [seq]; rfl
    exact settleSeq_up fuel (way.imp (fun h => state.trans h.1) fun h => state.trans h.1)
      (facts.wantedOn.trans wanted) (by rw [facts.protection]; exact level) agrees

/-- A decision of a sequencer starts a ramp of its chain where it changes a target, and only there. -/
theorem decideSeq_ramp (s : State) (x : Tx) : let t := s.decideSeq x
    Unramped x s t ∨
      t.mixer x = s.restarted x ∧ ∃ n, s.laneOn x n = true ∧ (t.lane n).target ≠ (s.lane n).target := by
  intro t
  change Unramped x s (s.decideSeq x) ∨ (s.decideSeq x).mixer x = _ ∧ ∃ n, _ ∧ ((s.decideSeq x).lane n).target ≠ _
  unfold State.decideSeq
  split
  · cases next : s.nextSeq x with
    | none =>
      rw [settleSeq_stop 4 next]
      exact .inl (.refl x s)
    | some st =>
      rw [settleSeq_next 3 next]
      have slots := (moveSeq_moves s x st).slots
      obtain ⟨later, -⟩ := settleSeq_after 3 next
      rcases moveSeq_ramp s x st with still | ⟨mixer, n, on, changed⟩
      · exact .inl (still.trans slots later)
      · refine .inr ⟨later.1.trans mixer, n, on, ?_⟩
        rw [(later.2 n ((laneOn_congr (slots n) x).trans on)).2]
        exact changed
  · exact .inl (.refl x s)

theorem offState_eq_off (h : s.offState x = .off) : (s.protection x).lockedOut = false ∧ s.wantedOn x = false := by
  unfold State.offState at h
  split at h
  · cases h
  · next free =>
    split at h
    · split at h <;> cases h
    · next unwanted => exact ⟨by simpa using free, by simpa using unwanted⟩

theorem offState_eq_tuning (h : s.offState x = .tuning) :
    (s.protection x).lockedOut = false ∧ s.wantedOn x = true ∧ s.tuned x = false := by
  unfold State.offState at h
  split at h
  · cases h
  · next free =>
    split at h
    · next wanted =>
      split at h
      · cases h
      · next untuned => exact ⟨by simpa using free, wanted, by simpa using untuned⟩
    · cases h

theorem offState_eq_lockedOut (h : s.offState x = .lockedOut) : (s.protection x).lockedOut = true := by
  unfold State.offState at h
  split at h
  · assumption
  · split at h
    · split at h <;> cases h
    · cases h

/-- A decision that moves a chain which shares keeps out of its state. -/
theorem settleSeq_moved (fuel : Nat) {st : SeqState} (next : s.nextSeq x = some st)
    (same : ((State.settleSeq (fuel + 1) s x).seq x).state = (s.seq x).state) : st.shares = (s.seq x).state.shares := by
  rw [settleSeq_next fuel next] at same
  rw [← same, (settleSeq_after fuel next).2]

/-- Only from DRIVE_SETTLE can a decision come back to the state it left. -/
theorem decideSeq_returns (same : ((s.decideSeq x).seq x).state = (s.seq x).state)
    (notSettling : (s.seq x).state ≠ .driveSettle) : s.decideSeq x = s := by
  by_cases running : s.phase = .running
  · rw [decideSeq_running running] at same ⊢
    refine settleSeq_stop 4 ?_
    cases state : (s.seq x).state with
    | off =>
      obtain ⟨facts, eq⟩ := settleSeq_off 3 state
      rw [facts.offState] at eq
      obtain ⟨free, unwanted⟩ := offState_eq_off (eq.symm.trans (same.trans state))
      rw [nextSeq_off state, free, unwanted]
      rfl
    | tuning =>
      obtain ⟨facts, eq⟩ := settleSeq_tuning 3 state
      rw [facts.offState] at eq
      obtain ⟨free, wanted, untuned⟩ := offState_eq_tuning (eq.symm.trans (same.trans state))
      rw [nextSeq_tuning state, free, wanted, untuned]
      rfl
    | lockedOut =>
      obtain ⟨facts, eq⟩ := settleSeq_lockedOut 2 state
      rw [facts.offState] at eq
      rw [nextSeq_lockedOut state, offState_eq_lockedOut (eq.symm.trans (same.trans state)), if_pos rfl]
    | driveSettle => exact absurd state notSettling
    | paDischarge => exact nextSeq_paDischarge state
    | rampUp =>
      refine Option.eq_none_iff_forall_ne_some.mpr fun st next => ?_
      have shares := (settleSeq_moved 3 next same).trans (congrArg SeqState.shares state)
      obtain ⟨wanted, level, ⟨-, other⟩ | ⟨rfl, -⟩⟩ := nextSeq_shares next shares
      · rw [state] at other
        rcases other with eq | eq | eq <;> cases eq
      · obtain ⟨-, seq⟩ := settleSeq_last 3 next (fun _ => rfl) fun t facts seq => by
          rw [nextSeq_onAir (by rw [seq]; rfl), facts.wantedOn, wanted, facts.protection, decide_eq_false level]
          rfl
        rw [seq, state] at same
        cases same
    | onAir =>
      refine Option.eq_none_iff_forall_ne_some.mpr fun st next => ?_
      have shares := (settleSeq_moved 3 next same).trans (congrArg SeqState.shares state)
      obtain ⟨-, -, ⟨-, other⟩ | ⟨-, other⟩⟩ := nextSeq_shares next shares
      · rw [state] at other
        rcases other with eq | eq | eq <;> cases eq
      · rw [state] at other
        cases other
    | muted =>
      refine Option.eq_none_iff_forall_ne_some.mpr fun st next => ?_
      have quiet := (settleSeq_moved 3 next same).trans (congrArg SeqState.shares state)
      have row := next
      rw [nextSeq_muted state] at row
      split at row
      · cases row
        rw [(SameFacts.paDischarge 3 next).2, state] at same
        cases same
      · split at row
        · cases row
          cases quiet
        · cases row
    | rampDown =>
      refine Option.eq_none_iff_forall_ne_some.mpr fun st next => ?_
      have quiet := (settleSeq_moved 3 next same).trans (congrArg SeqState.shares state)
      have row := next
      rw [nextSeq_rampDown state] at row
      split at row
      · cases row
        cases quiet
      · next low =>
        split at row
        · next zero =>
          rw [Bool.and_eq_true, Bool.and_eq_true, decide_eq_true_iff, not_and_or, not_and_or, Bool.not_eq_true,
            Bool.not_eq_true] at low
          have down : (s.wantedOn x && !(s.seq x).runDown) = false ∨ (s.protection x).level = 2 ∨ s.tuned x = false := by
            rcases low with (no | high) | no
            · exact .inl no
            · cases stays : s.wantedOn x && !(s.seq x).runDown with
              | false => exact .inl rfl
              | true =>
                obtain ⟨-, level, -⟩ := (wantedOn_iff s x).mp (Bool.and_eq_true_iff.mp stays).1
                exact .inr (.inl ((level_low_or_two level).resolve_left high))
            · exact .inr (.inr no)
          obtain ⟨-, seq⟩ := settleSeq_rampDown 3 state down
          rw [seq, if_pos zero, state] at same
          cases stays : s.wantedOn x && !(s.seq x).runDown with
          | false => rw [stays] at same; cases same
          | true => rw [stays] at same; cases same
        · cases row
  · exact if_neg running

end Decision

/-! ## O47 -/

/-- Settles O47. -/
theorem rampStepMovesShares : Obligations.RampStepMovesShares := by
  refine ⟨fun s n => ⟨fun slot => ⟨laneStateOf_absent slot, targetOf_absent slot⟩, fun e slot => ?_⟩,
    fun s x => ⟨laneOn_iff s x, by rw [← allSlots_eq]; rfl, rfl⟩, fun s ns x => ?_, fun s x d timer running => ?_⟩
  · intro source chain level share held
    have sourced : e.sourceChain (s.input n).source = source := sourceChain_eq ..
    refine ⟨sourced, isVerified_iff s _, fun h => ?_, fun live i input => ?_, fun st => ?_⟩
    · refine laneStateOf_held slot ?_
      rw [sourced, ← Bool.not_eq_true (s.isVerified _), isVerified_iff, ← Bool.not_eq_true (SeqState.carriesLanes _),
        carriesLanes_iff]
      exact h
    · obtain ⟨carries, enabled, verified⟩ : _ ∧ _ ∧ _ := by
        simpa only [held, not_or, not_not, Bool.not_eq_false] using live
      rw [laneStateOf_live slot ((carriesLanes_iff _).mpr carries) enabled
        (by rw [sourced]; exact (isVerified_iff ..).mpr verified) input]
      cases i <;> rfl
    · rw [targetOf_present slot, levelScaled_eq]
  · intro t changed
    have retargets : changed ↔ s.Retargets ns x := by
      refine exists_congr fun n => and_congr_right fun _ => and_congr_right fun _ => ?_
      rw [show (t.lane n).target = _ from decideLanes_target s ns n]
    refine ⟨fun n mem => ⟨?_, ?_⟩, fun n out => ⟨?_, ?_⟩, decideLanes_current s ns, fun h => decideLanes_ramps (retargets.mp h),
      fun h => ?_⟩
    · rw [show (t.lane n).state = _ from decideLanes_state s ns n, State.redecided, if_pos mem]
      rfl
    · rw [show (t.lane n).target = _ from decideLanes_target s ns n, State.redecided, if_pos mem]
      rfl
    · rw [show (t.lane n).state = _ from decideLanes_state s ns n, State.redecided, if_neg out]
    · rw [show (t.lane n).target = _ from decideLanes_target s ns n, State.redecided, if_neg out]
    · obtain ⟨mixer, lanes⟩ := decideLanes_no_ramp (mt retargets.mpr h)
      exact ⟨mixer, fun n on => by rw [show t.lane n = _ from lanes n on, redecided_start]⟩
  · intro k on r
    generalize hu : s.advanceTo d = u
    have time : TimeFrame s u := hu ▸ advanceTo_frame s d
    let v := u.stepRamp x
    let t := v.decideSeq x
    have exec_eq : exec (.rampStepExpiry x) s = .next t := by
      change execRampStepExpiry x s = _
      simp only [execRampStepExpiry, timer, hu]
      rfl
    have step : LaneFrame u v := (stepRamp_laneKeeps u x).toLaneFrame
    have frame : SeqFrame v t := decideSeq_frame v x
    have moves := decideSeq_moves v x
    have mixer : u.mixer x = s.mixer x := time.mixer_eq x
    have lane (n : Slot) : v.lane n = if s.laneOn x n = true then
        { s.lane n with current := rampValue (s.lane n).start (s.lane n).target k } else s.lane n := by
      rw [show v.lane n = _ from stepRamp_lane u x n, time.laneOn_eq, time.lane_eq, mixer]
    have onAir (n : Slot) : n ∈ on ↔ s.laneOn x n = true := mem_lanesOn s x n
    have slots (n : Slot) : (v.lane n).slot = (s.lane n).slot := by
      rw [lane]
      split <;> rfl
    have onAir' (n : Slot) : v.laneOn x n = true ↔ n ∈ on := by rw [laneOn_congr (slots n), onAir]
    have target {n : Slot} (mem : n ∈ on) : (v.lane n).target = (s.lane n).target := by
      rw [lane, if_pos ((onAir n).mp mem)]
    have now : v.time.steps = t.time.steps := (congrArg TimeBase.steps frame.time).symm
    have here : u.time.steps = t.time.steps := (congrArg TimeBase.steps (frame.time.trans step.time)).symm
    have le : k ≤ 16 := running
    have stepped : v.mixer x = { rampUnit := r, step := k, timer := if k = 16 then none else some (t.time.steps + r) } := by
      rw [show v.mixer x = _ from (stepRamp_mixer u x x).trans (if_pos rfl), mixer, here]
      refine congrArg (fun timer => (⟨r, k, timer⟩ : Mixer)) (if_congr ?_ rfl rfl)
      omega
    have restarted : v.restarted x = { rampUnit := r, step := 0, timer := some (t.time.steps + r) } := by
      rw [State.restarted, stepped, now]
    have current (n : Slot) : (t.lane n).current = (v.lane n).current := moves.current n
    have ramp := decideSeq_ramp v x
    have seq : v.seq x = s.seq x := (step.untouched.seq_eq x).trans (time.untouched.seq_eq x)
    have protection : v.protection x = s.protection x :=
      (step.untouched.protection_eq x).trans (time.untouched.protection_eq x)
    have wanted : v.wantedOn x = s.wantedOn x := (step.wantedOn x).trans (time.sameFacts x).wantedOn
    have lanes : t.lanesOn x = on := lanesOn_congr (fun n => (moves.slots n).trans (slots n)) x
    have sum : t.currentSum x = v.currentSum x := by
      rw [State.currentSum, State.currentSum, lanesOn_congr moves.slots]
      exact congrArg List.sum (List.map_congr_left fun n _ => current n)
    refine ⟨t, exec_eq, step.toSeq.trans frame, fun y other => ?_, ⟨fun still => ?_, fun same notSettling => ?_, fun changed => ?_⟩,
      fun n mem => ?_, fun n out => ?_, ?_, fun last => ⟨fun n mem => ?_, fun phase up want low => ?_⟩,
      fun phase down zero => ?_⟩
    · rw [show t.mixer y = _ from (decideSeq_local v x).mixer y other, show v.mixer y = _ from
        (stepRamp_mixer u x y).trans (if_neg other), time.mixer_eq]
    · rcases ramp with ⟨same, -⟩ | ⟨-, n, on', changed⟩
      · exact same.trans stepped
      · have mem := (onAir' n).mp on'
        exact absurd ((still n mem).trans (target mem).symm) changed
    · rw [show t = v from decideSeq_returns (same.trans (congrArg Sequencer.state seq).symm) (by rw [seq]; exact notSettling)]
      exact (stepped.trans (by rw [← now]))
    · obtain ⟨n, mem, changed⟩ := changed
      rcases ramp with ⟨-, ends⟩ | ⟨same, -⟩
      · exact absurd ((ends n ((onAir' n).mpr mem)).2.trans (target mem)) changed
      · exact same.trans restarted
    · rw [current, lane, if_pos ((onAir n).mp mem)]
      exact rampValue_eq _ _ le
    · rw [current, lane, if_neg (mt (onAir n).mpr out)]
    · rw [sum, State.currentSum, lanesOn_congr slots]
      have values : (s.lanesOn x).map (fun n => (v.lane n).current) =
          on.map fun n => rampValue (s.lane n).start (s.lane n).target k :=
        List.map_congr_left fun n mem => by rw [lane, if_pos ((onAir n).mp mem)]
      rw [values]
      exact rampValue_sum_le on _ _ le
    · rw [current, lane, if_pos ((onAir n).mp mem), last]
      exact rampValue_end ..
    · have rest : (v.mixer x).timer.isSome = false := by rw [stepped, if_pos last]; rfl
      have decided := (decideSeq_decided (s := v) (x := x) (step.phase.trans (time.phase.trans phase))).rampUp
        (by rw [seq]; exact up) (wanted.trans want) (by rw [protection]; exact low)
      rw [rest] at decided
      exact decided
    · have silent : v.currentSum x = 0 := sum.symm.trans zero
      have phase' : v.phase = .running := step.phase.trans (time.phase.trans phase)
      have state : (v.seq x).state = .rampDown := by rw [seq]; exact down
      have settled : t = State.settleSeq 4 v x := decideSeq_running phase'
      refine ⟨fun leaves => ?_, fun want keeps two => ?_⟩
      · have turned : (v.wantedOn x && !(v.seq x).runDown) = false := by
          rw [wanted, seq]
          rcases leaves with no | down
          · rw [no]; rfl
          · rw [down, Bool.not_true, Bool.and_false]
        obtain ⟨-, eq⟩ := settleSeq_rampDown 3 state (.inl turned)
        rw [← settled, if_pos silent, turned] at eq
        rw [eq]
        refine ⟨rfl, ?_⟩
        change some (v.time.steps + (v.seq x).paDischarge) = _
        rw [now, seq]
      · obtain ⟨-, eq⟩ := settleSeq_rampDown 3 state (.inr (.inl (by rw [protection]; exact two)))
        rw [← settled, if_pos silent, wanted, want, seq, keeps] at eq
        rw [eq]
        rfl

end Sys2Proof.Machine
end

section
/-! PROOFS. The bytes of frames: multi-byte fields, the framing check on a frame so laid out (O13), and the packing of
fields into parts (O17). -/

namespace Sys2Proof.Machine

/-! ## Reading bytes (R174) -/

section Bytes

variable {bs rest : List Byte} {i n : Nat}

theorem byteAt_add (bs : List Byte) (i k : Nat) : byteAt bs (i + k) = byteAt (bs.drop i) k := by
  simp [byteAt, List.getD_eq_getElem?_getD]

theorem signedAt_add (bs : List Byte) (i k : Nat) : signedAt bs (i + k) = signedAt (bs.drop i) k := by
  simp [signedAt, List.getD_eq_getElem?_getD]

theorem field2_add (bs : List Byte) (i k : Nat) : field2 bs (i + k) = field2 (bs.drop i) k := by
  rw [field2, field2, List.drop_drop]

theorem field4_add (bs : List Byte) (i k : Nat) : field4 bs (i + k) = field4 (bs.drop i) k := by
  rw [field4, field4, List.drop_drop]

theorem field2_eq (long : i + 2 ≤ bs.length) : field2 bs i = 256 * byteAt bs i + byteAt bs (i + 1) := by
  rw [byteAt_add bs i 1, show byteAt bs i = byteAt (bs.drop i) 0 from byteAt_add bs i 0, field2]
  match h : bs.drop i with
  | a :: b :: rest => simp [natOfBytes, byteAt]
  | [] | [_] =>
    have := congrArg List.length h
    simp at this
    omega

theorem field4_eq (long : i + 4 ≤ bs.length) :
    field4 bs i = 16777216 * byteAt bs i + 65536 * byteAt bs (i + 1) + 256 * byteAt bs (i + 2)
      + byteAt bs (i + 3) := by
  rw [byteAt_add bs i 1, byteAt_add bs i 2, byteAt_add bs i 3,
    show byteAt bs i = byteAt (bs.drop i) 0 from byteAt_add bs i 0, field4]
  match h : bs.drop i with
  | a :: b :: c :: d :: rest =>
    simp [natOfBytes, byteAt]
    omega
  | [] | [_] | [_, _] | [_, _, _] =>
    have := congrArg List.length h
    simp at this
    omega

/-! What is laid out at an offset is read there. -/

theorem field2_of_drop (laid : bs.drop i = bytes2 n ++ rest) (fits : n < 65536) : field2 bs i = n := by
  rw [← Nat.add_zero i, field2_add, laid]
  simp [field2, natOfBytes, bytes2]
  omega

theorem field4_of_drop (laid : bs.drop i = bytes4 n ++ rest) (fits : n < 2 ^ 32) : field4 bs i = n := by
  rw [← Nat.add_zero i, field4_add, laid]
  simp [field4, natOfBytes, bytes4]
  omega

theorem byteAt_of_drop (laid : bs.drop i = byte n ++ rest) (fits : n < 256) : byteAt bs i = n := by
  rw [← Nat.add_zero i, byteAt_add, laid]
  simp [byteAt, byte]
  omega

theorem signedAt_of_drop {z : Int} (laid : bs.drop i = signedByte z ++ rest) (low : -128 ≤ z) (high : z ≤ 127) :
    signedAt bs i = z := by
  rw [← Nat.add_zero i, signedAt_add, laid]
  simp only [signedAt, signedByte, List.cons_append, List.nil_append, List.getD_cons_zero, BitVec.toInt_ofInt]
  exact Int.bmod_eq_of_le (by omega) (by omega)

end Bytes

/-! ## Request frames read back (R166, R174) -/

section Frames

theorem checkFrame_requestBytes (kind tag : Byte) {payload : List Byte} (valid : payload.length ≤ 48)
    (fill : List Byte) : checkFrame (requestBytes kind tag payload ++ fill) = .good kind tag payload := by
  generalize hhead : byte payload.length ++ [kind, tag] ++ payload = head
  have size : head.length = payload.length + 3 := by
    rw [← hhead]
    simp [byte]
  have frame : requestBytes kind tag payload ++ fill = head ++ (bytes2 (crc16 head).toNat ++ fill) := by
    rw [requestBytes, hhead, List.append_assoc]
  have spelled : requestBytes kind tag payload ++ fill
      = BitVec.ofNat 8 payload.length :: kind :: tag :: (payload ++ (bytes2 (crc16 head).toNat ++ fill)) := by
    rw [frame, ← hhead]
    simp [byte]
  have len : byteAt (requestBytes kind tag payload ++ fill) 0 = payload.length := by
    rw [spelled]
    simp [byteAt]
    omega
  have covered : (requestBytes kind tag payload ++ fill).take (payload.length + 3) = head := by
    rw [frame, ← size, List.take_left]
  have crc : field2 (requestBytes kind tag payload ++ fill) (payload.length + 3) = (crc16 head).toNat :=
    field2_of_drop (by rw [frame, ← size, List.drop_left]) (crc16 head).isLt
  have complete : payload.length + 5 ≤ (requestBytes kind tag payload ++ fill).length := by
    rw [frame, List.length_append, size]
    simp [bytes2]
    omega
  rw [checkFrame, len, covered, crc, if_pos ⟨valid, complete, rfl⟩, spelled]
  simp

theorem length_requestBytes (kind tag : Byte) (payload : List Byte) :
    (requestBytes kind tag payload).length = payload.length + 5 := by
  simp [requestBytes, byte, bytes2]

/-- A part that is not running clocks the last response out for any frame. -/
theorem takeKind_clocksOut {s : State} (discarded : s.phase ≠ .running) (p : Port) (kind tag : Byte) (x : Sent) :
    s.takeKind p kind tag x = s.clockOut p (clocked x) := by
  unfold State.takeKind
  split
  · rw [State.takeRequest, if_pos discarded]
  · rw [if_pos discarded]

/-- Frame bytes are taken as the request they spell, whatever the kind. -/
theorem exec_frameError_requestBytes (s : State) (p : Port) (kind tag : Byte) {payload : List Byte}
    (valid : payload.length ≤ 48) (fill : List Byte) :
    exec (.frameError p (requestBytes kind tag payload ++ fill)) s
      = .next (s.takeKind p kind tag ⟨payload, fill.length⟩) := by
  have size : (requestBytes kind tag payload ++ fill).length = payload.length + 5 + fill.length := by
    rw [List.length_append, length_requestBytes]
  have carried : requestBytes kind tag payload ++ fill ≠ [] := by
    intro empty
    rw [empty] at size
    simp at size
    omega
  change execFrameError p _ s = _
  rw [execFrameError, if_neg carried, size]
  by_cases running : s.phase = .running
  · rw [if_neg (not_not_intro running), checkFrame_requestBytes kind tag valid]
    dsimp only
    rw [Nat.add_sub_cancel_left]
  · rw [if_pos running, takeKind_clocksOut running]
    rfl

theorem RequestKind.ofCode_code (k : RequestKind) : RequestKind.ofCode k.code = some k := by cases k <;> rfl

theorem takeKind_code (s : State) (p : Port) (k : RequestKind) (tag : Byte) (x : Sent) :
    .next (s.takeKind p k.code tag x) = exec (k.command p tag x) s := by
  rw [exec_command, State.takeKind, RequestKind.ofCode_code]

theorem crc16_append (bs : List Byte) (b : Byte) : crc16 (bs ++ [b]) = crc16Byte (crc16 bs) b := by
  rw [crc16, List.foldl_append]
  rfl

theorem crc16Bit_eq (c : BitVec 16) :
    crc16Bit c = if c.getLsbD 15 then (c <<< 1) ^^^ 0x1021 else c <<< 1 := by
  rw [crc16Bit, BitVec.msb_eq_getLsbD_last]
  rfl

/-- Settles O13: the layouts are definitions, and a frame so laid out passes the framing check with its payload. -/
theorem framesReadBack : Obligations.FramesReadBack := by
  refine ⟨fun n bs i => ⟨rfl, rfl, rfl, rfl, field2_eq, field4_eq⟩, ⟨rfl, fun bs b => ?_, by decide +kernel⟩,
    fun kind tag payload => rfl, fun r => rfl, rfl, ⟨rfl, rfl, rfl⟩, fun s p tag payload => ⟨?_, ?_, ?_, ?_⟩⟩
  · rw [crc16_append, crc16Byte, funext crc16Bit_eq]
  · intro valid k fill
    rw [exec_frameError_requestBytes s p k.code tag valid, takeKind_code]
  · intro valid kind fill _
    rw [exec_frameError_requestBytes s p kind tag valid]
    rfl
  · exact fun k fill => takeKind_code s p k tag ⟨payload, fill⟩
  · intro running long k fill
    rw [exec_command, State.takeRequest, if_neg (not_not_intro running), if_pos long, frameFailed_eq_setPort]
    rfl

end Frames

/-! ## The packing of fields into parts (R175) -/

section Parts

/-- The packing fills the part at hand, here the fields `first`, before it begins the next. -/
theorem packParts_groups (fields : List (List Byte)) (first : List (List Byte)) (fits : first.flatten.length ≤ 48)
    (short : ∀ f ∈ fields, f.length ≤ 48) :
    ∃ more later, first ++ more ++ List.flatten later = first ++ fields ∧
      packParts first.flatten fields = ((first ++ more) :: later).map List.flatten ∧
      (∀ g ∈ (first ++ more) :: later, g.flatten.length ≤ 48) ∧
      ∀ (i : Nat) (g h : List (List Byte)) (f : List Byte), ((first ++ more) :: later)[i]? = some g →
        ((first ++ more) :: later)[i + 1]? = some h → h.head? = some f → 48 < g.flatten.length + f.length := by
  induction fields generalizing first with
  | nil => exact ⟨[], [], by simp, by simp [packParts], by simpa using fits, by simp⟩
  | cons field fields ih =>
    have later := fun f hf => short f (List.mem_cons_of_mem _ hf)
    by_cases room : first.flatten.length + field.length ≤ 48
    · obtain ⟨more, parts, all, packed, bounded, greedy⟩ := ih (first ++ [field]) (by simpa using room) later
      refine ⟨field :: more, parts, by simpa using all, ?_, by simpa using bounded, by simpa using greedy⟩
      rw [packParts, if_pos room]
      simpa using packed
    · obtain ⟨more, parts, all, packed, bounded, greedy⟩ :=
        ih [field] (by simpa using short field List.mem_cons_self) later
      refine ⟨[], ([field] ++ more) :: parts, by simpa using all, ?_, ?_, ?_⟩
      · rw [packParts, if_neg room]
        simpa using packed
      · exact List.forall_mem_cons.mpr ⟨by simpa using fits, bounded⟩
      · intro i g h f at_ next head
        cases i with
        | zero =>
          obtain rfl : first = g := by simpa using at_
          obtain rfl : [field] ++ more = h := by simpa using next
          obtain rfl : field = f := by simpa using head
          exact not_le.mp room
        | succ i => exact greedy i g h f at_ next head

/-- Settles O17: the packing starts with an empty part at hand. -/
theorem statusPartsHoldWholeFields : Obligations.StatusPartsHoldWholeFields := by
  unfold Obligations.StatusPartsHoldWholeFields
  intro packed
  have packs (fields : List (List Byte)) (short : ∀ f ∈ fields, f.length ≤ 48) :
      packed fields (packParts [] fields) := by
    obtain ⟨more, later, all, parts, bounded, greedy⟩ := packParts_groups fields [] (Nat.zero_le _) short
    exact ⟨more :: later, all, parts, bounded, greedy⟩
  exact ⟨packs, fun s p item short => packs _ short⟩

end Parts

end Sys2Proof.Machine
end

section
/-! PROOFS. The first check that fails, the codes read back, and the plan items as bytes and read back from them. -/

namespace Sys2Proof.Machine

/-! ## The first check that fails (R13) -/

section Checks

variable {c : Prop} {cs : List Prop} {i : Nat}

theorem not_failsAt_nil : ¬FailsAt [] i := by
  rintro ⟨passed, failed, later, eq, -⟩
  simp at eq

theorem failsAt_cons : FailsAt (c :: cs) i ↔ (¬c ∧ i = 1) ∨ (c ∧ ∃ j, FailsAt cs j ∧ i = j + 1) := by
  constructor
  · rintro ⟨passed, failed, later, eq, all, fails, rfl⟩
    cases passed with
    | nil =>
      obtain ⟨rfl, rfl⟩ := List.cons.inj eq
      exact .inl ⟨fails, rfl⟩
    | cons p passed =>
      obtain ⟨rfl, rfl⟩ := List.cons.inj eq
      obtain ⟨holds, rest⟩ := List.forall_mem_cons.mp all
      exact .inr ⟨holds, passed.length + 1, ⟨passed, failed, later, rfl, rest, fails, rfl⟩, rfl⟩
  · rintro (⟨fails, rfl⟩ | ⟨holds, j, ⟨passed, failed, later, rfl, all, fails, rfl⟩, rfl⟩)
    · exact ⟨[], c, cs, rfl, nofun, fails, rfl⟩
    · exact ⟨c :: passed, failed, later, rfl, List.forall_mem_cons.mpr ⟨holds, all⟩, fails, rfl⟩

theorem firstFailed_cons (b : Bool) (bs : List Bool) :
    firstFailed (b :: bs) = if b then (firstFailed bs).map (· + 1) else some 1 := by
  cases b <;> simp [firstFailed, List.findIdx?_cons, Function.comp_def]

/-- A list of tests decides a list of checks. -/
def Tests (bs : List Bool) (cs : List Prop) : Prop := List.Forall₂ (fun b c => b = true ↔ c) bs cs

theorem Tests.fails {bs : List Bool} (same : Tests bs cs) (fails : FailsAt cs i) : firstFailed bs = some i := by
  induction same generalizing i with
  | nil => exact absurd fails not_failsAt_nil
  | cons decides _ ih =>
    rw [firstFailed_cons]
    rcases failsAt_cons.mp fails with ⟨broken, rfl⟩ | ⟨holds, j, later, rfl⟩
    · rw [if_neg (fun holds => broken (decides.mp holds))]
    · rw [if_pos (decides.mpr holds), ih later]
      rfl

theorem Tests.passes {bs : List Bool} (same : Tests bs cs) (all : ∀ c ∈ cs, c) : firstFailed bs = none := by
  induction same with
  | nil => rfl
  | cons decides _ ih =>
    obtain ⟨holds, rest⟩ := List.forall_mem_cons.mp all
    rw [firstFailed_cons, if_pos (decides.mpr holds), ih rest]
    rfl

theorem within_iff {lo hi n : Nat} : within lo hi n = true ↔ lo ≤ n ∧ n ≤ hi := decide_eq_true_iff

theorem Limits.tests (l : Limits) : Tests l.checks l.ranges := by
  simp only [Tests, Limits.checks, Limits.ranges, List.forall₂_cons, List.forall₂_nil_right_iff, within_iff,
    Bool.or_eq_true, beq_iff_eq, Nat.zero_le, true_and, iff_self, and_self]

theorem loPasses_iff {n : Nat} : loPasses n = true ↔ n = 0 ∨ legalLo n := by
  simp [loPasses, within_iff, legalLo, and_assoc]

theorem loOf_getD {lo : Option Nat} (fits : ∀ l, lo = some l → 0 < l) : loOf (lo.getD 0) = lo := by
  cases lo with
  | none => rfl
  | some l => exact if_neg (fits l rfl).ne'

end Checks

/-! ## Codes read back (section 12.3) -/

section Codes

theorem slotOf_val (n : Slot) : slotOf n.val = some n := dif_pos n.isLt

theorem slotOf_eq_none {n : Nat} (out : 15 < n) : slotOf n = none := dif_neg (by omega)

theorem slotOf_isSome {n : Nat} : (slotOf n).isSome = true ↔ n ≤ 15 := by
  unfold slotOf
  split
  · next h => exact iff_of_true rfl (by omega)
  · next h => exact iff_of_false nofun (by omega)

theorem chainOfCode_code (c : Chain) : chainOfCode (chainCode c) = some c := by
  rcases c with (_ | _) | (_ | _ | _ | _) <;> rfl

theorem rxOfCode_code (r : Rx) : rxOfCode (chainCode (.rx r)) = some r := by cases r <;> rfl

theorem txOfCode_code (x : Tx) : txOfCode (chainCode (.tx x)) = some x := by cases x <;> rfl

theorem chainCode_lt (c : Chain) : chainCode c < 6 := by rcases c with (_ | _) | (_ | _ | _ | _) <;> decide

theorem rxOfCode_isSome : ∀ {n : Nat}, (rxOfCode n).isSome = true ↔ n ≤ 1
  | 0 | 1 => by decide
  | n + 2 => iff_of_false nofun (by omega)

theorem txOfCode_isSome : ∀ {n : Nat}, (txOfCode n).isSome = true ↔ 2 ≤ n ∧ n ≤ 5
  | 0 | 1 | 2 | 3 | 4 | 5 => by decide
  | n + 6 => iff_of_false nofun (by omega)

theorem originOfCode_code (o : Origin) : originOfCode (originCode o) = o := by cases o <;> rfl

end Codes

/-! ## The plan items as bytes (R175) -/

section Items

theorem txBytes_eq (c : TxSettings) :
    txBytes c = byte c.enabled.toNat ++ (loBytes c.lo ++ (byte c.rampUnit ++ (byte c.driveSettle ++ byte c.paDischarge))) :=
  rfl

/-- The bytes of a fallback item (R175). -/
def fallbackBytes : Option Fallback → List Byte
  | none => [0, 0, 0, 0, 0, 0]
  | some f => byte 1 ++ (byte (chainCode (.rx f.chain)) ++ bytes4 f.frequency)

/-- The bytes of a present slot after its presence byte. -/
def SlotEntry.bytes (e : SlotEntry) : List Byte :=
  byte (chainCode (.rx e.inputChain)) ++ (bytes4 e.inputFrequency ++ (byte (chainCode (.tx e.outputChain)) ++
    (bytes4 e.outputFrequency ++ (byte e.bandwidthClass.val ++ (bytes2 e.share ++ (signedByte e.threshold ++
      fallbackBytes e.fallback))))))

theorem slotBytes_some (e : SlotEntry) : slotBytes (some e) = byte 1 ++ e.bytes := by
  obtain ⟨_, _, _, _, _, _, _, _ | _⟩ := e <;> rfl

theorem length_fallbackBytes (f : Option Fallback) : (fallbackBytes f).length = 6 := by cases f <;> rfl

theorem SlotEntry.length_bytes (e : SlotEntry) : e.bytes.length = 20 := by
  obtain ⟨_, _, _, _, _, _, _, _ | _⟩ := e <;> rfl

theorem length_slotBytes (e : Option SlotEntry) : (slotBytes e).length = 21 := by
  cases e with
  | none => rfl
  | some e => rw [slotBytes_some, List.length_append, e.length_bytes]; rfl

theorem limitBytes_eq (l : Limits) :
    limitBytes l = bytes2 l.recoveryHold ++ (byte l.tripLimit ++ (byte l.tripWindow ++ (bytes2 l.holdoverAllowance ++
      (byte l.qualifyTime ++ (byte l.lossConfirm ++ (bytes2 l.restoreConfirm ++ (byte l.restoreVisits ++
        (byte l.attempts ++ (byte l.settle ++ (byte l.gateExponent ++ (byte l.countTolerance ++
          (bytes2 l.auditInterval ++ (bytes2 l.retryHold ++ (bytes2 l.probation ++ byte l.linkSilence))))))))))))))
      := rfl

theorem severityBytes_eq (v : Severities) :
    severityBytes v = [v.refAbsent, v.txLoLost, v.txLoUnverified, v.paFault, v.refExpired, v.supplyWarning,
      v.paWarning, v.refHoldover, v.linksSilent].map fun l => BitVec.ofNat 8 l.val := rfl

end Items

/-! ## The plan items read back -/

section ReadBack

variable {bs rest : List Byte} {i : Nat}

/-- After an item the next one begins. -/
theorem drop_past {item : List Byte} {j : Nat} (laid : bs.drop i = item ++ rest) (past : j = i + item.length) :
    bs.drop j = rest := by
  rw [past, ← List.drop_drop, laid, List.drop_left]

theorem severitiesAt_of_drop {v : Severities} (laid : bs.drop i = severityBytes v ++ rest) : severitiesAt bs i = v := by
  have sev (a : Level) : Fin.ofNat 4 (BitVec.ofNat 8 a.val).toNat = a := by revert a; decide
  simp only [severitiesAt, byteAt_add, laid, severityBytes_eq]
  simp only [byteAt, List.map_cons, List.cons_append, List.getD_cons_succ, List.getD_cons_zero, sev]

theorem limitsAt_of_drop {l : Limits} (laid : bs.drop i = limitBytes l ++ rest) (fits : l.Fits) :
    limitsAt bs i = l := by
  obtain ⟨h1, h2, h3, h4, h5, h6, h7, h8, h9, h10, h11, h12, h13, h14, h15, h16⟩ := fits
  rw [limitBytes_eq] at laid
  simp only [List.append_assoc] at laid
  have at2 : bs.drop (i + 2) = _ := drop_past laid rfl
  have at3 : bs.drop (i + 3) = _ := drop_past at2 rfl
  have at4 : bs.drop (i + 4) = _ := drop_past at3 rfl
  have at6 : bs.drop (i + 6) = _ := drop_past at4 rfl
  have at7 : bs.drop (i + 7) = _ := drop_past at6 rfl
  have at8 : bs.drop (i + 8) = _ := drop_past at7 rfl
  have at10 : bs.drop (i + 10) = _ := drop_past at8 rfl
  have at11 : bs.drop (i + 11) = _ := drop_past at10 rfl
  have at12 : bs.drop (i + 12) = _ := drop_past at11 rfl
  have at13 : bs.drop (i + 13) = _ := drop_past at12 rfl
  have at14 : bs.drop (i + 14) = _ := drop_past at13 rfl
  have at15 : bs.drop (i + 15) = _ := drop_past at14 rfl
  have at17 : bs.drop (i + 17) = _ := drop_past at15 rfl
  have at19 : bs.drop (i + 19) = _ := drop_past at17 rfl
  have at21 : bs.drop (i + 21) = _ := drop_past at19 rfl
  rw [limitsAt, field2_of_drop laid h1, byteAt_of_drop at2 h2, byteAt_of_drop at3 h3, field2_of_drop at4 h4,
    byteAt_of_drop at6 h5, byteAt_of_drop at7 h6, field2_of_drop at8 h7, byteAt_of_drop at10 h8,
    byteAt_of_drop at11 h9, byteAt_of_drop at12 h10, byteAt_of_drop at13 h11, byteAt_of_drop at14 h12,
    field2_of_drop at15 h13, field2_of_drop at17 h14, field2_of_drop at19 h15, byteAt_of_drop at21 h16]

theorem loAt_of_drop {lo : Option Nat} (laid : bs.drop i = loBytes lo ++ rest) (fits : loFits lo) :
    field4 bs i = lo.getD 0 := by
  refine field4_of_drop laid ?_
  cases lo with
  | none => exact Nat.two_pow_pos 32
  | some l => exact (fits l rfl).2

theorem loOf_loAt {lo : Option Nat} (laid : bs.drop i = loBytes lo ++ rest) (fits : loFits lo) :
    loOf (field4 bs i) = lo := by
  rw [loAt_of_drop laid fits, loOf_getD fun l eq => (fits l eq).1]

theorem txAt_of_drop {c : TxSettings} (laid : bs.drop i = txBytes c ++ rest) (fits : c.Fits) : txAt bs i = c := by
  obtain ⟨lo, ramp, drive, discharge⟩ := fits
  rw [txBytes_eq] at laid
  simp only [List.append_assoc] at laid
  have at1 : bs.drop (i + 1) = _ := drop_past laid rfl
  have at5 : bs.drop (i + 5) = _ := drop_past at1 rfl
  have at6 : bs.drop (i + 6) = _ := drop_past at5 rfl
  have at7 : bs.drop (i + 7) = _ := drop_past at6 rfl
  have enabled : (c.enabled.toNat == 1) = c.enabled := by cases c.enabled <;> rfl
  rw [txAt, byteAt_of_drop laid (by have := Bool.toNat_le c.enabled; omega), enabled, loOf_loAt at1 lo,
    byteAt_of_drop at5 ramp, byteAt_of_drop at6 drive, byteAt_of_drop at7 discharge]

/-- The fallback that six bytes at an offset spell. -/
def fallbackAt (b : List Byte) (i : Nat) : Option Fallback :=
  if byteAt b i = 1 then
    some { chain := (rxOfCode (byteAt b (i + 1))).getD .rx0, frequency := field4 b (i + 2) }
  else none

/-- The slot entry that the twenty bytes after a presence byte at an offset spell. -/
def slotEntryAt (b : List Byte) (i : Nat) : SlotEntry :=
  { inputChain := (rxOfCode (byteAt b (i + 1))).getD .rx0
    inputFrequency := field4 b (i + 2)
    outputChain := (txOfCode (byteAt b (i + 6))).getD .tx0
    outputFrequency := field4 b (i + 7)
    bandwidthClass := Fin.ofNat 8 (byteAt b (i + 11))
    share := field2 b (i + 12)
    threshold := signedAt b (i + 14)
    fallback := fallbackAt b (i + 15) }

theorem slotAt_eq (b : List Byte) (i : Nat) :
    slotAt b i = if byteAt b i = 1 then some (slotEntryAt b i) else none := rfl

theorem fallbackAt_of_drop {f : Option Fallback} (laid : bs.drop i = fallbackBytes f ++ rest)
    (fits : ∀ fb, f = some fb → fb.frequency < 2 ^ 32) : fallbackAt bs i = f := by
  cases f with
  | none => exact if_neg (by rw [byteAt_of_drop (n := 0) laid (by omega)]; omega)
  | some fb =>
    rw [fallbackBytes] at laid
    simp only [List.append_assoc] at laid
    have at1 : bs.drop (i + 1) = _ := drop_past laid rfl
    have at2 : bs.drop (i + 2) = _ := drop_past at1 rfl
    rw [fallbackAt, if_pos (byteAt_of_drop laid (by omega)),
      byteAt_of_drop at1 (by have := chainCode_lt (.rx fb.chain); omega), rxOfCode_code,
      field4_of_drop at2 (fits fb rfl)]
    rfl

/-- The bytes of a slot entry, field by field at their offsets. -/
structure SlotLaid (bs : List Byte) (i : Nat) (e : SlotEntry) : Prop where
  inputChain : byteAt bs (i + 1) = chainCode (.rx e.inputChain)
  inputFrequency : field4 bs (i + 2) = e.inputFrequency
  outputChain : byteAt bs (i + 6) = chainCode (.tx e.outputChain)
  outputFrequency : field4 bs (i + 7) = e.outputFrequency
  bandwidthClass : byteAt bs (i + 11) = e.bandwidthClass.val
  share : field2 bs (i + 12) = e.share
  threshold : signedAt bs (i + 14) = e.threshold
  fallback : bs.drop (i + 15) = fallbackBytes e.fallback ++ rest

theorem SlotEntry.Fits.laid {e : SlotEntry} (fits : e.Fits) (laid : bs.drop (i + 1) = e.bytes ++ rest) :
    SlotLaid (rest := rest) bs i e := by
  obtain ⟨input, output, share, low, high, -⟩ := fits
  rw [SlotEntry.bytes] at laid
  simp only [List.append_assoc] at laid
  have at2 : bs.drop (i + 2) = _ := drop_past laid rfl
  have at6 : bs.drop (i + 6) = _ := drop_past at2 rfl
  have at7 : bs.drop (i + 7) = _ := drop_past at6 rfl
  have at11 : bs.drop (i + 11) = _ := drop_past at7 rfl
  have at12 : bs.drop (i + 12) = _ := drop_past at11 rfl
  have at14 : bs.drop (i + 14) = _ := drop_past at12 rfl
  have at15 : bs.drop (i + 15) = _ := drop_past at14 rfl
  have rx := chainCode_lt (.rx e.inputChain)
  have tx := chainCode_lt (.tx e.outputChain)
  have cls := e.bandwidthClass.isLt
  exact ⟨byteAt_of_drop laid (by omega), field4_of_drop at2 input, byteAt_of_drop at6 (by omega),
    field4_of_drop at7 output, byteAt_of_drop at11 (by omega), field2_of_drop at12 share,
    signedAt_of_drop at14 low high, at15⟩

theorem SlotEntry.Fits.entryAt {e : SlotEntry} (fits : e.Fits) (laid : bs.drop (i + 1) = e.bytes ++ rest) :
    slotEntryAt bs i = e := by
  obtain ⟨inputChain, inputFrequency, outputChain, outputFrequency, bandwidthClass, share, threshold, fallback⟩ :=
    fits.laid laid
  obtain ⟨-, -, -, -, -, second⟩ := fits
  rw [slotEntryAt, inputChain, inputFrequency, outputChain, outputFrequency, bandwidthClass, share, threshold,
    fallbackAt_of_drop fallback second, rxOfCode_code, txOfCode_code]
  simp

theorem slotAt_of_drop {e : Option SlotEntry} (laid : bs.drop i = slotBytes e ++ rest)
    (fits : ∀ x, e = some x → x.Fits) : slotAt bs i = e := by
  rw [slotAt_eq]
  cases e with
  | none =>
    have first : byteAt bs i = 0 := byteAt_of_drop (n := 0) laid (by omega)
    exact if_neg (by rw [first]; omega)
  | some e =>
    rw [slotBytes_some, List.append_assoc] at laid
    rw [if_pos (byteAt_of_drop laid (by omega)), (fits e rfl).entryAt (drop_past laid (by rfl))]

end ReadBack

end Sys2Proof.Machine
end

section
/-! PROOFS. The operands of the two reading requests, READ_NOTICES and READ_STATUS (O15), and READ_PLAN (O18). -/

namespace Sys2Proof.Machine

/-! ## Operands read back (R172, R173) -/

section Operands

theorem byteAt_byte {n : Nat} (rest : List Byte) (fits : n < 256) : byteAt (byte n ++ rest) 0 = n :=
  byteAt_of_drop (rest := rest) rfl fits

theorem parseStatusItem_request (item : StatusItem) (x part : Byte) :
    parseStatusItem (item.request x ++ [part]) = .ok item := by
  have second (a : Byte) {n : Nat} (fits : n < 256) : byteAt (a :: byte n ++ [part]) 1 = n :=
    byteAt_byte [part] fits
  cases item with
  | device | store => rfl
  | chain t =>
    have code := chainCode_lt (.tx t)
    simp only [StatusItem.request, parseStatusItem, second 1 (show chainCode (.tx t) < 256 by omega), txOfCode_code]
    rfl
  | synthesizer c =>
    have code := chainCode_lt c
    simp only [StatusItem.request, parseStatusItem, second 2 (show chainCode c < 256 by omega), chainOfCode_code]
    rfl
  | slot n =>
    have bound := n.isLt
    simp only [StatusItem.request, parseStatusItem, second 3 (show n.val < 256 by omega), slotOf_val]
    rfl

theorem statusRequest_part (item : StatusItem) (x part : Byte) :
    byteAt (item.request x ++ [part]) 2 = part.toNat := by cases item <;> rfl

theorem length_statusRequest (item : StatusItem) (x part : Byte) : (item.request x ++ [part]).length = 3 := by
  cases item <;> rfl

theorem not_txOfCode {n : Nat} (out : ¬(2 ≤ n ∧ n ≤ 5)) : txOfCode n = none :=
  Option.not_isSome_iff_eq_none.mp (txOfCode_isSome.not.mpr out)

theorem parseStatusItem_fails {a b part : Byte} {i : Nat}
    (fails : FailsAt [a.toNat ≤ 4, (a = 1 → 2 ≤ b.toNat ∧ b.toNat ≤ 5) ∧ (a = 2 → b.toNat ≤ 5)
      ∧ (a = 3 → b.toNat ≤ 15)] i) : parseStatusItem [a, b, part] = .error i := by
  have number : byteAt [a, b, part] 1 = b.toNat := rfl
  rcases failsAt_cons.mp fails with ⟨out, rfl⟩ | ⟨-, j, later, rfl⟩
  · have kind : ∃ k, byteAt [a, b, part] 0 = k + 5 := ⟨a.toNat - 5, by change a.toNat = _; omega⟩
    obtain ⟨k, kind⟩ := kind
    simp only [parseStatusItem, kind]
  rcases failsAt_cons.mp later with ⟨out, rfl⟩ | ⟨-, j, none, -⟩
  · rcases not_and_or.mp out with chain | rest
    · obtain ⟨rfl, bad⟩ := Classical.not_imp.mp chain
      simp only [parseStatusItem, number, not_txOfCode bad]
      rfl
    rcases not_and_or.mp rest with synth | slot
    · obtain ⟨rfl, bad⟩ := Classical.not_imp.mp synth
      simp only [parseStatusItem, number, chainOfCode_eq_none (not_le.mp bad)]
      rfl
    · obtain ⟨rfl, bad⟩ := Classical.not_imp.mp slot
      simp only [parseStatusItem, number, slotOf_eq_none (not_le.mp bad)]
      rfl
  · exact absurd none not_failsAt_nil

theorem parseSource_request (src : PlanSource) (x : Byte) (rest : List Byte) :
    parseSource (src.request x ++ rest) = .ok src := by
  cases src with
  | active | staged | pending | site | dflt => rfl
  | history k => revert k; exact fun | 0 | 1 | 2 | 3 => rfl

theorem parseItem_request (a b : Byte) (item : PlanItem) (y : Byte) :
    parseItem (a :: b :: item.request y) = .ok item := by
  have last (k : Byte) {n : Nat} (fits : n < 256) : byteAt (a :: b :: k :: byte n) 3 = n := by
    have := byteAt_byte (n := n) [] fits
    rwa [List.append_nil] at this
  cases item with
  | header => rfl
  | chain c =>
    have code := chainCode_lt c
    simp only [PlanItem.request, parseItem, last 1 (show chainCode c < 256 by omega), chainOfCode_code]
    rfl
  | slot n =>
    have bound := n.isLt
    simp only [PlanItem.request, parseItem, last 2 (show n.val < 256 by omega), slotOf_val]
    rfl
  | profile part => cases part <;> rfl

theorem parseReadPlan_request (src : PlanSource) (item : PlanItem) (x y : Byte) :
    parseReadPlan (src.request x ++ item.request y) = .ok (src, item) := by
  obtain ⟨a, b, spelled⟩ : ∃ a b, src.request x = [a, b] := by cases src <;> exact ⟨_, _, rfl⟩
  have source := parseSource_request src x (item.request y)
  rw [spelled] at source ⊢
  rw [parseReadPlan, source, List.cons_append, List.cons_append, List.nil_append, parseItem_request]

theorem length_planRequest (src : PlanSource) (item : PlanItem) (x y : Byte) :
    (src.request x ++ item.request y).length = 4 := by cases src <;> cases item <;> rfl

theorem parseSource_outside {a b c d : Byte} (out : ¬a.toNat ≤ 5) : parseSource [a, b, c, d] = .error 1 := by
  obtain ⟨k, kind⟩ : ∃ k, byteAt [a, b, c, d] 0 = k + 6 := ⟨a.toNat - 6, by change a.toNat = _; omega⟩
  simp only [parseSource, kind]

theorem parseSource_history {b c d : Byte} (out : ¬b.toNat ≤ 3) : parseSource [3, b, c, d] = .error 2 :=
  dif_neg (by change ¬b.toNat < 4; omega)

theorem parseSource_named {a b c d : Byte} (source : a.toNat ≤ 5) (index : a = 3 → b.toNat ≤ 3) :
    ∃ src, parseSource [a, b, c, d] = .ok src := by
  by_cases history : a = 3
  · subst history
    have := index rfl
    exact ⟨_, dif_pos (by change b.toNat < 4; omega)⟩
  · have other : a.toNat ≠ 3 := fun same => history (BitVec.eq_of_toNat_eq same)
    have kinds : byteAt [a, b, c, d] 0 = 0 ∨ byteAt [a, b, c, d] 0 = 1 ∨ byteAt [a, b, c, d] 0 = 2
        ∨ byteAt [a, b, c, d] 0 = 4 ∨ byteAt [a, b, c, d] 0 = 5 := by
      change a.toNat = 0 ∨ a.toNat = 1 ∨ a.toNat = 2 ∨ a.toNat = 4 ∨ a.toNat = 5
      omega
    unfold parseSource
    rcases kinds with kind | kind | kind | kind | kind <;> exact ⟨_, by simp only [kind]; rfl⟩

theorem parseItem_outside {a b c d : Byte} (out : ¬c.toNat ≤ 3) : parseItem [a, b, c, d] = .error 3 := by
  obtain ⟨k, kind⟩ : ∃ k, byteAt [a, b, c, d] 2 = k + 4 := ⟨c.toNat - 4, by change c.toNat = _; omega⟩
  simp only [parseItem, kind]

theorem parseItem_fails {a b c d : Byte} (out : ¬((c = 1 → d.toNat ≤ 5) ∧ (c = 2 → d.toNat ≤ 15) ∧ (c = 3 → d.toNat ≤ 1))) :
    parseItem [a, b, c, d] = .error 4 := by
  have number : byteAt [a, b, c, d] 3 = d.toNat := rfl
  rcases not_and_or.mp out with chain | rest
  · obtain ⟨rfl, bad⟩ := Classical.not_imp.mp chain
    simp only [parseItem, number, chainOfCode_eq_none (not_le.mp bad)]
    rfl
  rcases not_and_or.mp rest with slot | profile
  · obtain ⟨rfl, bad⟩ := Classical.not_imp.mp slot
    simp only [parseItem, number, slotOf_eq_none (not_le.mp bad)]
    rfl
  · obtain ⟨rfl, bad⟩ := Classical.not_imp.mp profile
    obtain ⟨k, part⟩ : ∃ k, d.toNat = k + 2 := ⟨d.toNat - 2, by omega⟩
    simp only [parseItem, number, part]
    rfl

theorem parseReadPlan_fails {a b c d : Byte} {i : Nat}
    (fails : FailsAt [a.toNat ≤ 5, a = 3 → b.toNat ≤ 3, c.toNat ≤ 3, (c = 1 → d.toNat ≤ 5)
        ∧ (c = 2 → d.toNat ≤ 15) ∧ (c = 3 → d.toNat ≤ 1)] i) : parseReadPlan [a, b, c, d] = .error i := by
  unfold parseReadPlan
  rcases failsAt_cons.mp fails with ⟨out, rfl⟩ | ⟨source, j, afterSource, rfl⟩
  · rw [parseSource_outside out]
  rcases failsAt_cons.mp afterSource with ⟨out, rfl⟩ | ⟨index, j, afterIndex, rfl⟩
  · obtain ⟨rfl, bad⟩ := Classical.not_imp.mp out
    rw [parseSource_history bad]
  obtain ⟨src, named⟩ := parseSource_named (c := c) (d := d) source index
  rw [named]
  dsimp only
  rcases failsAt_cons.mp afterIndex with ⟨out, rfl⟩ | ⟨-, j, afterItem, rfl⟩
  · rw [parseItem_outside out]
  rcases failsAt_cons.mp afterItem with ⟨out, rfl⟩ | ⟨-, j, none, -⟩
  · rw [parseItem_fails out]
  · exact absurd none not_failsAt_nil

end Operands

/-! ## The notice sets and READ_STATUS (O15) -/

section Status

variable {s : State} {p : Port}

theorem NoticeSet.has_all (v : NoticeSet) : allNotices.map v.has = (List.range 14).map fun i => v.getLsbD i := rfl

theorem attention_iff (x : PortState) : x.attention = true ↔ ∃ n, x.notices.has n = true := by
  rw [PortState.attention, bne_iff_ne]
  constructor
  · intro some_
    by_contra none
    refine some_ (BitVec.eq_of_getLsbD_eq fun i hi => ?_)
    have bit : x.notices.getLsbD i ∈ (List.range 14).map fun i => x.notices.getLsbD i :=
      List.mem_map.mpr ⟨i, List.mem_range.mpr hi, rfl⟩
    rw [← NoticeSet.has_all] at bit
    obtain ⟨n, -, same⟩ := List.mem_map.mp bit
    rw [← same]
    exact (Bool.eq_false_iff.mpr fun holds => none ⟨n, holds⟩).trans BitVec.getLsbD_zero.symm
  · rintro ⟨n, holds⟩ empty
    rw [NoticeSet.has, empty] at holds
    simp at holds

theorem serve_readNotices (b : List Byte) :
    serve .readNotices p b s
      = (s.setPort p { s.port p with notices := 0 }, .ok (bytes2 (s.port p).notices.toNat)) := rfl

theorem serve_readStatus {b part : List Byte} {item : StatusItem} (asked : parseStatusItem b = .ok item)
    (found : (statusParts s p item)[byteAt b 2]? = some part) : serve .readStatus p b s = (s, .ok part) := by
  simp [serve, serveReadStatus, asked, found]

theorem serve_readStatus_beyond {b : List Byte} {item : StatusItem} (asked : parseStatusItem b = .ok item)
    (beyond : (statusParts s p item).length ≤ byteAt b 2) : serve .readStatus p b s = (s, .invalid 3) := by
  simp [serve, serveReadStatus, asked, List.getElem?_eq_none beyond]

theorem serve_readStatus_invalid {b : List Byte} {i : Nat} (refused : parseStatusItem b = .error i) :
    serve .readStatus p b s = (s, .invalid i) := by
  simp [serve, serveReadStatus, refused]

/-- Settles O15: the bits of the sets, then the two requests' replies. -/
theorem statusAndNoticesRead : Obligations.StatusAndNoticesRead := by
  refine ⟨NoticeSet.has_all, fun s p m => ⟨rfl, ?_, ?_, attention_iff _⟩, fun s p tag fill running => ?_,
    fun s p tag part fill running => ⟨?_, ?_, ?_⟩⟩
  · rw [notifyBoth_port]
  · intro n
    rw [notifyBoth_port, NoticeSet.has_add]
  · intro u x
    refine (exec_of_serve_bare (k := .readNotices) tag running nofun nofun rfl (serve_readNotices [])).trans ?_
    rw [State.answered, State.port_setPort_same, State.setPort_setPort]
    rfl
  · intro item x b found
    have fits := length_statusRequest item x part
    refine exec_of_serve (k := .readStatus) tag running nofun nofun fits ?_
    rw [fits]
    exact serve_readStatus (parseStatusItem_request item x part) (by rw [statusRequest_part]; exact found)
  · intro item x beyond
    have fits := length_statusRequest item x part
    refine exec_of_serve (k := .readStatus) (reply := [3]) tag running nofun nofun fits ?_
    rw [fits]
    exact serve_readStatus_beyond (parseStatusItem_request item x part) (by rw [statusRequest_part]; exact beyond)
  · exact fun a b i fails => exec_of_serve (k := .readStatus) tag running nofun nofun rfl
      (serve_readStatus_invalid (parseStatusItem_fails fails))

end Status

/-! ## READ_PLAN (O18) -/

section ReadPlan

variable {s : State} {p : Port}

theorem serve_readPlan {b : List Byte} {src : PlanSource} {item : PlanItem} {plan : Plan}
    (asked : parseReadPlan b = .ok (src, item)) (found : s.planOf p src = some plan) :
    serve .readPlan p b s = (s, .ok (plan.itemBytes item)) := by
  simp [serve, serveReadPlan, asked, found]

theorem serve_readPlan_absent {b : List Byte} {src : PlanSource} {item : PlanItem}
    (asked : parseReadPlan b = .ok (src, item)) (absent : s.planOf p src = none) :
    serve .readPlan p b s = (s, .refused .notAvailable) := by
  simp [serve, serveReadPlan, asked, absent]

theorem serve_readPlan_invalid {b : List Byte} {i : Nat} (refused : parseReadPlan b = .error i) :
    serve .readPlan p b s = (s, .invalid i) := by
  simp [serve, serveReadPlan, refused]

theorem StoredRecord.plan_eq (x : StoredRecord) :
    x.plan = if x.status = .valid then some (storedPlan x.image) else none := by
  unfold StoredRecord.plan
  cases x.status <;> rfl

theorem PlanEngine.pendingPlan_none {e : PlanEngine} (idle : e.pendingApply = none) : e.pendingPlan = none := by
  rw [PlanEngine.pendingPlan, idle]

/-- Settles O18: the plan found is the model's, and so are the bytes of its item. -/
theorem readPlanAnswers : Obligations.ReadPlanAnswers := by
  unfold Obligations.ReadPlanAnswers
  intro b1 b2 b4 lo carried s p tag fill running u
  have los (l : Option Nat) : loBytes l = lo l := by cases l <;> rfl
  have bytes (plan : Plan) (item : PlanItem) : plan.itemBytes item = carried plan item := by
    cases item with
    | header =>
      simp only [Plan.itemBytes, headerBytes, carried]
      cases plan.origin <;> rfl
    | chain c =>
      cases c with
      | rx r => exact los _
      | tx x =>
        simp only [Plan.itemBytes, carried, ← los, txBytes]
        cases (plan.tx.get x).enabled <;> rfl
    | slot n =>
      simp only [Plan.itemBytes, carried]
      rcases plan.slots.get n with _ | ⟨_ | _, _, _ | _, _, _, _, _, _ | ⟨_ | _, _⟩⟩ <;> rfl
    | profile part => cases part <;> rfl
  refine ⟨fun src item x y => ?_, fun a b c d i fails => ?_⟩
  · intro found
    have size := length_planRequest src item x y
    have same : u.planOf p src = found := by
      cases src with
      | active | staged => rfl
      | history k => rfl
      | site => exact StoredRecord.plan_eq _
      | dflt => exact StoredRecord.plan_eq _
      | pending =>
        change u.pe.pendingPlan = _
        rcases h : u.pe.pendingApply with _ | ⟨_ | _, _, _⟩
        · simp only [found, h, PlanEngine.pendingPlan_none h]
        · simp only [found, h, PlanEngine.pendingPlan_commit h rfl]
        · simp only [found, h, PlanEngine.pendingPlan_revert h rfl]
    refine ⟨fun plan is => ?_, fun is => ?_⟩
    · rw [← bytes]
      refine exec_of_serve (k := .readPlan) tag running nofun nofun size ?_
      rw [size]
      exact serve_readPlan (parseReadPlan_request src item x y) (same.trans is)
    · refine exec_of_serve (k := .readPlan) tag running nofun nofun size ?_
      rw [size]
      exact serve_readPlan_absent (parseReadPlan_request src item x y) (same.trans is)
  · exact exec_of_serve (k := .readPlan) tag running nofun nofun rfl
      (serve_readPlan_invalid (parseReadPlan_fails fails))

end ReadPlan

end Sys2Proof.Machine
end

section
/-! PROOFS. The operands of the edits, taken where they are legal (O20) and refused at the first field that is not
(O21). -/

namespace Sys2Proof.Machine

/-! ## The edits' operands -/

section Parses

variable {b : List Byte} {i : Nat}

theorem firstFailed_of_all {bs : List Bool} (all : ∀ x ∈ bs, x = true) : firstFailed bs = none := by
  have none : bs.findIdx? (fun c => !c) = none := List.findIdx?_eq_none_iff.mpr fun x hx => by rw [all x hx]; rfl
  rw [firstFailed, none]
  rfl

/-- Where a check fails, the checks after it do not matter. -/
theorem failsAt_replace {passed later later' : List Prop} {c : Prop} (fails : ¬c) :
    FailsAt (passed ++ c :: later) i → FailsAt (passed ++ c :: later') i := by
  induction passed generalizing i with
  | nil =>
    intro h
    rcases failsAt_cons.mp h with first | ⟨holds, -⟩
    · exact failsAt_cons.mpr (.inl first)
    · exact absurd holds fails
  | cons p passed ih =>
    intro h
    rcases failsAt_cons.mp h with first | ⟨holds, j, rest, eq⟩
    · exact failsAt_cons.mpr (.inl first)
    · exact failsAt_cons.mpr (.inr ⟨holds, j, ih rest, eq⟩)

/-! ### SET_CHAIN (R10) -/

theorem loFits_of_legal {lo : Option Nat} (legal : ∀ l, lo = some l → legalLo l) : loFits lo := by
  intro l eq
  obtain ⟨low, high, -⟩ := legal l eq
  omega

theorem TxSettings.Legal.fits {c : TxSettings} (legal : c.Legal) : c.Fits := by
  obtain ⟨lo, -, ramp, -, drive, -, discharge⟩ := legal
  exact ⟨loFits_of_legal lo, by omega, by omega, by omega⟩

theorem loPasses_getD {lo : Option Nat} (legal : ∀ l, lo = some l → legalLo l) : loPasses (lo.getD 0) = true := by
  rw [loPasses_iff]
  cases lo with
  | none => exact .inl rfl
  | some l => exact .inr (legal l rfl)

theorem parseSetChain_rx {r : Rx} {lo : Option Nat} (e : Byte) (rest : List Byte) (legal : ∀ l, lo = some l → legalLo l) :
    parseSetChain (byte (chainCode (.rx r)) ++ [e] ++ loBytes lo ++ rest) = .ok (.rx r lo) := by
  generalize spelled : byte (chainCode (.rx r)) ++ [e] ++ loBytes lo ++ rest = b
  have laid : b.drop 2 = loBytes lo ++ rest := spelled ▸ rfl
  have chain : chainOfCode (byteAt b 0) = some (.rx r) := by
    rw [← spelled]
    cases r <;> rfl
  have fits := loFits_of_legal legal
  simp only [parseSetChain, chain]
  rw [if_pos (by rw [loAt_of_drop laid fits]; exact loPasses_getD legal), loOf_loAt laid fits]

theorem parseSetChain_tx {x : Tx} {c : TxSettings} (legal : c.Legal) :
    parseSetChain (byte (chainCode (.tx x)) ++ txBytes c) = .ok (.tx x c) := by
  generalize spelled : byte (chainCode (.tx x)) ++ txBytes c = b
  have laid : b.drop 1 = txBytes c ++ [] := by rw [← spelled, List.append_nil]; rfl
  have chain : chainOfCode (byteAt b 0) = some (.tx x) := by
    rw [← spelled]
    cases x <;> rfl
  have read : txAt b 1 = c := txAt_of_drop laid legal.fits
  have ramp : byteAt b 6 = c.rampUnit := congrArg TxSettings.rampUnit read
  have drive : byteAt b 7 = c.driveSettle := congrArg TxSettings.driveSettle read
  have discharge : byteAt b 8 = c.paDischarge := congrArg TxSettings.paDischarge read
  rw [txBytes_eq] at laid
  simp only [List.append_assoc] at laid
  have enabled : byteAt b 1 = c.enabled.toNat := byteAt_of_drop laid (by have := Bool.toNat_le c.enabled; omega)
  obtain ⟨lo, rampLow, rampHigh, driveLow, driveHigh, dischargeLow, dischargeHigh⟩ := legal
  have lo' : field4 b 2 = c.lo.getD 0 := loAt_of_drop (drop_past laid rfl) (loFits_of_legal lo)
  have passes : firstFailed [true, byteAt b 1 ≤ 1, loPasses (field4 b 2), within 1 64 (byteAt b 6),
      within 1 255 (byteAt b 7), within 1 255 (byteAt b 8)] = none := by
    refine firstFailed_of_all ?_
    rw [ramp, drive, discharge, lo', enabled, loPasses_getD lo]
    simp [within_iff, Bool.toNat_le, *]
  simp only [parseSetChain, chain, passes]
  exact congrArg (fun c => Except.ok (ChainItem.tx x c)) read

theorem chainOfCode_cases : ∀ n, (n ≤ 1 ∧ ∃ r, chainOfCode n = some (.rx r)) ∨
    (2 ≤ n ∧ n ≤ 5 ∧ ∃ x, chainOfCode n = some (.tx x)) ∨ (5 < n ∧ chainOfCode n = none)
  | 0 | 1 => .inl ⟨by omega, _, rfl⟩
  | 2 | 3 | 4 | 5 => .inr (.inl ⟨by omega, by omega, _, rfl⟩)
  | n + 6 => .inr (.inr ⟨by omega, rfl⟩)

theorem byteAt_lt (b : List Byte) (i : Nat) : byteAt b i < 256 := BitVec.isLt _

theorem parseSetChain_fails
    (fails : FailsAt [byteAt b 0 ≤ 5, 2 ≤ byteAt b 0 → byteAt b 1 ≤ 1, field4 b 2 = 0 ∨ legalLo (field4 b 2),
        2 ≤ byteAt b 0 → 1 ≤ byteAt b 6 ∧ byteAt b 6 ≤ 64, 2 ≤ byteAt b 0 → 1 ≤ byteAt b 7,
        2 ≤ byteAt b 0 → 1 ≤ byteAt b 8] i) : parseSetChain b = .error i := by
  rcases chainOfCode_cases (byteAt b 0) with ⟨rx, r, chain⟩ | ⟨tx, known, x, chain⟩ | ⟨out, chain⟩
  · have exempt : ¬2 ≤ byteAt b 0 := by omega
    have lo : ¬(field4 b 2 = 0 ∨ legalLo (field4 b 2)) ∧ i = 3 := by
      have : byteAt b 0 ≤ 5 := by omega
      simpa [failsAt_cons, not_failsAt_nil, exempt, this] using fails
    obtain ⟨bad, rfl⟩ := lo
    simp only [parseSetChain, chain]
    rw [if_neg (loPasses_iff.not.mpr bad)]
  · have tests : Tests [true, decide (byteAt b 1 ≤ 1), loPasses (field4 b 2), within 1 64 (byteAt b 6),
        within 1 255 (byteAt b 7), within 1 255 (byteAt b 8)]
        [byteAt b 0 ≤ 5, 2 ≤ byteAt b 0 → byteAt b 1 ≤ 1, field4 b 2 = 0 ∨ legalLo (field4 b 2),
          2 ≤ byteAt b 0 → 1 ≤ byteAt b 6 ∧ byteAt b 6 ≤ 64, 2 ≤ byteAt b 0 → 1 ≤ byteAt b 7,
          2 ≤ byteAt b 0 → 1 ≤ byteAt b 8] := by
      have drive := Nat.le_of_lt_succ (byteAt_lt b 7)
      have discharge := Nat.le_of_lt_succ (byteAt_lt b 8)
      simp [Tests, within_iff, loPasses_iff, tx, known, drive, discharge]
    simp only [parseSetChain, chain, tests.fails fails]
  · rcases failsAt_cons.mp fails with ⟨-, rfl⟩ | ⟨known, -⟩
    · simp only [parseSetChain, chain]
    · omega

/-! ### SET_SLOT and CLEAR_SLOT (R11) -/

theorem fallback_checks {f : Option Fallback} {rest : List Byte} (laid : b.drop i = fallbackBytes f ++ rest) :
    byteAt b i ≤ 1 ∧ (byteAt b i = 0 ∨ byteAt b (i + 1) ≤ 1) := by
  cases f with
  | none => exact ⟨by rw [byteAt_of_drop (n := 0) laid (by omega)]; omega, .inl (byteAt_of_drop laid (by omega))⟩
  | some fb =>
    have code : chainCode (.rx fb.chain) ≤ 1 := by cases fb.chain <;> decide
    rw [fallbackBytes] at laid
    simp only [List.append_assoc] at laid
    exact ⟨(byteAt_of_drop laid (by omega)).le, .inr ((byteAt_of_drop (drop_past laid rfl) (by omega)).trans_le code)⟩

theorem parseSetSlot_eq (b : List Byte) :
    parseSetSlot b =
      match firstFailed [(slotOf (byteAt b 0)).isSome, (rxOfCode (byteAt b 1)).isSome, true,
        (txOfCode (byteAt b 6)).isSome, true, decide (byteAt b 11 ≤ 7), within 1 1024 (field2 b 12),
        decide (-100 ≤ signedAt b 14 ∧ signedAt b 14 ≤ -20), decide (byteAt b 15 ≤ 1),
        byteAt b 15 == 0 || (rxOfCode (byteAt b 16)).isSome, true] with
      | some i => .error i
      | none => .ok ((slotOf (byteAt b 0)).getD 0, slotEntryAt b 0) := by
  rfl

theorem parseSetSlot_entry (n : Slot) {e : SlotEntry} (legal : e.Legal) :
    parseSetSlot (byte n.val ++ (slotBytes (some e)).tail) = .ok (n, e) := by
  obtain ⟨fits, shareLow, shareHigh, thresholdLow, thresholdHigh⟩ := legal
  rw [slotBytes_some]
  generalize spelled : byte n.val ++ (byte 1 ++ e.bytes).tail = b
  have laid : b.drop (0 + 1) = e.bytes ++ [] := by rw [← spelled, List.append_nil]; rfl
  have slot : byteAt b 0 = n.val := by
    rw [← spelled]
    exact byteAt_byte _ (by have := n.isLt; omega)
  obtain ⟨inputChain, -, outputChain, -, bandwidthClass, share, threshold, fallback⟩ := fits.laid laid
  obtain ⟨present, chain⟩ := fallback_checks fallback
  simp only [Nat.zero_add] at inputChain outputChain bandwidthClass share threshold present chain
  have passes : firstFailed [(slotOf (byteAt b 0)).isSome, (rxOfCode (byteAt b 1)).isSome, true,
      (txOfCode (byteAt b 6)).isSome, true, decide (byteAt b 11 ≤ 7), within 1 1024 (field2 b 12),
      decide (-100 ≤ signedAt b 14 ∧ signedAt b 14 ≤ -20), decide (byteAt b 15 ≤ 1),
      byteAt b 15 == 0 || (rxOfCode (byteAt b 16)).isSome, true] = none := by
    refine firstFailed_of_all ?_
    have cls := Nat.le_of_lt_succ e.bandwidthClass.isLt
    rw [slot, inputChain, outputChain, bandwidthClass, share, threshold, slotOf_val, rxOfCode_code, txOfCode_code]
    simp [within_iff, rxOfCode_isSome, *]
  rw [parseSetSlot_eq, passes, slot, slotOf_val, fits.entryAt laid]
  rfl

theorem parseSetSlot_fails
    (fails : FailsAt [byteAt b 0 ≤ 15, byteAt b 1 ≤ 1, True, 2 ≤ byteAt b 6 ∧ byteAt b 6 ≤ 5, True,
        byteAt b 11 ≤ 7, 1 ≤ field2 b 12 ∧ field2 b 12 ≤ 1024,
        -100 ≤ signedAt b 14 ∧ signedAt b 14 ≤ -20, byteAt b 15 ≤ 1,
        byteAt b 15 = 1 → byteAt b 16 ≤ 1, True] i) : parseSetSlot b = .error i := by
  have read : FailsAt ([byteAt b 0 ≤ 15, byteAt b 1 ≤ 1, True, 2 ≤ byteAt b 6 ∧ byteAt b 6 ≤ 5, True,
      byteAt b 11 ≤ 7, 1 ≤ field2 b 12 ∧ field2 b 12 ≤ 1024, -100 ≤ signedAt b 14 ∧ signedAt b 14 ≤ -20] ++
      (byteAt b 15 ≤ 1) :: [byteAt b 15 = 0 ∨ byteAt b 16 ≤ 1, True]) i := by
    by_cases present : byteAt b 15 ≤ 1
    · have same : (byteAt b 15 = 1 → byteAt b 16 ≤ 1) ↔ byteAt b 15 = 0 ∨ byteAt b 16 ≤ 1 := by omega
      rw [same] at fails
      exact fails
    · exact failsAt_replace present fails
  have tests : Tests [(slotOf (byteAt b 0)).isSome, (rxOfCode (byteAt b 1)).isSome, true,
      (txOfCode (byteAt b 6)).isSome, true, decide (byteAt b 11 ≤ 7), within 1 1024 (field2 b 12),
      decide (-100 ≤ signedAt b 14 ∧ signedAt b 14 ≤ -20), decide (byteAt b 15 ≤ 1),
      byteAt b 15 == 0 || (rxOfCode (byteAt b 16)).isSome, true]
      ([byteAt b 0 ≤ 15, byteAt b 1 ≤ 1, True, 2 ≤ byteAt b 6 ∧ byteAt b 6 ≤ 5, True,
      byteAt b 11 ≤ 7, 1 ≤ field2 b 12 ∧ field2 b 12 ≤ 1024, -100 ≤ signedAt b 14 ∧ signedAt b 14 ≤ -20] ++
      (byteAt b 15 ≤ 1) :: [byteAt b 15 = 0 ∨ byteAt b 16 ≤ 1, True]) := by
    simp [Tests, within_iff, slotOf_isSome, rxOfCode_isSome, txOfCode_isSome]
  rw [parseSetSlot_eq, tests.fails read]

theorem parseClearSlot_slot (n : Slot) : parseClearSlot (byte n.val) = .ok n := by
  have slot : byteAt (byte n.val) 0 = n.val := byteAt_of_drop (rest := []) (by simp) (by have := n.isLt; omega)
  rw [parseClearSlot, slot, slotOf_val]

theorem parseClearSlot_fails (fails : FailsAt [byteAt b 0 ≤ 15] i) : parseClearSlot b = .error i := by
  rcases failsAt_cons.mp fails with ⟨out, rfl⟩ | ⟨-, j, none, -⟩
  · rw [parseClearSlot, slotOf_eq_none (not_le.mp out)]
  · exact absurd none not_failsAt_nil

/-! ### SET_PROFILE (R12) -/

theorem parseSetProfile_severities (v : Severities) (rest : List Byte) :
    parseSetProfile (0 :: severityBytes v ++ rest) = .ok (.severities v) := by
  have part : byteAt (0 :: severityBytes v ++ rest) 0 = 0 := rfl
  have covered : ((0 :: severityBytes v ++ rest).drop 1).take 9 = severityBytes v := List.take_left' rfl
  have read : severitiesAt (0 :: severityBytes v ++ rest) 1 = v := severitiesAt_of_drop (rest := rest) rfl
  have passes : firstFailed (true :: (severityBytes v).map fun x => decide (x.toNat ≤ 3)) = none := by
    refine firstFailed_of_all ?_
    have small (l : Level) : (BitVec.ofNat 8 l.val).toNat ≤ 3 := by revert l; decide
    simp only [severityBytes_eq, List.map_cons, List.map_nil, small]
    decide
  simp only [parseSetProfile, part, covered, passes, read]

theorem Limits.Legal.fits {l : Limits} (legal : l.Legal) : l.Fits := by
  simp only [Limits.Legal, Limits.ranges, List.forall_mem_cons, List.not_mem_nil, false_implies, implies_true,
    and_true] at legal
  unfold Limits.Fits
  omega

theorem parseSetProfile_limits {l : Limits} (legal : l.Legal) : parseSetProfile (1 :: limitBytes l) = .ok (.limits l) := by
  have part : byteAt (1 :: limitBytes l) 0 = 1 := rfl
  have read : limitsAt (1 :: limitBytes l) 1 = l := limitsAt_of_drop (rest := []) (by simp) legal.fits
  have passes : firstFailed (true :: l.checks) = none := by rw [firstFailed_cons, l.tests.passes legal]; rfl
  simp only [parseSetProfile, part, read, passes]

theorem parseSetProfile_unknown (fails : FailsAt [byteAt b 0 ≤ 1] i) : parseSetProfile b = .error i := by
  rcases failsAt_cons.mp fails with ⟨out, rfl⟩ | ⟨-, j, none, -⟩
  · obtain ⟨k, part⟩ : ∃ k, byteAt b 0 = k + 2 := ⟨byteAt b 0 - 2, by omega⟩
    simp only [parseSetProfile, part]
  · exact absurd none not_failsAt_nil

theorem Tests.true_cons {bs : List Bool} {cs : List Prop} (tests : Tests bs cs) : Tests (true :: bs) (True :: cs) :=
  .cons (iff_of_true rfl trivial) tests

theorem parseSetProfile_severities_fails (long : 10 ≤ b.length) (part : byteAt b 0 = 0)
    (fails : FailsAt (True :: (List.range 9).map fun k => byteAt b (k + 1) ≤ 3) i) : parseSetProfile b = .error i := by
  have covered : (b.drop 1).take 9 = (List.range 9).map fun k => b.getD (k + 1) 0 := by
    refine List.ext_getElem (by simp; omega) fun k _ inside => ?_
    have bound : k + 1 < b.length := by simp at inside; omega
    simp [List.getElem?_eq_getElem bound]
  have tests : Tests (((b.drop 1).take 9).map fun x => decide (x.toNat ≤ 3))
      ((List.range 9).map fun k => byteAt b (k + 1) ≤ 3) := by
    rw [covered, List.map_map, Tests, List.forall₂_map_left_iff, List.forall₂_map_right_iff]
    exact List.forall₂_same.mpr fun k _ => decide_eq_true_iff
  simp only [parseSetProfile, part, tests.true_cons.fails fails]

theorem parseSetProfile_limits_fails (part : byteAt b 0 = 1) (fails : FailsAt (True :: (limitsAt b 1).ranges) i) :
    parseSetProfile b = .error i := by
  simp only [parseSetProfile, part, (limitsAt b 1).tests.true_cons.fails fails]

end Parses

/-! ## The edits (O20, O21) -/

section Edits

variable {s : State} {p : Port} {b : List Byte} {plan : Plan} {i : Nat}

theorem edit_of_staged (staged : s.pe.staged = some plan) (f : Plan → Plan) :
    s.edit f = { s with pe := { s.pe with staged := some (f plan) } } := by
  rw [State.edit, staged]
  rfl

theorem serve_setChain {item : ChainItem} (asked : parseSetChain b = .ok item) :
    serve .setChain p b s = (s.edit fun q => q.withChain item, .ok []) := by
  simp [serve, serveSetChain, asked]

theorem serve_setSlot {n : Slot} {e : SlotEntry} (asked : parseSetSlot b = .ok (n, e)) :
    serve .setSlot p b s = (s.edit fun q => q.withSlot n (some e), .ok []) := by
  simp [serve, serveSetSlot, asked]

theorem serve_clearSlot {n : Slot} (asked : parseClearSlot b = .ok n) :
    serve .clearSlot p b s = (s.edit fun q => q.withSlot n none, .ok []) := by
  simp [serve, serveClearSlot, asked]

theorem serve_setProfile {part : ProfilePart} (asked : parseSetProfile b = .ok part) :
    serve .setProfile p b s = (s.edit fun q => q.withProfile part, .ok []) := by
  simp [serve, serveSetProfile, asked]

theorem serve_setChain_refused (refused : parseSetChain b = .error i) :
    serve .setChain p b s = (s, .invalid i) := by
  simp [serve, serveSetChain, refused]

theorem serve_setSlot_refused (refused : parseSetSlot b = .error i) : serve .setSlot p b s = (s, .invalid i) := by
  simp [serve, serveSetSlot, refused]

theorem serve_clearSlot_refused (refused : parseClearSlot b = .error i) :
    serve .clearSlot p b s = (s, .invalid i) := by
  simp [serve, serveClearSlot, refused]

theorem serve_setProfile_refused (refused : parseSetProfile b = .error i) :
    serve .setProfile p b s = (s, .invalid i) := by
  simp [serve, serveSetProfile, refused]

/-- Settles O20: the items' bytes are their definitions, and each edit's parse gives back what was laid out. -/
theorem editsTaken : Obligations.EditsTaken := by
  unfold Obligations.EditsTaken
  refine ⟨?_, fun s p tag plan fill running own staged => ?_⟩
  · intro b1 b2 b4
    refine ⟨rfl, fun l => rfl, fun c => ?_, rfl, ?_, fun v => rfl, fun l => rfl⟩
    · rw [txBytes]
      cases c.enabled <;> rfl
    · rintro ⟨_ | _, _, _ | _, _, _, _, _, _ | ⟨_ | _, _⟩⟩ <;> rfl
  · intro taken
    have edits {k : RequestKind} {payload : List Byte} {f : Plan → Plan} (answers : k ≠ .nop)
        (fits : payload.length = k.payloadLength)
        (served : ∀ u : State, serve k p payload u = (u.edit f, .ok [])) :
        exec (k.command p tag ⟨payload, fill⟩) s = taken k.payloadLength k.code (f plan) := by
      refine exec_of_serve tag running answers (fun _ => own) fits ?_
      rw [served, fits, edit_of_staged ((framed_staged ..).trans staged)]
      rfl
    refine ⟨fun r lo e a b c legal => ?_, fun x c legal => ?_, fun n e legal => ?_, fun n => ?_,
      fun v rest size => ?_, fun l legal => ?_⟩
    · exact edits (k := .setChain) nofun rfl fun u => serve_setChain (parseSetChain_rx e [a, b, c] legal)
    · exact edits (k := .setChain) nofun rfl fun u => serve_setChain (parseSetChain_tx legal)
    · refine edits (k := .setSlot) nofun ?_ fun u => serve_setSlot (parseSetSlot_entry n legal)
      rw [List.length_append, List.length_tail, length_slotBytes]
      rfl
    · exact edits (k := .clearSlot) nofun rfl fun u => serve_clearSlot (parseClearSlot_slot n)
    · refine edits (k := .setProfile) nofun ?_ fun u => serve_setProfile (parseSetProfile_severities v rest)
      rw [List.length_append, size]
      rfl
    · exact edits (k := .setProfile) nofun rfl fun u => serve_setProfile (parseSetProfile_limits legal)

/-- Settles O21: each edit's parse finds the first check that fails. -/
theorem editsRefused : Obligations.EditsRefused := by
  unfold Obligations.EditsRefused
  refine ⟨fun l b fits => limitsAt_of_drop (rest := []) (by simp) fits, fun s p tag b i fill running own => ?_⟩
  intro refused
  have refuses {k : RequestKind} (answers : k ≠ .nop) (fits : b.length = k.payloadLength)
      (served : ∀ u : State, serve k p b u = (u, .invalid i)) :
      exec (k.command p tag ⟨b, fill⟩) s = refused k.code :=
    exec_of_serve tag running answers (fun _ => own) fits (served _)
  refine ⟨fun size fails => ?_, fun size fails => ?_, fun size fails => ?_, fun size fails => ?_⟩
  · exact refuses (k := .setChain) nofun size fun u => serve_setChain_refused (parseSetChain_fails fails)
  · exact refuses (k := .setSlot) nofun size fun u => serve_setSlot_refused (parseSetSlot_fails fails)
  · exact refuses (k := .clearSlot) nofun size fun u => serve_clearSlot_refused (parseClearSlot_fails fails)
  · refine refuses (k := .setProfile) nofun size fun u => serve_setProfile_refused ?_
    rcases fails with unknown | ⟨part, fails⟩ | ⟨part, fails⟩
    · exact parseSetProfile_unknown unknown
    · exact parseSetProfile_severities_fails (by omega) part fails
    · exact parseSetProfile_limits_fails part fails

end Edits

end Sys2Proof.Machine
end

section
/-! PROOFS. The CRC-32, the layout of a stored record, and the plan and lockout set read back from it (O28). -/

namespace Sys2Proof.Machine

/-! ## The CRC-32 and the layout of a record (R176) -/

section Layout

theorem crc32_eq (bs : List Byte) : crc32 bs = ~~~bs.foldl crc32Byte 0xFFFFFFFF#32 := BitVec.xor_allOnes

theorem crc32_append (bs : List Byte) (b : Byte) : crc32 (bs ++ [b]) = ~~~crc32Byte (~~~crc32 bs) b := by
  rw [crc32_eq, crc32_eq, List.foldl_append, BitVec.not_not]
  rfl

theorem lockoutMask_eq (v : PerTx Bool) :
    lockoutMask v = (if v.get .tx0 then 2 ^ txIndex .tx0 else 0) + (if v.get .tx1 then 2 ^ txIndex .tx1 else 0)
      + (if v.get .tx2 then 2 ^ txIndex .tx2 else 0) + (if v.get .tx3 then 2 ^ txIndex .tx3 else 0) := by
  obtain ⟨_ | _, _ | _, _ | _, _ | _⟩ := v <;> rfl

theorem planBytes_eq (p : Plan) :
    planBytes p = bytes4 p.issue ++ (byte (originCode p.origin) ++ (loBytes p.rx.rx0 ++ (loBytes p.rx.rx1 ++
      (txBytes p.tx.tx0 ++ (txBytes p.tx.tx1 ++ (txBytes p.tx.tx2 ++ (txBytes p.tx.tx3 ++
        (allSlots.flatMap (fun n => slotBytes (p.slots.get n)) ++ (severityBytes p.severities ++
          limitBytes p.limits))))))))) := by
  simp only [planBytes, headerBytes, List.append_assoc]

/-- Items of one size, laid out one after the other. -/
theorem length_flatMap {α : Type} {f : α → List Byte} {k : Nat} (size : ∀ a, (f a).length = k) (l : List α) :
    (l.flatMap f).length = k * l.length := by
  induction l with
  | nil => rfl
  | cons a l ih => rw [List.flatMap_cons, List.length_append, size, ih, List.length_cons]; ring

theorem drop_flatMap {α : Type} {f : α → List Byte} {k : Nat} (size : ∀ a, (f a).length = k) :
    ∀ {l : List α} {i : Nat} {a : α}, l[i]? = some a → ∃ later, (l.flatMap f).drop (k * i) = f a ++ later
  | b :: l, 0, a, at_ => by
    obtain rfl : b = a := by simpa using at_
    exact ⟨l.flatMap f, rfl⟩
  | b :: l, i + 1, a, at_ => by
    obtain ⟨later, eq⟩ := drop_flatMap size (l := l) (by simpa using at_)
    refine ⟨later, ?_⟩
    rw [List.flatMap_cons, Nat.mul_succ, Nat.add_comm, ← List.drop_drop, ← size b, List.drop_left, size b, eq]

theorem length_slots (v : PerSlot (Option SlotEntry)) :
    (allSlots.flatMap fun n => slotBytes (v.get n)).length = 336 :=
  length_flatMap (fun n => length_slotBytes (v.get n)) allSlots

theorem length_planBytes (p : Plan) : (planBytes p).length = 412 := by
  have lo (l : Option Nat) : (loBytes l).length = 4 := rfl
  have tx (x : TxSettings) : (txBytes x).length = 8 := rfl
  have severities (v : Severities) : (severityBytes v).length = 9 := rfl
  have limits (l : Limits) : (limitBytes l).length = 22 := rfl
  have issue (n : Nat) : (bytes4 n).length = 4 := rfl
  have origin (n : Nat) : (byte n).length = 1 := rfl
  simp only [planBytes_eq, List.length_append, length_slots, lo, tx, severities, limits, issue, origin]

theorem length_recordBody (r : RecordName) (c : Content) : (recordBody r c).length = bodySize r := by
  cases r with
  | dflt => exact length_planBytes c.plan
  | site => rw [recordBody, List.length_append, length_planBytes]; rfl

theorem length_recordImage (r : RecordName) (c : Content) : (recordImage r c).length = recordSize r := by
  rw [recordImage, List.length_cons, List.length_append, length_recordBody]
  rfl

theorem imageStatus_recordImage (r : RecordName) (c : Content) : imageStatus r (recordImage r c) = .valid := by
  have body : (recordImage r c).drop 1 = recordBody r c ++ bytes4 (crc32 (recordBody r c)).toNat := rfl
  have covered : ((recordImage r c).drop 1).take (bodySize r) = recordBody r c := by
    rw [body, ← length_recordBody r c, List.take_left]
  have crc : field4 (recordImage r c) (bodySize r + 1) = (crc32 (recordBody r c)).toNat := by
    refine field4_of_drop (rest := []) ?_ (crc32 (recordBody r c)).isLt
    rw [List.append_nil, Nat.add_comm]
    exact drop_past body (by rw [length_recordBody])
  exact if_pos ⟨rfl, length_recordImage r c, by rw [covered, crc]⟩

theorem imageStatus_erasedImage (r : RecordName) : imageStatus r (erasedImage r) = .invalid := by
  refine if_neg fun check => ?_
  obtain ⟨format, -⟩ := check
  have erased : (erasedImage r).head? = some 0xFF := by cases r <;> rfl
  rw [erased] at format
  exact absurd (Option.some.inj format) (by decide)

end Layout

/-! ## The plan and the lockout set read back (R176) -/

section ReadBack

theorem PerSlot.ext_get {α : Type} {v w : PerSlot α} (same : ∀ n, v.get n = w.get n) : v = w :=
  Vector.ext fun i inside => same ⟨i, inside⟩

theorem slots_of_drop {bs rest : List Byte} {v : PerSlot (Option SlotEntry)}
    (laid : bs.drop 46 = allSlots.flatMap (fun n => slotBytes (v.get n)) ++ rest)
    (fits : ∀ n e, v.get n = some e → e.Fits) :
    allSlots.foldl (fun w n => PerSlot.put w n (slotAt bs (46 + 21 * n.val))) (Vector.replicate 16 none) = v := by
  refine PerSlot.ext_get fun n => ?_
  rw [foldl_put_slots, if_pos (mem_allSlots n)]
  have place : allSlots[n.val]? = some n := by revert n; decide
  obtain ⟨later, item⟩ := drop_flatMap (fun n => length_slotBytes (v.get n)) place
  have inside : 21 * n.val ≤ (allSlots.flatMap fun n => slotBytes (v.get n)).length := by
    rw [length_slots]
    have := n.isLt
    omega
  refine slotAt_of_drop (rest := later ++ rest) ?_ (fits n)
  rw [← List.drop_drop, laid, List.drop_append_of_le_length inside, item, List.append_assoc]

theorem storedPlan_recordImage (r : RecordName) {c : Content} (fits : c.plan.Fits) :
    storedPlan (recordImage r c) = c.plan := by
  obtain ⟨issue, rx, tx, slots, limits⟩ := fits
  obtain ⟨rest, at1⟩ : ∃ rest, (recordImage r c).drop 1 = planBytes c.plan ++ rest := by
    cases r with
    | dflt => exact ⟨_, rfl⟩
    | site => exact ⟨_, List.append_assoc ..⟩
  generalize recordImage r c = bs at at1
  rw [planBytes_eq] at at1
  simp only [List.append_assoc] at at1
  have origin : originCode c.plan.origin < 256 := by cases c.plan.origin <;> decide
  have at5 : bs.drop 5 = _ := drop_past at1 rfl
  have at6 : bs.drop 6 = _ := drop_past at5 rfl
  have at10 : bs.drop 10 = _ := drop_past at6 rfl
  have at14 : bs.drop 14 = _ := drop_past at10 rfl
  have at22 : bs.drop 22 = _ := drop_past at14 rfl
  have at30 : bs.drop 30 = _ := drop_past at22 rfl
  have at38 : bs.drop 38 = _ := drop_past at30 rfl
  have at46 : bs.drop 46 = _ := drop_past at38 rfl
  have at382 : bs.drop 382 = _ := drop_past at46 (by rw [length_slots])
  have at391 : bs.drop 391 = _ := drop_past at382 rfl
  rw [storedPlan, field4_of_drop at1 issue, byteAt_of_drop at5 origin, originOfCode_code,
    loOf_loAt at6 (rx .rx0), loOf_loAt at10 (rx .rx1), txAt_of_drop at14 (tx .tx0), txAt_of_drop at22 (tx .tx1),
    txAt_of_drop at30 (tx .tx2), txAt_of_drop at38 (tx .tx3), slots_of_drop at46 slots,
    severitiesAt_of_drop at382, limitsAt_of_drop at391 limits]

theorem storedLockout_recordImage (c : Content) : storedLockout (recordImage .site c) = c.lockout := by
  have body : (recordImage .site c).drop 1
      = planBytes c.plan ++ (byte (lockoutMask c.lockout) ++ bytes4 (crc32 (recordBody .site c)).toNat) :=
    List.append_assoc ..
  have at413 : (recordImage .site c).drop 413 = _ := drop_past body (by rw [length_planBytes])
  have small : lockoutMask c.lockout < 256 := by
    obtain ⟨_ | _, _ | _, _ | _, _ | _⟩ := c.lockout <;> decide
  rw [storedLockout, byteAt_of_drop at413 small]
  obtain ⟨_ | _, _ | _, _ | _, _ | _⟩ := c.lockout <;> rfl

/-- Settles O28: the layout is the definition, and each item is read back where it was laid out. -/
theorem storedRecordsReadBack : Obligations.StoredRecordsReadBack := by
  unfold Obligations.StoredRecordsReadBack
  refine ⟨⟨rfl, fun bs b => crc32_append bs b, by decide +kernel⟩, fun r c => ?_, fun r c fits =>
    ⟨?_, rfl, imageStatus_recordImage r c, storedPlan_recordImage r fits, storedLockout_recordImage c,
      imageStatus_erasedImage r⟩⟩
  · intro plan mask body
    have plan_eq : planBytes c.plan = plan := by
      rw [planBytes_eq]
      simp only [plan, List.append_assoc]
      rfl
    have body_eq : recordBody r c = body := by
      cases r with
      | site => rw [recordBody, plan_eq, lockoutMask_eq]
      | dflt => exact plan_eq
    rw [recordImage, body_eq]
    rfl
  · cases r <;> exact length_recordImage _ c

end ReadBack

end Sys2Proof.Machine
end

section
/-! PROOFS. The fields of each READ_STATUS item (O16). -/

namespace Sys2Proof.Machine

/-! ## The fields of READ_STATUS (O16) -/

section StatusFields

theorem eligible_iff (i : InputRecord) :
    i.eligible = decide (i.inputState = some .liveFallback ∨ (i.inputState = some .inputLost ∧ i.source = .fallback)) := by
  obtain ⟨_ | _ | _ | _, _ | _, _, _, _, _, _, _, _⟩ := i <;> rfl

theorem slotNumbers (l : List Slot) : (do let n ← l; pure n.val) = l.map Fin.val := by
  induction l with
  | nil => rfl
  | cons n l ih => exact congrArg (n.val :: ·) ih

theorem wantedOn_eq (s : State) (x : Tx) : s.wantedOn x = decide (s.offCauses x = []) := by
  rw [State.wantedOn]
  cases s.offCauses x <;> rfl

theorem storedIssue_eq (x : StoredRecord) : x.storedIssue = x.plan.map Plan.issue := by
  unfold StoredRecord.storedIssue StoredRecord.plan
  cases x.status <;> rfl

/-- Two lists of fields agree field by field. -/
theorem fields_cons {a b : List Byte} {l m : List (List Byte)} (first : a = b) (rest : l = m) : a :: l = b :: m := by
  rw [first, rest]

/-- Settles O16: the encodings are the model's, and the fields agree one by one. -/
theorem statusFieldsHeld : Obligations.StatusFieldsHeld := by
  unfold Obligations.StatusFieldsHeld
  intro b1 b2 b4 yes on name opt4 issue list word
  have yes_eq : yes = yesNo := funext fun b => by cases b <;> rfl
  have on_eq : on = onOff := funext fun b => by cases b <;> rfl
  have name_eq : name = named1 := funext fun n => by cases n <;> rfl
  have opt4_eq : opt4 = optional4 := funext fun n => by cases n <;> rfl
  have issue_eq : issue = optionalIssue := funext fun n => by cases n <;> rfl
  have word_eq : word = wordField := funext fun w => by cases w <;> rfl
  refine ⟨by decide +kernel, fun s p => ?_⟩
  intro left steps
  have left_eq : left = s.secondsLeft := funext fun t => by cases t <;> rfl
  have steps_eq : steps = s.stepsLeft := funext fun t => by cases t <;> rfl
  rw [yes_eq, on_eq, name_eq, opt4_eq, issue_eq, word_eq, left_eq, steps_eq]
  refine ⟨?_, fun x => ?_, fun c => ?_, fun n => ?_, ?_⟩
  · refine fields_cons rfl <| fields_cons rfl <| fields_cons rfl <| fields_cons rfl <| fields_cons rfl <|
      fields_cons ?pending <| fields_cons rfl <| fields_cons ?top <| fields_cons rfl <| fields_cons ?applied <|
      fields_cons rfl <| fields_cons rfl <| fields_cons rfl <| fields_cons ?holdover <| fields_cons rfl <|
      fields_cons rfl <| fields_cons rfl <| fields_cons rfl <| fields_cons rfl <| fields_cons rfl <|
      fields_cons ?measured <| fields_cons rfl <| fields_cons ?last <| fields_cons rfl <| fields_cons ?half <|
      fields_cons rfl <| fields_cons ?eligible <| fields_cons rfl <| fields_cons rfl <| fields_cons ?supply <|
      fields_cons rfl <| fields_cons ?cause <| fields_cons ?links rfl
    case pending => rcases s.pe.pendingApply with _ | ⟨_ | _, _, _ | _ | _⟩ <;> rfl
    case top => rw [PlanEngine.entry_zero]; rfl
    case applied => rcases s.pe.lastApply with _ | ⟨_ | _, _ | _ | _, _, _, _, _⟩ <;> rfl
    case holdover => rfl
    case measured => rcases s.fc.current with _ | _ <;> rfl
    case last => rcases s.fc.last with _ | _ <;> rfl
    case half => rcases s.probe.phase with _ | _ | _ <;> rfl
    case eligible =>
      rw [State.eligibleSlots]
      simp only [eligible_iff, slotNumbers]
      rw [List.map_map]
      rfl
    case supply => cases s.supply.state <;> rfl
    case cause => cases s.supply.lastCause <;> rfl
    case links =>
      have link (q : Port) : linkField (s.port q) = [match (s.port q).link with | .active => 0 | .silent => 1] := by
        unfold linkField
        cases (s.port q).link <;> rfl
      exact congrArg₂ (· ++ ·) (link .a) (link .b)
  · intro m q c
    refine fields_cons rfl <| fields_cons rfl <| fields_cons ?lanes <| fields_cons rfl <| fields_cons rfl <|
      fields_cons rfl <| fields_cons rfl <| fields_cons rfl <| fields_cons rfl <| fields_cons rfl <|
      fields_cons ?wanted <| fields_cons rfl <| fields_cons rfl <| fields_cons rfl <| fields_cons ?timer <|
      fields_cons rfl <| fields_cons rfl <| fields_cons rfl <| fields_cons rfl <| fields_cons rfl <|
      fields_cons rfl <| fields_cons rfl <| fields_cons ?trips rfl
    case lanes =>
      rw [slotNumbers, List.map_map]
      rfl
    case wanted => rw [wantedOn_eq]
    case timer =>
      change bytes2 (if q.state = .driveSettle then _ else if q.state = .paDischarge then _ else 0) = _
      cases q.state <;> rfl
    case trips =>
      have entry (r : Trip) : bytes4 r.time ++ byte (faultsCode r.faults)
          = b4 r.time ++ (match r.faults with | .paFault => [0] | .txLoLost => [1] | .both => [2]) := by
        cases r.faults <;> rfl
      exact congrArg listField (congrArg (List.map · c.trips) (funext entry))
  · intro x
    refine fields_cons rfl <| fields_cons rfl <| fields_cons ?programmed rfl
    case programmed =>
      change bytes2 ((x.programmed.map DividerWords.n).getD 65535) = _
      cases x.programmed <;> rfl
  · intro l i
    refine fields_cons rfl <| fields_cons ?source <| fields_cons rfl <| fields_cons rfl <| fields_cons rfl <|
      fields_cons rfl <| fields_cons rfl <| fields_cons rfl <| fields_cons rfl <| fields_cons rfl <|
      fields_cons ?judgement <| fields_cons ?result <| fields_cons rfl <| fields_cons rfl <| fields_cons rfl <|
      fields_cons ?visit rfl
    case source =>
      change byte (sourceCode i.source) = _
      cases i.source <;> rfl
    case judgement =>
      change named1 (i.judgement.map judgementCode) = _
      rcases i.judgement with _ | _ | _ <;> rfl
    case result =>
      change dbfsField i.lastResult = _
      cases i.lastResult <;> rfl
    case visit =>
      change named1 (i.lastVisit.map visitResultCode) = _
      rcases i.lastVisit with _ | _ | _ <;> rfl
  · intro stored status
    have issues (r : RecordName) : (s.record r).storedIssue = (stored r).map Plan.issue := by
      simp only [stored, storedIssue_eq, StoredRecord.plan]
      cases (s.record r).status <;> rfl
    have statuses (r : RecordStatus) : byte (recordStatusCode r) = [status r] := by cases r <;> rfl
    refine fields_cons ?writer <| fields_cons ?supplyLow <| fields_cons (statuses _) <| fields_cons (statuses _) <|
      fields_cons (congrArg optionalIssue (issues .site)) <| fields_cons (congrArg optionalIssue (issues .dflt)) <|
      fields_cons rfl <| fields_cons rfl <| fields_cons rfl <| fields_cons rfl <| fields_cons rfl <|
      fields_cons rfl <| fields_cons rfl <| fields_cons rfl <| fields_cons ?lockout <| fields_cons rfl <|
      fields_cons ?started rfl
    case writer => rcases s.store.inFlight with _ | ⟨_ | _, _, _⟩ <;> rfl
    case supplyLow => cases s.supply.state <;> rfl
    case lockout =>
      change storedLockoutField (s.record .site) = _
      unfold storedLockoutField
      cases (s.record .site).status <;> rfl
    case started => rw [statuses, statuses]; rfl

end StatusFields

end Sys2Proof.Machine
end

section
/-! PROOFS. Commit validation: what an examination of checks in their order finds, and the checks group by group
(O22). -/

namespace Sys2Proof.Machine

/-! ## The first of a list of checks that fails (R14) -/

section Finds

/-- What an examination of checks in their order finds: the failure of the first that fails, none when all pass. -/
def Finds : List (PlanFailure × Prop) → Option PlanFailure → Prop
  | [], x => x = none
  | c :: l, x => (c.2 ∧ Finds l x) ∨ (¬c.2 ∧ x = some c.1)

variable {α : Type} {l m : List (PlanFailure × Prop)} {x y : Option PlanFailure} {f : PlanFailure} {c : Prop}

theorem Finds.pass (holds : c) (rest : Finds l x) : Finds ((f, c) :: l) x := .inl ⟨holds, rest⟩

theorem Finds.fail (fails : ¬c) : Finds ((f, c) :: l) (some f) := .inr ⟨fails, rfl⟩

theorem Finds.unique (a : Finds l x) (b : Finds l y) : x = y := by
  induction l with
  | nil => exact a.trans (Eq.symm b)
  | cons c l ih =>
    rcases a with ⟨holds, a⟩ | ⟨fails, rfl⟩ <;> rcases b with ⟨holds', b⟩ | ⟨fails', rfl⟩
    · exact ih a b
    · exact absurd holds fails'
    · exact absurd holds' fails
    · rfl

theorem finds_none_iff : Finds l none ↔ ∀ c ∈ l, c.2 := by
  induction l with
  | nil => simp [Finds]
  | cons c l ih => simp [Finds, ih]

theorem finds_some_iff : Finds l (some f) ↔
    ∃ before after check, l = before ++ (f, check) :: after ∧ (∀ c ∈ before, c.2) ∧ ¬check := by
  induction l with
  | nil => simp [Finds]
  | cons c l ih =>
    constructor
    · rintro (⟨holds, rest⟩ | ⟨fails, eq⟩)
      · obtain ⟨before, after, check, rfl, all, fails⟩ := ih.mp rest
        exact ⟨c :: before, after, check, rfl, List.forall_mem_cons.mpr ⟨holds, all⟩, fails⟩
      · obtain rfl := Option.some.inj eq
        exact ⟨[], l, c.2, rfl, nofun, fails⟩
    · rintro ⟨before, after, check, eq, all, fails⟩
      cases before with
      | nil =>
        obtain ⟨rfl, rfl⟩ := List.cons.inj eq
        exact .fail fails
      | cons b before =>
        obtain ⟨rfl, rfl⟩ := List.cons.inj eq
        obtain ⟨holds, rest⟩ := List.forall_mem_cons.mp all
        exact .inl ⟨holds, ih.mpr ⟨before, after, check, rfl, rest, fails⟩⟩

theorem Finds.append (a : Finds l x) (b : Finds m y) : Finds (l ++ m) (x <|> y) := by
  induction l with
  | nil =>
    obtain rfl : x = none := a
    exact b
  | cons c l ih =>
    rcases a with ⟨holds, a⟩ | ⟨fails, rfl⟩
    · exact .inl ⟨holds, ih a⟩
    · exact .inr ⟨fails, rfl⟩

theorem Finds.flatMap {checks : α → List (PlanFailure × Prop)} {found : α → Option PlanFailure} {P : α → Bool}
    {items : List α} (each : ∀ a, P a = true → Finds (checks a) (found a))
    (skipped : ∀ a, P a = false → ∀ c ∈ checks a, c.2) :
    Finds (items.flatMap checks) ((items.filter P).findSome? found) := by
  induction items with
  | nil => rfl
  | cons a items ih =>
    rw [List.flatMap_cons, List.filter_cons]
    split
    · next examined =>
      have both := (each a examined).append ih
      rw [List.findSome?_cons]
      cases h : found a with
      | none =>
        rw [h] at both
        exact both
      | some f =>
        rw [h] at both
        exact both
    · next other =>
      exact (finds_none_iff.mpr (skipped a (Bool.eq_false_iff.mpr other))).append ih

theorem Finds.flatMap_all {checks : α → List (PlanFailure × Prop)} {found : α → Option PlanFailure}
    {items : List α} (each : ∀ a, Finds (checks a) (found a)) : Finds (items.flatMap checks) (items.findSome? found) := by
  have all := Finds.flatMap (P := fun _ => true) (items := items) (fun a _ => each a) nofun
  rwa [List.filter_true] at all

theorem Finds.single {found : Option PlanFailure} (pass : c → found = none) (fail : ¬c → found = some f) :
    Finds [(f, c)] found := by
  by_cases holds : c
  · exact .inl ⟨holds, pass holds⟩
  · exact .inr ⟨holds, fail holds⟩

end Finds

/-! ## The checks of commit validation (R15 to R17, R25, R26) -/

section Checks

theorem bandwidth_even (k : Fin 8) : bandwidth k % 2 = 0 := by revert k; decide

/-- The window test in units of 2^-25 Hz (R25). -/
def insideWindow (f lo : Nat) (k : Fin 8) : Prop :=
  2 * ((f : Int) * 2 ^ 24 - 10000000 * (2 ^ 24 * (dividerWords lo).n + (dividerWords lo).f)).natAbs
    + bandwidth k * 2 ^ 24 ≤ 28000000 * 2 ^ 24

theorem fitsWindow_iff {f lo : Nat} {k : Fin 8} :
    fitsWindow f (dividerWords lo) (bandwidth k) = true ↔ insideWindow f lo k := by
  have even := bandwidth_even k
  rw [fitsWindow, decide_eq_true_iff, insideWindow, offsetScaled, achievedScaled]
  generalize dividerWords lo = w
  push_cast
  omega

/-- The two ranges share at most one point of the air (R26). -/
def RangesApart (a b : SlotEntry) : Prop :=
  2 * (a.outputFrequency : Int) + bandwidth a.bandwidthClass
      ≤ 2 * (b.outputFrequency : Int) - bandwidth b.bandwidthClass ∨
    2 * (b.outputFrequency : Int) + bandwidth b.bandwidthClass
      ≤ 2 * (a.outputFrequency : Int) - bandwidth a.bandwidthClass

theorem rangesOverlap_iff {a b : SlotEntry} :
    rangesOverlap a.outputFrequency (bandwidth a.bandwidthClass) b.outputFrequency (bandwidth b.bandwidthClass) = true
      ↔ ¬RangesApart a b := by
  have evenA := bandwidth_even a.bandwidthClass
  have evenB := bandwidth_even b.bandwidthClass
  rw [rangesOverlap, decide_eq_true_iff, RangesApart]
  omega

variable (p : Plan)

theorem Plan.checkTxLo_finds (x : Tx) :
    Finds [(.ofChain .txLoMissing x, (p.tx.get x).enabled = true → (p.tx.get x).lo.isSome = true)] (p.checkTxLo x) := by
  unfold Plan.checkTxLo
  refine .single (fun holds => if_neg ?_) (fun fails => if_pos ?_)
  · cases h : (p.tx.get x).enabled
    · simp
    · simpa [Option.isSome_iff_ne_none] using holds h
  · obtain ⟨enabled, missing⟩ := Classical.not_imp.mp fails
    simpa [enabled] using missing

theorem Plan.checkCount_finds (x : Tx) :
    Finds [(.ofChain .chainFull x, (allSlots.filter (p.onChain x)).length ≤ 8)] (p.checkCount x) :=
  .single (fun holds => if_neg (by omega)) (fun fails => if_pos (by omega))

theorem checkIssue_finds (last : Nat) :
    Finds [(⟨.issueLimit, none, none, none⟩, last ≠ 4294967295)] (checkIssue last) :=
  .single (fun holds => if_neg holds) (fun fails => if_pos (not_not.mp fails))

/-! ### One slot (R15) -/

section Slot

variable {p} (n : Slot) (e : SlotEntry)

theorem Plan.checkInput_finds :
    Finds [(.ofSlot .rxUnused n, (p.rx.get e.inputChain).isSome = true),
      (.ofSlot .inputWindow n, ∀ lo, p.rx.get e.inputChain = some lo → insideWindow e.inputFrequency lo e.bandwidthClass)]
      ((p.checkInput e).map (PlanFailure.ofSlot · n)) := by
  unfold Plan.checkInput
  cases p.rx.get e.inputChain with
  | none => exact .fail nofun
  | some lo =>
    refine .pass rfl (.single (fun holds => ?_) (fun fails => ?_))
    · dsimp only
      rw [if_pos (fitsWindow_iff.mpr (holds lo rfl))]
      rfl
    · dsimp only
      rw [if_neg fun fits => fails fun _ eq => Option.some.inj eq ▸ fitsWindow_iff.mp fits]
      rfl

theorem Plan.checkOutput_finds :
    Finds [(.ofSlot .outputWindow n, ∀ lo, (p.tx.get e.outputChain).lo = some lo →
      insideWindow e.outputFrequency lo e.bandwidthClass)] ((p.checkOutput e).map (PlanFailure.ofSlot · n)) := by
  unfold Plan.checkOutput
  cases (p.tx.get e.outputChain).lo with
  | none => exact .pass nofun rfl
  | some lo =>
    refine .single (fun holds => ?_) (fun fails => ?_)
    · dsimp only
      rw [if_pos (fitsWindow_iff.mpr (holds lo rfl))]
      rfl
    · dsimp only
      rw [if_neg fun fits => fails fun _ eq => Option.some.inj eq ▸ fitsWindow_iff.mp fits]
      rfl

theorem Plan.checkFallback_finds :
    Finds [(.ofSlot .fallbackUnused n, ∀ fb, e.fallback = some fb → (p.rx.get fb.chain).isSome = true),
      (.ofSlot .fallbackWindow n, ∀ fb lo, e.fallback = some fb → p.rx.get fb.chain = some lo →
        insideWindow fb.frequency lo e.bandwidthClass),
      (.ofSlot .fallbackSame n, e.fallback ≠ some ⟨e.inputChain, e.inputFrequency⟩)]
      ((p.checkFallback e).map (PlanFailure.ofSlot · n)) := by
  unfold Plan.checkFallback
  cases e.fallback with
  | none => exact .pass nofun (.pass nofun (.pass nofun rfl))
  | some fb =>
    dsimp only
    cases h : p.rx.get fb.chain with
    | none => exact .fail fun used => by simpa [h] using used fb rfl
    | some lo =>
      refine .pass (fun _ eq => by rw [← Option.some.inj eq, h]; rfl) ?_
      dsimp only
      by_cases fits : fitsWindow fb.frequency (dividerWords lo) (bandwidth e.bandwidthClass) = true
      · have inside (fb' : Fallback) (lo' : Nat) (is : some fb = some fb') (at_ : p.rx.get fb'.chain = some lo') :
            insideWindow fb'.frequency lo' e.bandwidthClass := by
          obtain rfl := Option.some.inj is
          obtain rfl := Option.some.inj (h.symm.trans at_)
          exact fitsWindow_iff.mp fits
        refine .pass inside ?_
        have whole : some fb = some ⟨e.inputChain, e.inputFrequency⟩
            ↔ fb.chain = e.inputChain ∧ fb.frequency = e.inputFrequency := by
          rw [Option.some.injEq, Fallback.mk.injEq]
        rw [fits]
        refine .single (fun apart => ?_) (fun same => ?_)
        · rw [if_neg (by decide), if_neg (mt whole.mpr apart)]
          rfl
        · rw [if_neg (by decide), if_pos (whole.mp (not_not.mp same))]
          rfl
      · rw [if_pos (by rw [Bool.eq_false_iff.mpr fits]; rfl)]
        exact .fail fun inside => fits (fitsWindow_iff.mpr (inside fb lo rfl h))

end Slot

/-! ### The pairs on a chain (R16) -/

theorem Plan.slotsOverlap_some {p : Plan} {i j : Slot} {a b : SlotEntry} (first : p.slots.get i = some a)
    (second : p.slots.get j = some b) : p.slotsOverlap i j = true ↔ ¬RangesApart a b := by
  rw [← rangesOverlap_iff]
  simp only [Plan.slotsOverlap, first, second]

/-- Two slots of a plan that both stand on a chain are apart on the air. -/
def Plan.Apart (x : Tx) (i j : Slot) : Prop :=
  ∀ a b, p.slots.get i = some a → p.slots.get j = some b → a.outputChain = x → b.outputChain = x → RangesApart a b

theorem Plan.apart_of_off {x : Tx} {i j : Slot} (off : p.onChain x i = false ∨ p.onChain x j = false) :
    p.Apart x i j := by
  intro a b first second onA onB
  rcases off with off | off
  · exact absurd ((p.onChain_iff x i).mpr ⟨a, first, onA⟩) (by rw [off]; exact Bool.false_ne_true)
  · exact absurd ((p.onChain_iff x j).mpr ⟨b, second, onB⟩) (by rw [off]; exact Bool.false_ne_true)

theorem Plan.apart_iff {x : Tx} {i j : Slot} (onI : p.onChain x i = true) (onJ : p.onChain x j = true) :
    p.Apart x i j ↔ p.slotsOverlap i j = false := by
  obtain ⟨a, first, onA⟩ := (p.onChain_iff x i).mp onI
  obtain ⟨b, second, onB⟩ := (p.onChain_iff x j).mp onJ
  rw [Bool.eq_false_iff, ne_eq, Plan.slotsOverlap_some first second, not_not]
  constructor
  · exact fun apart => apart a b first second onA onB
  · intro apart a' b' first' second' _ _
    obtain rfl := Option.some.inj (first.symm.trans first')
    obtain rfl := Option.some.inj (second.symm.trans second')
    exact apart

theorem Plan.checkOverlap_finds (x : Tx) :
    Finds (allSlots.flatMap fun i => (allSlots.filter fun j => decide (i < j)).map fun j =>
      (⟨.overlap, some x, some i, some j⟩, p.Apart x i j)) (p.checkOverlap x) := by
  unfold Plan.checkOverlap
  refine .flatMap (fun i onI => ?_) (fun i off c mem => ?_)
  · rw [List.map_eq_flatMap, List.filter_comm]
    refine .flatMap (fun j onJ => ?_) (fun j off c mem => ?_)
    · refine .single (fun apart => if_neg ?_) (fun together => if_pos ?_)
      · rw [(p.apart_iff onI onJ).mp apart]
        exact Bool.false_ne_true
      · exact Bool.not_eq_false _ ▸ mt (p.apart_iff onI onJ).mpr together
    · obtain rfl := List.mem_singleton.mp mem
      exact p.apart_of_off (.inr off)
  · obtain ⟨j, -, rfl⟩ := List.mem_map.mp mem
    exact p.apart_of_off (.inl off)

theorem orElse_map {α β : Type} (a b c : Option α) (f : α → β) :
    (a <|> b <|> c).map f = (a.map f <|> b.map f <|> c.map f) := by
  cases a <;> cases b <;> rfl

/-- Settles O22: group by group, the checks of the statement are what the model's own functions examine. -/
theorem planValidated : Obligations.PlanValidated := by
  unfold Obligations.PlanValidated
  refine ⟨by decide, fun p last => ?_⟩
  intro inside ofSlot ofChain slotChecks apart checks
  have slot (n : Slot) : Finds (slotChecks n) (p.checkSlot n) := by
    simp only [slotChecks, Plan.checkSlot]
    cases p.slots.get n with
    | none => rfl
    | some e =>
      dsimp only
      rw [orElse_map]
      exact (Plan.checkInput_finds n e).append ((Plan.checkFallback_finds n e).append (Plan.checkOutput_finds n e))
  have chains {c : Tx → PlanFailure × Prop} {found : Tx → Option PlanFailure} (each : ∀ x, Finds [c x] (found x)) :
      Finds (allTx.map c) (allTx.findSome? found) := by
    rw [List.map_eq_flatMap]
    exact .flatMap_all each
  have found : Finds checks (p.validate last) := by
    simp only [checks, List.append_assoc]
    exact (chains p.checkTxLo_finds).append ((Finds.flatMap_all slot).append ((chains p.checkCount_finds).append
      ((Finds.flatMap_all p.checkOverlap_finds).append (checkIssue_finds last))))
  constructor
  · rw [← finds_none_iff]
    exact ⟨fun none => none ▸ found, fun none => found.unique none⟩
  · intro f
    rw [← finds_some_iff]
    exact ⟨fun some => some ▸ found, fun some => found.unique some⟩

end Checks

end Sys2Proof.Machine
end

section
/-! PROOFS. Void windows, a change of input handed over (O55), and the examination of the windows at a boundary (O54).
-/

namespace Sys2Proof.Machine

/-! ## Void windows (R110) -/

section Windows

variable {s t u : State}

/-- Away from a boundary that has just been examined, a void window's record stays as it is. -/
structure VoidKept (s t : State) : Prop where
  time : t.time = s.time
  kept : s.time.lastWindow ≠ s.time.steps → ∀ n, (s.input n).windowVoid = true → t.input n = s.input n

theorem VoidKept.refl (s : State) : VoidKept s s := ⟨rfl, fun _ _ _ => rfl⟩

theorem VoidKept.trans (a : VoidKept s t) (b : VoidKept t u) : VoidKept s u := by
  refine ⟨b.time.trans a.time, fun away n void => ?_⟩
  have first := a.kept away n void
  exact (b.kept (by rwa [a.time]) n (by rwa [first])).trans first

theorem VoidKept.of_inputs (time : t.time = s.time) (inputs : t.inputs = s.inputs) : VoidKept s t :=
  ⟨time, fun _ n _ => by rw [State.input, inputs]; rfl⟩

theorem setInput_voidKept {n : Slot} {i : InputRecord} (counted : (s.input n).windowVoid = false) :
    VoidKept s (s.setInput n i) := by
  refine ⟨rfl, fun _ m void => ?_⟩
  rw [State.input_setInput, if_neg]
  rintro rfl
  exact Bool.false_ne_true (counted.symm.trans void)

theorem decideLanes_voidKept (s : State) (ns : List Slot) : VoidKept s (s.decideLanes ns) := by
  refine ⟨(decideLanes_frame ..).time, fun away n void => ?_⟩
  rw [decideLanes_input, if_neg away]
  split
  · rw [← void]
  · rfl

theorem markWindow_voidKept (s : State) (n : Slot) : VoidKept s (s.markWindow n) := by
  refine ⟨rfl, fun away m void => ?_⟩
  rw [State.markWindow, if_neg away, State.input_setInput]
  split
  · next same => rw [same] at void ⊢; rw [← void]
  · rfl

theorem clearPhases_voidKept (s : State) (x : Tx) : VoidKept s (s.clearPhases x) := by
  obtain ⟨-, -, inputs, -⟩ := clearPhases_spec s x
  exact .of_inputs (clearPhases_frame s x).time inputs

theorem handOver_voidKept (s : State) (x : Tx) : VoidKept s (s.handOver x) := by
  have frame := takeWanted_frame (s.setSeq x { s.seq x with handedOver := s.pe.active.tuningLo x, retunePending := false })
    (.tx x) (s.pe.active.tuningLo x)
  exact .of_inputs frame.time frame.inputs

theorem moveSeq_voidKept (s : State) (x : Tx) (st : SeqState) : VoidKept s (s.moveSeq x st) := by
  have written : VoidKept s (s.written x st) := .of_inputs rfl rfl
  have entered : VoidKept s (s.entered x st) := by
    rcases entered_cases s x st with ⟨-, -, eq⟩ | ⟨-, eq⟩
    · rw [eq]
      exact written.trans (handOver_voidKept ..)
    · rw [eq]
      exact written
  rw [moveSeq_eq]
  refine (entered.trans ?_).trans (decideLanes_voidKept ..)
  unfold State.cleared
  split
  · exact clearPhases_voidKept ..
  · exact .refl _

theorem settleSeq_voidKept (fuel : Nat) (s : State) (x : Tx) : VoidKept s (State.settleSeq fuel s x) := by
  induction fuel generalizing s with
  | zero => exact .refl s
  | succ fuel ih =>
    unfold State.settleSeq
    split
    · exact .refl s
    · exact (moveSeq_voidKept ..).trans (ih _)

theorem decideSeq_voidKept (s : State) (x : Tx) : VoidKept s (s.decideSeq x) := by
  unfold State.decideSeq
  split
  · exact settleSeq_voidKept ..
  · exact .refl s

theorem decideAllSeq_voidKept (s : State) : VoidKept s s.decideAllSeq :=
  foldl_related .refl .trans decideSeq_voidKept _ s

/-- A visit that starts changes the probe alone. -/
theorem startVisit_eq (s : State) : s.startVisit = { s with probe := s.startVisit.probe } := by
  unfold State.startVisit
  split
  · rfl
  · split <;> rfl

end Windows

/-! ## A change of input (R98, R114) -/

section Change

variable (s : State) (n : Slot) (i : InputRecord)

/-- The change of input as handed to the lane: its record and its notice, and the fast mute where the new source
is not VERIFIED. -/
def State.handedInput : State :=
  let moved := i.source != (s.input n).source
  let s' := (s.setInput n i).notifyBoth .inputChangeover
  let s' := if moved then s'.markWindow n else s'
  if moved && s'.sourceUnverified n then s'.fastMute n else s'

theorem changeInput_eq : s.changeInput n i =
    (if i.source != (s.input n).source then ((s.handedInput n i).decideLanes [n]).decideAllSeq
      else (s.handedInput n i).decideLanes [n]).startVisit := rfl

/-- The record as handed over: a change of source voids the window in progress. -/
def State.handedRecord : InputRecord :=
  if i.source ≠ (s.input n).source then
    { i with windowVoid := if s.time.lastWindow = s.time.steps then !(s.lane n).state.measured else true }
  else i

/-- The change of source reaches a receive chain that is not VERIFIED. -/
def State.mutedBy (e : SlotEntry) : Prop :=
  i.source ≠ (s.input n).source ∧ s.isVerified (.rx (e.sourceChain i.source)) = false

/-- The record and its notice written. -/
def State.changed : State := (s.setInput n (s.handedRecord n i)).notifyBoth .inputChangeover

theorem handedInput_eq : s.handedInput n i =
    if (i.source != (s.input n).source) && (s.changed n i).sourceUnverified n then (s.changed n i).fastMute n
    else s.changed n i := by
  have marked : (if i.source != (s.input n).source then ((s.setInput n i).notifyBoth .inputChangeover).markWindow n
      else (s.setInput n i).notifyBoth .inputChangeover) = s.changed n i := by
    by_cases moved : i.source = (s.input n).source
    · simp only [moved, bne_self_eq_false, Bool.false_eq_true, if_false, State.changed, State.handedRecord, ne_eq,
        not_true_eq_false]
    · rw [if_pos (bne_iff_ne.mpr moved)]
      simp only [State.changed, State.handedRecord, if_pos moved]
      rw [notifyBoth_eq, notifyBoth_eq]
      simp only [State.markWindow, State.input, State.setInput, PerSlot.get_put_same]
      simp only [PerSlot.put, Vector.set_set]
      rfl
  rw [← marked]
  rfl

theorem changed_input : { (s.changed n i).input n with windowVoid := true } = { i with windowVoid := true } := by
  change { (s.setInput n (s.handedRecord n i)).input n with windowVoid := true } = _
  rw [State.input_setInput_same, State.handedRecord]
  split <;> rfl

theorem handedInput_spec {e : SlotEntry} (slot : (s.lane n).slot = some e) :
    (s.mutedBy n i e → s.handedInput n i = (s.changed n i).fastMute n) ∧
      (¬s.mutedBy n i e → s.handedInput n i = s.changed n i) := by
  have source : ((s.changed n i).input n).source = i.source := (congrArg InputRecord.source (changed_input s n i) :)
  have unverified : (s.changed n i).sourceUnverified n = !s.isVerified (.rx (e.sourceChain i.source)) := by
    rw [State.sourceUnverified, source]
    change Option.any _ (s.lane n).slot = _
    rw [slot]
    rfl
  rw [handedInput_eq, unverified]
  constructor
  · rintro ⟨moved, off⟩
    rw [if_pos (by simp [moved, off])]
  · intro calm
    refine if_neg fun both => calm ?_
    have parts : i.source ≠ (s.input n).source ∧ s.isVerified (.rx (e.sourceChain i.source)) = false := by simpa using both
    exact parts

/-- Whether or not the lane is muted, the record is written and both ports are told. -/
theorem handedInput_written : { (s.handedInput n i).input n with windowVoid := true } = { i with windowVoid := true } ∧
    (∀ q, (s.handedInput n i).told q .inputChangeover) ∧ (s.handedInput n i).probe = s.probe := by
  rw [handedInput_eq]
  split <;> exact ⟨changed_input s n i, fun q => notifyBoth_told _ _ q, rfl⟩

end Change

section AllSequencers

theorem decideAllSeq_moves (s : State) : LaneMoves s s.decideAllSeq := foldl_related .refl .trans decideSeq_moves _ s

theorem decideAllSeq_agrees {s : State} (sound : s.CounterSound) {n : Slot} (agrees : s.Agrees n) :
    s.decideAllSeq.Agrees n := by
  unfold State.decideAllSeq
  induction allTx generalizing s with
  | nil => exact agrees
  | cons x l ih => exact ih ((decideSeq_local s x).counter sound) (decideSeq_agrees sound x agrees)

/-- No sequencer's decision makes a receive synthesizer VERIFIED. -/
theorem decideAllSeq_unverified {s : State} {r : Rx} (off : s.isVerified (.rx r) = false) :
    s.decideAllSeq.isVerified (.rx r) = false := by
  unfold State.decideAllSeq
  induction allTx generalizing s with
  | nil => exact off
  | cons x l ih =>
    refine ih ?_
    rw [State.isVerified]
    rcases (decideSeq_local s x).synth (.rx r) nofun with same | ⟨-, same⟩
    · rw [same]
      exact off
    · rw [same]
      rfl

end AllSequencers

/-! ### What the change hands over (O55) -/

section HandedOver

variable {s : State} {n : Slot} {i : InputRecord} {e : SlotEntry}

/-- What a change of input has touched before the lane decides: its record, its notice and the muted lane. -/
structure Handed (s : State) (n : Slot) (i : InputRecord) (e : SlotEntry) (h : State) : Prop where
  frame : SeqFrame s h
  syn : h.syn = s.syn
  fc : h.fc = s.fc
  phases : h.phases = s.phases
  mixers : h.mixers = s.mixers
  told : ∀ q, h.told q .inputChangeover
  input : { h.input n with windowVoid := true } = { i with windowVoid := true }
  muted : s.mutedBy n i e → h.lane n = { s.lane n with current := 0, start := 0, target := 0 }
  spared : ¬s.mutedBy n i e → h.lane n = s.lane n
  others : ∀ k, k ≠ n → h.lane k = s.lane k

theorem handedInput_handed (slot : (s.lane n).slot = some e) : Handed s n i e (s.handedInput n i) := by
  obtain ⟨muted, spared⟩ := handedInput_spec s n i slot
  obtain ⟨input, told, -⟩ := handedInput_written s n i
  have written : SeqFrame s (s.changed n i) := (setInput_frame ..).toSeq.trans (notifyBoth_frame ..)
  by_cases mutes : s.mutedBy n i e
  · rw [muted mutes] at input told ⊢
    exact ⟨written.trans (fastMute_frame ..).toSeq, rfl, rfl, rfl, rfl, told, input,
      fun _ => State.lane_setLane_same .., fun calm => absurd mutes calm,
      fun k apart => (State.lane_setLane ..).trans (if_neg apart)⟩
  · rw [spared mutes] at input told ⊢
    exact ⟨written, rfl, rfl, rfl, rfl, told, input, fun yes => absurd yes mutes, fun _ => rfl, fun _ _ => rfl⟩

/-- The state in which the lane and, where the source has changed, the sequencers have decided. -/
def State.inputDecided (s : State) (n : Slot) (i : InputRecord) : State :=
  if i.source != (s.input n).source then ((s.handedInput n i).decideLanes [n]).decideAllSeq
  else (s.handedInput n i).decideLanes [n]

theorem inputDecided_moves (s : State) (n : Slot) (i : InputRecord) :
    LaneMoves (s.handedInput n i) (s.inputDecided n i) := by
  unfold State.inputDecided
  split
  · exact (decideLanes_moves ..).trans (decideAllSeq_moves _)
  · exact decideLanes_moves ..

theorem inputDecided_heeds (s : State) (n : Slot) (i : InputRecord) :
    Heeds (s.handedInput n i) (s.inputDecided n i) := by
  unfold State.inputDecided
  split
  · exact (decideLanes_frame ..).heeds.trans (decideAllSeq_heeds _)
  · exact (decideLanes_frame ..).heeds

theorem inputDecided_agrees (sound : (s.handedInput n i).CounterSound) : (s.inputDecided n i).Agrees n := by
  have decided := decideLanes_agrees (s.handedInput n i) (ns := [n]) List.mem_cons_self
  unfold State.inputDecided
  split
  · exact decideAllSeq_agrees ((decideLanes_frame ..).untouched.counter sound) decided
  · exact decided

theorem inputDecided_unverified {r : Rx} (off : (s.handedInput n i).isVerified (.rx r) = false) :
    (s.inputDecided n i).isVerified (.rx r) = false := by
  have decided : ((s.handedInput n i).decideLanes [n]).isVerified (.rx r) = false := by
    rw [State.isVerified, State.synth, (decideLanes_frame ..).syn]
    exact off
  unfold State.inputDecided
  split
  · exact decideAllSeq_unverified decided
  · exact decided

theorem State.CounterSound.congr {t : State} (sound : s.CounterSound) (syn : t.syn = s.syn) (fc : t.fc = s.fc) :
    t.CounterSound := by
  have same (c : Chain) : t.synth c = s.synth c := by rw [State.synth, syn]; rfl
  refine ⟨fun c => ?_, ?_, fun q mem => ?_, fun m is => ?_⟩
  · rw [same]
    exact sound.contexts c
  · rw [State.QueueSound, fc]
    exact sound.nodup
  · rw [same]
    exact sound.queued q (fc ▸ mem)
  · rw [same, fc]
    exact sound.measured m (fc ▸ is)

theorem targetOf_held (s : State) (n : Slot) : s.targetOf n .held = 0 := by
  unfold State.targetOf
  split <;> rfl

/-- Settles O55: the record and a fast mute are handed over first; what follows moves no share by itself. -/
theorem inputChangeHandsOver : Obligations.InputChangeHandsOver := by
  intro s n i e sound slot t moved trusted l
  have handed : Handed s n i e (s.handedInput n i) := handedInput_handed slot
  have frame : SeqFrame s t := changeInput_frame s n i
  have is : t = { s.inputDecided n i with probe := t.probe } := startVisit_eq (s.inputDecided n i)
  have visit : LaneMoves (s.inputDecided n i) t := by
    rw [is]
    exact .of_same rfl rfl rfl rfl rfl
  have moves := (inputDecided_moves s n i).trans visit
  have lane (k : Slot) : t.lane k = (s.inputDecided n i).lane k := by rw [is]; rfl
  have agrees : t.Agrees n := by
    rw [is]
    exact inputDecided_agrees (sound.counter.congr handed.syn handed.fc)
  generalize hh : s.handedInput n i = h at handed moves
  have words : (h.lane n).primaryWord = (s.lane n).primaryWord ∧ (h.lane n).fallbackWord = (s.lane n).fallbackWord ∧
      (h.lane n).slot = some e ∧ (h.lane n).phaseReset = (s.lane n).phaseReset := by
    by_cases mutes : s.mutedBy n i e
    · rw [handed.muted mutes]
      exact ⟨rfl, rfl, slot, rfl⟩
    · rw [handed.spared mutes]
      exact ⟨rfl, rfl, slot, rfl⟩
  obtain ⟨primary, fallback, slot', waits⟩ := words
  have input : { t.input n with windowVoid := true } = { i with windowVoid := true } := (moves.inputs n).trans handed.input
  have source : (t.input n).source = i.source := (congrArg InputRecord.source input :)
  have mutes_iff : s.mutedBy n i e ↔ moved ∧ ¬trusted := by
    simp only [State.mutedBy, moved, trusted, Bool.not_eq_true]
  refine ⟨frame, fun q => ?_, input, (moves.slots n).trans slot', agrees.1, agrees.2, (moves.words n).1.trans primary,
    (moves.words n).2.trans fallback, ?_, fun calm => ?_, fun k apart => ?_, fun moves_ off => ?_, fun calm => ?_⟩
  · have told : (s.inputDecided n i).told q .inputChangeover :=
      (inputDecided_heeds s n i).told q _ (hh ▸ handed.told q)
    rw [is]
    exact told
  · rw [source]
    cases i.source
    · exact (moves.words n).1.trans primary
    · exact (moves.words n).2.trans fallback
  · have kept := (moves.phases n (waits.trans calm)).2
    rw [kept, State.phaseOf, handed.phases]
    rfl
  · rw [moves.current, handed.others k apart]
  · have mutes := mutes_iff.mpr ⟨moves_, off⟩
    have held : l.state = .held := by
      rw [show l.state = t.laneStateOf n from agrees.1]
      refine laneStateOf_held ((moves.slots n).trans slot') (.inr (.inr ?_))
      rw [source]
      have before : (s.handedInput n i).isVerified (.rx (e.sourceChain i.source)) = false := by
        rw [hh, State.isVerified, State.synth, handed.syn]
        exact mutes.2
      have after := inputDecided_unverified before
      rw [is]
      exact after
    refine ⟨?_, ?_, held⟩
    · rw [show l.current = (h.lane n).current from moves.current n, handed.muted mutes]
    · rw [show l.target = t.targetOf n l.state from agrees.2, held, targetOf_held]
  · have spared := handed.spared fun mutes => by
      obtain ⟨yes, off⟩ := mutes_iff.mp mutes
      exact calm.elim (fun no => no yes) off
    have on : h.laneOn e.outputChain n = true := (laneOn_iff ..).mpr ⟨e, slot', rfl⟩
    refine ⟨(moves.current n).trans (congrArg Lane.current spared), fun retargeted => ?_⟩
    rcases moves.ramped e.outputChain with ⟨-, same⟩ | ⟨restarted, starts⟩
    · exact absurd ((same n on).2.trans (congrArg Lane.target spared)) retargeted
    · refine ⟨(starts n on).trans (congrArg Lane.current spared), restarted.trans ?_⟩
      rw [State.restarted, State.mixer, handed.mixers, handed.frame.time]
      rfl

end HandedOver

/-! ## The examination of a window (R110 to R113) -/

section Examination

variable {s : State} {n : Slot} {i : InputRecord}

theorem clampResult_eq (r : Int) : clampResult r = if r < -100 then -100 else if 0 < r then 0 else r := by
  unfold clampResult
  split <;> [skip; split] <;> omega

theorem countLow_unjudged {st : InputState} {fb : Bool} (h : i.judgement = none) :
    s.countLow n i st fb = s.setInput n i := by
  simp only [State.countLow, h]

theorem countLow_good {st : InputState} {fb : Bool} (h : i.judgement = some .good) :
    s.countLow n i st fb = s.setInput n { i with lowCount := 0 } := by
  simp only [State.countLow, h]

theorem countLow_low {st : InputState} {fb : Bool} (h : i.judgement = some .low) :
    s.countLow n i st fb =
      if i.lowCount + 1 < 10 * s.limits.lossConfirm then s.setInput n { i with lowCount := i.lowCount + 1 }
      else if st = .livePrimary ∧ fb then
        s.changeInput n { i.clearCounts with inputState := some .liveFallback, source := .fallback }
      else s.changeInput n { i.clearCounts with inputState := some .inputLost } := by
  simp only [State.countLow, h]
  rfl

theorem countGood_unjudged (h : i.judgement = none) : s.countGood n i = s.setInput n i := by
  simp only [State.countGood, h]

theorem countGood_low (h : i.judgement = some .low) : s.countGood n i = s.setInput n { i with goodCount := 0 } := by
  simp only [State.countGood, h]

theorem countGood_good (h : i.judgement = some .good) :
    s.countGood n i =
      if i.goodCount + 1 < 10 * s.limits.restoreConfirm then s.setInput n { i with goodCount := i.goodCount + 1 }
      else s.changeInput n { i.clearCounts with
        inputState := some (match i.source with
          | .primary => .livePrimary
          | .fallback => .liveFallback) } := by
  simp only [State.countGood, h]
  rfl

theorem examineSlot_void (void : (s.input n).windowVoid = true) (r : Int) : s.examineSlot n r = s := by
  unfold State.examineSlot
  dsimp only
  split
  · rw [if_pos void]
  · rfl

/-- The record after a counted window's result has been taken. -/
def InputRecord.judged (i : InputRecord) (threshold r : Int) : InputRecord :=
  { i with lastResult := some (clampResult r), judgement := judgeWindow (clampResult r) threshold i.judgement }

/-- A counted window of a present slot is counted low while the input is live and good while it is lost. -/
theorem examineSlot_counted {e : SlotEntry} {st : InputState} (input : (s.input n).inputState = some st)
    (slot : s.pe.active.slots.get n = some e) (counted : (s.input n).windowVoid = false) (r : Int) :
    let i := (s.input n).judged e.threshold r
    (st ≠ .inputLost → s.examineSlot n r = s.countLow n i st e.fallback.isSome) ∧
      (st = .inputLost → s.examineSlot n r = s.countGood n i) := by
  have calm : ¬(s.input n).windowVoid = true := by rw [counted]; exact Bool.false_ne_true
  unfold State.examineSlot
  dsimp only
  split
  · next st' e' input' slot' =>
    obtain rfl := Option.some.inj (input.symm.trans input')
    obtain rfl := Option.some.inj (slot.symm.trans slot')
    rw [if_neg calm]
    cases st with
    | livePrimary | liveFallback => exact ⟨fun _ => rfl, nofun⟩
    | inputLost => exact ⟨fun h => absurd rfl h, fun _ => rfl⟩
  · next none => exact (none st e input slot).elim

theorem handedInput_voidKept (counted : (s.input n).windowVoid = false) (i : InputRecord) :
    VoidKept s (s.handedInput n i) := by
  have written : VoidKept s ((s.setInput n i).notifyBoth .inputChangeover) :=
    (setInput_voidKept counted).trans (.of_inputs rfl rfl)
  have marked (b : Bool) : VoidKept s (if b = true then ((s.setInput n i).notifyBoth .inputChangeover).markWindow n
      else (s.setInput n i).notifyBoth .inputChangeover) := by
    split
    · exact written.trans (markWindow_voidKept ..)
    · exact written
  have muted (b : Bool) (w : State) (h : VoidKept s w) :
      VoidKept s (if (b && w.sourceUnverified n) = true then w.fastMute n else w) := by
    split
    · exact h.trans (.of_inputs rfl rfl)
    · exact h
  exact muted _ _ (marked _)

theorem changeInput_voidKept (counted : (s.input n).windowVoid = false) (i : InputRecord) :
    VoidKept s (s.changeInput n i) := by
  have decided : VoidKept s (s.inputDecided n i) := by
    have lanes := (handedInput_voidKept counted i).trans (decideLanes_voidKept _ [n])
    unfold State.inputDecided
    split
    · exact lanes.trans (decideAllSeq_voidKept _)
    · exact lanes
  have is : s.changeInput n i = { s.inputDecided n i with probe := (s.changeInput n i).probe } :=
    startVisit_eq (s.inputDecided n i)
  rw [is]
  exact decided.trans (.of_inputs rfl rfl)

theorem countLow_voidKept (counted : (s.input n).windowVoid = false) (i : InputRecord) (st : InputState) (fb : Bool) :
    VoidKept s (s.countLow n i st fb) := by
  cases h : i.judgement with
  | none => rw [countLow_unjudged h]; exact setInput_voidKept counted
  | some j =>
    cases j with
    | good => rw [countLow_good h]; exact setInput_voidKept counted
    | low =>
      rw [countLow_low h]
      split
      · exact setInput_voidKept counted
      · split <;> exact changeInput_voidKept counted _

theorem countGood_voidKept (counted : (s.input n).windowVoid = false) (i : InputRecord) :
    VoidKept s (s.countGood n i) := by
  cases h : i.judgement with
  | none => rw [countGood_unjudged h]; exact setInput_voidKept counted
  | some j =>
    cases j with
    | low => rw [countGood_low h]; exact setInput_voidKept counted
    | good =>
      rw [countGood_good h]
      split
      · exact setInput_voidKept counted
      · exact changeInput_voidKept counted _

theorem examineSlot_voidKept (s : State) (n : Slot) (r : Int) : VoidKept s (s.examineSlot n r) := by
  by_cases void : (s.input n).windowVoid = true
  · rw [examineSlot_void void]
    exact .refl s
  · have counted := Bool.eq_false_iff.mpr void
    unfold State.examineSlot
    dsimp only
    split
    · rw [if_neg void]
      split
      · exact countLow_voidKept counted ..
      · exact countLow_voidKept counted ..
      · exact countGood_voidKept counted _
    · exact .refl s

theorem beginWindows_spec (s : State) :
    let t := allSlots.foldl State.beginWindow s
    t = { s with inputs := t.inputs } ∧
      ∀ n, t.input n = { s.input n with windowVoid := !(s.lane n).state.measured } := by
  have fold (l : List Slot) (s : State) :
      let t := l.foldl State.beginWindow s
      t = { s with inputs := t.inputs } ∧
        ∀ n, t.input n = if n ∈ l then { s.input n with windowVoid := !(s.lane n).state.measured } else s.input n := by
    induction l generalizing s with
    | nil => exact ⟨rfl, fun n => (if_neg nofun).symm⟩
    | cons m l ih =>
      obtain ⟨rest, input⟩ := ih (s.beginWindow m)
      refine ⟨rest, fun n => (input n).trans ?_⟩
      have begun : (s.beginWindow m).input n =
          if n = m then { s.input m with windowVoid := !(s.lane m).state.measured } else s.input n :=
        State.input_setInput ..
      change (if n ∈ l then { (s.beginWindow m).input n with windowVoid := !(s.lane n).state.measured }
        else (s.beginWindow m).input n) = _
      rw [begun]
      by_cases same : n = m
      · subst same
        simp
      · by_cases later : n ∈ l <;> simp [same, later]
  obtain ⟨rest, input⟩ := fold allSlots s
  exact ⟨rest, fun n => (input n).trans (if_pos (mem_allSlots n))⟩

theorem measured_iff (st : LaneState) : st.measured = true ↔ st ∈ [LaneState.livePrimary, .liveFallback, .inputLost] := by
  cases st <;> decide

theorem advanceTo_lastWindow (s : State) (d : Nat) : (s.advanceTo d).time.lastWindow = s.time.lastWindow := by
  unfold State.advanceTo
  dsimp only
  split
  · rfl
  · split <;> rfl

/-- Settles O54: the boundary's own moves, and one slot's examination case by case. -/
theorem inputWindowsExamined : Obligations.InputWindowsExamined := by
  refine ⟨measured_iff, fun s results => ⟨fun held => ?_, fun live => ?_⟩, fun s n result e st input slot counted => ?_⟩
  · change execInputWindowBoundary results s = _
    rw [execInputWindowBoundary_eq, if_pos held]
  · generalize hu : s.advanceTo ((s.time.lastWindow / 10 + 1) * 10) = u
    have moved : TimeFrame s u := hu ▸ advanceTo_frame ..
    have steps : u.time.steps = max s.time.steps ((s.time.lastWindow / 10 + 1) * 10) := hu ▸ advanceTo_steps ..
    have last : u.time.lastWindow = s.time.lastWindow := hu ▸ advanceTo_lastWindow ..
    have due : s.time.nextWindow = (s.time.lastWindow / 10 + 1) * 10 := rfl
    have examined := examineAll_frame u results
    have void : VoidKept u (u.examineAll results) :=
      foldl_related .refl .trans (fun s n => examineSlot_voidKept s n _) _ u
    generalize hv : u.examineAll results = v at examined void
    obtain ⟨rest, begun⟩ := beginWindows_spec v.noteBoundary
    generalize ht : allSlots.foldl State.beginWindow v.noteBoundary = t at rest begun
    have next : exec (.inputWindowBoundary results) s = .next t := by
      change execInputWindowBoundary results s = _
      rw [execInputWindowBoundary_eq, if_neg live, due, hu, hv, ht]
    have lane (n : Slot) : t.lane n = v.lane n := by rw [rest]; rfl
    have boundary : t.time = { v.time with lastWindow := v.time.steps } := by
      rw [rest]
      rfl
    refine ⟨t, next, ?_, ?_, ?_, ?_, ?_, ?_, ?_, ?_, fun n => ?_, fun n was => ?_⟩
    · exact (congrArg State.pe rest :).trans (examined.pe.trans moved.pe)
    · exact (congrArg State.store rest :).trans (examined.store.trans moved.store)
    · exact (congrArg State.ref rest :).trans (examined.ref.trans moved.ref)
    · exact (congrArg State.supply rest :).trans (examined.supply.trans moved.supply)
    · exact (congrArg State.pending rest :).trans (examined.pending.trans moved.pending)
    · rw [boundary, ← steps, ← examined.time]
    · rw [boundary]
    · intro u' v'
      have same : v' = v := hv
      rw [same]
      refine ⟨?_, fun n => ?_⟩
      · rw [boundary]
        exact rest
      · rw [begun n, lane n]
        rfl
    · rw [begun n, lane n]
      rfl
    · have away : u.time.lastWindow ≠ u.time.steps := by rw [last, steps]; omega
      have same : v.input n = s.input n := by
        have before : u.input n = s.input n := by rw [State.input, moved.inputs]; rfl
        exact (void.kept away n (by rwa [before])).trans before
      rw [begun n]
      change { v.input n with windowVoid := true } = _
      rw [same, ← was]
  · intro r held judged i cleared t
    obtain ⟨live, lost⟩ := examineSlot_counted input slot counted result
    have record : (s.input n).judged e.threshold result = i := by
      simp only [InputRecord.judged, clampResult_eq]
      rfl
    rw [record] at live lost
    have is : i.judgement = judged := rfl
    refine ⟨fun none => ?_, fun good up => ?_, fun low down => ?_, fun low up below => ?_, fun low primary reached backed => ?_,
      fun low other reached => ?_, fun good down below => ?_, fun good down reached => ?_⟩
    · by_cases down : st = .inputLost
      · exact (lost down).trans (countGood_unjudged none)
      · exact (live down).trans (countLow_unjudged none)
    · exact (live up).trans (countLow_good good)
    · exact (lost down).trans (countGood_low low)
    · exact ((live up).trans (countLow_low low)).trans (if_pos below)
    · subst primary
      exact (((live nofun).trans (countLow_low low)).trans (if_neg (not_lt.mpr reached))).trans (if_pos ⟨rfl, backed⟩)
    · have up : st ≠ .inputLost := by rcases other with rfl | ⟨rfl, -⟩ <;> exact nofun
      refine (((live up).trans (countLow_low low)).trans (if_neg (not_lt.mpr reached))).trans (if_neg ?_)
      rintro ⟨rfl, backed⟩
      rcases other with other | ⟨-, alone⟩
      · exact absurd other nofun
      · rw [alone] at backed
        exact Bool.false_ne_true backed
    · exact ((lost down).trans (countGood_good good)).trans (if_pos below)
    · exact ((lost down).trans (countGood_good good)).trans (if_neg (not_lt.mpr reached))

end Examination

end Sys2Proof.Machine
end

section
/-! PROOFS. The rotation of the probe and the two halves of a visit (O56). -/

namespace Sys2Proof.Machine

/-! ## The rotation of the probe (R115) -/

section Rotation

variable {s : State} {n m : Slot}

theorem find_least {l : List Slot} (sorted : l.Pairwise (· < ·)) {p : Slot → Bool} (found : l.find? p = some m) :
    m ∈ l ∧ p m = true ∧ ∀ k ∈ l, p k = true → m ≤ k := by
  obtain ⟨holds, before, after, rfl, earlier⟩ := List.find?_eq_some_iff_append.mp found
  refine ⟨by simp, holds, fun k mem pass => ?_⟩
  rcases List.mem_append.mp mem with mem | mem
  · exact absurd pass (by simpa using earlier k mem)
  · rcases List.mem_cons.mp mem with rfl | mem
    · exact le_refl k
    · exact (List.rel_of_pairwise_cons (List.pairwise_append.mp sorted).2.1 mem).le

theorem mem_eligibleSlots : n ∈ s.eligibleSlots ↔ (s.input n).eligible = true := by
  rw [State.eligibleSlots, List.mem_filter, and_iff_right (mem_allSlots n)]

theorem eligibleSlots_sorted (s : State) : s.eligibleSlots.Pairwise (· < ·) :=
  List.Pairwise.filter _ (by decide)

theorem nextVisit_eq (last : s.probe.lastVisited = some n) :
    s.nextVisit = (s.eligibleSlots.find? (fun k => decide (n < k)) <|> s.eligibleSlots.head?) := by
  simp only [State.nextVisit, last]

/-- The next visit is the first eligible slot above the last one visited, or else the first of all. -/
theorem nextVisit_some (last : s.probe.lastVisited = some n) (next : s.nextVisit = some m) :
    (s.input m).eligible = true ∧ (∀ k, (s.input k).eligible = true → n < k → n < m ∧ m ≤ k) ∧
      ((∀ k, (s.input k).eligible = true → k ≤ n) → ∀ k, (s.input k).eligible = true → m ≤ k) := by
  rw [nextVisit_eq last] at next
  cases above : s.eligibleSlots.find? (fun k => decide (n < k)) with
  | some m' =>
    rw [above] at next
    obtain rfl : m' = m := Option.some.inj next
    obtain ⟨mem, higher, least⟩ := find_least (eligibleSlots_sorted s) above
    refine ⟨mem_eligibleSlots.mp mem, fun k eligible beyond => ⟨of_decide_eq_true higher,
      least k (mem_eligibleSlots.mpr eligible) (decide_eq_true beyond)⟩, fun low => ?_⟩
    exact absurd (low _ (mem_eligibleSlots.mp mem)) (not_le.mpr (of_decide_eq_true higher))
  | none =>
    rw [above] at next
    have first : s.eligibleSlots.find? (fun _ => true) = some m := by
      rw [← next]
      cases s.eligibleSlots <;> rfl
    obtain ⟨mem, -, least⟩ := find_least (eligibleSlots_sorted s) first
    have low (k : Slot) (eligible : (s.input k).eligible = true) : k ≤ n := by
      have := List.find?_eq_none.mp above k (mem_eligibleSlots.mpr eligible)
      simpa using this
    exact ⟨mem_eligibleSlots.mp mem, fun k eligible beyond => absurd (low k eligible) (not_le.mpr beyond),
      fun _ k eligible => least k (mem_eligibleSlots.mpr eligible) rfl⟩

theorem nextVisit_none (last : s.probe.lastVisited = some n) :
    s.nextVisit = none ↔ ∀ k, (s.input k).eligible = false := by
  constructor
  · intro none k
    by_contra eligible
    have mem := mem_eligibleSlots.mpr (Bool.not_eq_false _ ▸ eligible)
    have empty : s.eligibleSlots.head? = Option.none := by
      rw [nextVisit_eq last] at none
      cases above : s.eligibleSlots.find? (fun k => decide (n < k)) with
      | none => rwa [above] at none
      | some m => rw [above] at none; cases none
    rw [List.head?_eq_none_iff.mp empty] at mem
    exact List.not_mem_nil mem
  · intro none
    cases next : s.nextVisit with
    | none => rfl
    | some m => exact absurd (nextVisit_some last next).1 (by rw [none m]; exact Bool.false_ne_true)

/-- The probe as it stands once a visit, after the one of slot `n`, has been chosen. -/
def State.VisitChosen (t : State) (n : Slot) (now : Nat) : Prop :=
  (t.probe.visit = none ↔ ∀ k, (t.input k).eligible = false) ∧
    ∀ m, t.probe.visit = some m →
      (t.input m).eligible = true ∧ t.probe.lastVisited = some m ∧ t.probe.clean = t.primaryVerified m ∧
      t.probe.phase = some .discard ∧ t.probe.timer = some (now + 10) ∧
      (∀ k, (t.input k).eligible = true → n < k → n < m ∧ m ≤ k) ∧
      ((∀ k, (t.input k).eligible = true → k ≤ n) → ∀ k, (t.input k).eligible = true → m ≤ k)

theorem startVisit_none (idle : s.probe.visit = none) (none : s.nextVisit = none) : s.startVisit = s := by
  rw [State.startVisit, idle, none]
  rfl

theorem startVisit_some (idle : s.probe.visit = none) (next : s.nextVisit = some m) :
    s.startVisit = { s with
      probe := { visit := some m, phase := some .discard, timer := s.afterMs 100, lastVisited := some m,
                 clean := s.primaryVerified m } } := by
  rw [State.startVisit, idle, next]
  rfl

theorem startVisit_idem (s : State) : s.startVisit.startVisit = s.startVisit := by
  have again (busy : s.startVisit.probe.visit.isSome = true) : s.startVisit.startVisit = s.startVisit := by
    rw [State.startVisit, if_pos busy]
  cases idle : s.probe.visit with
  | some k =>
    have same : s.startVisit = s := by rw [State.startVisit, if_pos (by rw [idle]; rfl)]
    rw [same, same]
  | none =>
    cases next : s.nextVisit with
    | none => rw [startVisit_none idle next, startVisit_none idle next]
    | some m => exact again (by rw [startVisit_some idle next]; rfl)

theorem startVisit_chosen (idle : s.probe.visit = none) (last : s.probe.lastVisited = some n) :
    s.startVisit.VisitChosen n s.time.steps := by
  cases next : s.nextVisit with
  | none =>
    rw [startVisit_none idle next]
    exact ⟨iff_of_true idle ((nextVisit_none last).mp next), fun m visit => by rw [idle] at visit; cases visit⟩
  | some m =>
    obtain ⟨eligible, above, around⟩ := nextVisit_some last next
    rw [startVisit_some idle next]
    refine ⟨iff_of_false nofun fun none => ?_, fun m' visit => ?_⟩
    · exact absurd eligible (by rw [show (s.input m).eligible = false from none m]; exact Bool.false_ne_true)
    · obtain rfl : m = m' := Option.some.inj visit
      exact ⟨eligible, rfl, rfl, rfl, rfl, above, around⟩

end Rotation

/-! ## The halves of a visit (R116, R117) -/

section Halves

variable {s : State} {n : Slot}

theorem primaryVerified_iff : s.primaryVerified n = true ↔
    ∃ e, (s.lane n).slot = some e ∧ (s.synth (.rx e.inputChain)).state = .verified := by
  simp [State.primaryVerified, Option.any_eq_true, isVerified_iff]

theorem TimeFrame.primarySound {u : State} (h : TimeFrame s u) (n : Slot) : u.primarySound n = s.primarySound n := by
  simp only [State.primarySound, State.primaryVerified, State.isVerified, State.synth, State.lane, h.lanes, h.syn]

theorem inputDecided_probe (s : State) (n : Slot) (i : InputRecord) : (s.inputDecided n i).probe = s.probe := by
  obtain ⟨-, -, handed⟩ := handedInput_written s n i
  have decided : ((s.handedInput n i).decideLanes [n]).probe = s.probe := (decideLanes_frame ..).probe.trans handed
  have all (u : State) : u.decideAllSeq.probe = u.probe :=
    foldl_related (R := fun s t => t.probe = s.probe) (fun _ => rfl) (fun a b => b.trans a)
      (fun s x => (decideSeq_local s x).probe) _ u
  unfold State.inputDecided
  split
  · exact (all _).trans decided
  · exact decided

theorem changeInput_startVisit (s : State) (n : Slot) (i : InputRecord) :
    s.changeInput n i = (s.inputDecided n i).startVisit := rfl

theorem changeInput_written (s : State) (n : Slot) (i : InputRecord) :
    { (s.changeInput n i).input n with windowVoid := true } = { i with windowVoid := true } ∧
      ∀ q, (s.changeInput n i).told q .inputChangeover := by
  obtain ⟨input, told, -⟩ := handedInput_written s n i
  rw [changeInput_startVisit, startVisit_eq]
  exact ⟨((inputDecided_moves s n i).inputs n).trans input, fun q => (inputDecided_heeds s n i).told q _ (told q)⟩

/-- The result of a visit is GOOD exactly where it was clean, its primary input can be judged and the power is
high enough. -/
theorem visitResult_good {e : SlotEntry} (slot : s.pe.active.slots.get n = some e) (result : Int) :
    s.visitResult n result = .good ↔
      s.probe.clean = true ∧ s.primarySound n = true ∧ e.threshold + 3 ≤ max (-100) (min result 0) := by
  have test : (s.probe.clean && s.primarySound n && decide (e.threshold + 3 ≤ clampResult result)) = true ↔
      s.probe.clean = true ∧ s.primarySound n = true ∧ e.threshold + 3 ≤ max (-100) (min result 0) := by
    simp [clampResult, and_assoc]
  rw [← test, State.visitResult, slot]
  simp only [Option.map_some, Option.getD_some]
  split
  · next good => exact iff_of_true rfl good
  · next low => exact iff_of_false nofun low

theorem visitResult_low {e : SlotEntry} (slot : s.pe.active.slots.get n = some e) (result : Int)
    (low : ¬(s.probe.clean = true ∧ s.primarySound n = true ∧ e.threshold + 3 ≤ max (-100) (min result 0))) :
    s.visitResult n result = .low := by
  cases h : s.visitResult n result with
  | low => rfl
  | good => exact absurd ((visitResult_good slot result).mp h) low

theorem endVisit_low (s : State) (n : Slot) :
    s.endVisit n .low = s.setInput n { s.input n with lastVisit := some .low, visitCounter := 0 } := rfl

theorem endVisit_counted (below : (s.input n).visitCounter + 1 < s.limits.restoreVisits) :
    s.endVisit n .good =
      s.setInput n { s.input n with lastVisit := some .good, visitCounter := (s.input n).visitCounter + 1 } := if_pos below

theorem endVisit_returned (reached : s.limits.restoreVisits ≤ (s.input n).visitCounter + 1) :
    s.endVisit n .good = s.changeInput n
      { s.input n with
        inputState := some .livePrimary, source := .primary, judgement := none
        lowCount := 0, goodCount := 0, visitCounter := 0, lastVisit := some .good } := if_neg (not_lt.mpr reached)

/-- A visit's end that writes the record alone leaves lanes and ports, and the rotation goes on from slot `n`. -/
theorem recorded_visit (i : InputRecord) (idle : s.probe.visit = none) (last : s.probe.lastVisited = some n) :
    let t := (s.setInput n i).startVisit
    t.input n = i ∧ t.lanes = s.lanes ∧ t.ports = s.ports ∧ t.VisitChosen n s.time.steps := by
  intro t
  have is : t = { s.setInput n i with probe := t.probe } := startVisit_eq _
  refine ⟨?_, by rw [is]; rfl, by rw [is]; rfl, startVisit_chosen (s := s.setInput n i) idle last⟩
  rw [is]
  exact State.input_setInput_same ..

theorem returned_visit (i : InputRecord) (idle : s.probe.visit = none) (last : s.probe.lastVisited = some n) :
    ((s.changeInput n i).startVisit).VisitChosen n s.time.steps := by
  have probe := inputDecided_probe s n i
  have time : (s.inputDecided n i).time = s.time :=
    (congrArg State.time (startVisit_eq (s.inputDecided n i)) :).symm.trans (changeInput_frame s n i).time
  rw [changeInput_startVisit, startVisit_idem, ← time]
  exact startVisit_chosen (by rw [probe]; exact idle) (by rw [probe]; exact last)

/-- Settles O56: the two halves by their rows, and the rotation by `nextVisit`. -/
theorem probeVisits : Obligations.ProbeVisits := by
  refine ⟨fun i => ?_, fun s n => ⟨primaryVerified_iff, ?_⟩, fun s d n timer visit => ?_⟩
  · rw [eligible_iff, decide_eq_true_iff]
  · rw [State.primarySound, Bool.and_eq_true, and_comm]
  · generalize hu : s.advanceTo d = u
    have moved : TimeFrame s u := hu ▸ advanceTo_frame s d
    have sound := moved.primarySound n
    refine ⟨fun half => ?_, fun result e half last slot => ?_⟩
    · change execDiscardHalfExpiry s = _
      simp only [execDiscardHalfExpiry, timer, half, visit, hu]
      rw [sound, moved.probe, visit]
      rfl
    · intro good i
      have next : exec (.judgeHalfExpiry result) s =
          .next (({ u with probe := u.probe.stop }).endVisit n (u.visitResult n result)).startVisit := by
        change execJudgeHalfExpiry result s = _
        simp only [execJudgeHalfExpiry, timer, half, visit, hu]
      have judged (holds : good) : u.visitResult n result = .good :=
        (visitResult_good (by rw [moved.pe]; exact slot) result).mpr (by rw [moved.probe, sound]; exact holds)
      have low (fails : ¬good) : u.visitResult n result = .low :=
        visitResult_low (by rw [moved.pe]; exact slot) result (by rw [moved.probe, sound]; exact fails)
      generalize hw : ({ u with probe := u.probe.stop } : State) = w at next
      have idle : w.probe.visit = none := hw ▸ rfl
      have last' : w.probe.lastVisited = some n := by
        rw [← hw]
        exact (congrArg Probe.lastVisited moved.probe).trans last
      have lanes : w.lanes = s.lanes := by rw [← hw]; exact moved.lanes
      have ports : w.ports = s.ports := by rw [← hw]; exact moved.ports
      have time : w.time = u.time := by rw [← hw]
      have input : w.input n = i := by
        rw [← hw]
        exact congrArg (PerSlot.get · n) moved.inputs
      have limits : w.limits = s.limits := by
        rw [← hw]
        exact congrArg (fun e : PlanEngine => e.active.limits) moved.pe
      have frame : SeqFrame u (w.endVisit n (u.visitResult n result)).startVisit := by
        refine SeqFrame.trans ?_ ((endVisit_frame ..).trans (startVisit_frame _))
        rw [← hw]
        constructor <;> rfl
      refine ⟨_, next, frame, fun fails => ?_, fun holds below => ?_, fun holds reached => ?_, ?_⟩
      · rw [low fails, endVisit_low, input]
        obtain ⟨own, lanes', ports', -⟩ := recorded_visit { i with lastVisit := some .low, visitCounter := 0 } idle last'
        exact ⟨own, lanes'.trans lanes, ports'.trans ports⟩
      · rw [judged holds, endVisit_counted (by rw [input, limits]; exact below), input]
        obtain ⟨own, lanes', ports', -⟩ :=
          recorded_visit { i with lastVisit := some .good, visitCounter := i.visitCounter + 1 } idle last'
        exact ⟨own, lanes'.trans lanes, ports'.trans ports⟩
      · rw [judged holds, endVisit_returned (by rw [input, limits]; exact reached), input, changeInput_startVisit,
          startVisit_idem, ← changeInput_startVisit]
        exact changeInput_written w n _
      · rw [← time]
        change State.VisitChosen _ n w.time.steps
        by_cases holds : good
        · rw [judged holds]
          by_cases below : (w.input n).visitCounter + 1 < w.limits.restoreVisits
          · rw [endVisit_counted below]
            exact (recorded_visit _ idle last').2.2.2
          · rw [endVisit_returned (not_lt.mp below)]
            exact returned_visit _ idle last'
        · rw [low holds, endVisit_low]
          exact (recorded_visit _ idle last').2.2.2

end Halves

end Sys2Proof.Machine
end

section
/-! PROOFS. A synthesizer that waits nowhere, a decision that hands no other LO over, fast mutes, held lanes, and a
receive synthesizer that leaves VERIFIED. -/

namespace Sys2Proof.Machine

/-! ## A decision that hands no other LO over (R124, R125) -/

section Unhanded
variable {s t u : State} {x : Tx}

/-- Plans, synthesizers, counter and conditions are as they were, and no retune of chain `x` has become pending. -/
structure Unhanded (x : Tx) (s t : State) : Prop where
  pe : t.pe = s.pe
  syn : t.syn = s.syn
  fc : t.fc = s.fc
  pu : t.pu = s.pu
  retune : (s.seq x).retunePending = false → (t.seq x).retunePending = false

theorem Unhanded.refl (x : Tx) (s : State) : Unhanded x s s := ⟨rfl, rfl, rfl, rfl, id⟩

theorem Unhanded.trans (a : Unhanded x s t) (b : Unhanded x t u) : Unhanded x s u :=
  ⟨b.pe.trans a.pe, b.syn.trans a.syn, b.fc.trans a.fc, b.pu.trans a.pu, b.retune ∘ a.retune⟩

theorem LaneFrame.unhanded (h : LaneFrame s t) (x : Tx) : Unhanded x s t :=
  ⟨h.pe, h.syn, h.fc, h.pu, by rw [h.untouched.seq_eq]; exact id⟩

theorem SameFacts.unhanded (h : SameFacts x s t) : Unhanded x s t :=
  ⟨h.pe, h.syn, h.fc, h.pu, h.retune.trans⟩

theorem Unhanded.synth_eq (h : Unhanded x s t) (c : Chain) : t.synth c = s.synth c := by
  rw [State.synth, h.syn]
  rfl

theorem Unhanded.protection_eq (h : Unhanded x s t) (y : Tx) : t.protection y = s.protection y := by
  rw [State.protection, h.pu]
  rfl

/-- A chain that wants to be on still does. -/
theorem Unhanded.wantedOn (h : Unhanded x s t) (retune : (s.seq x).retunePending = false) :
    t.wantedOn x = s.wantedOn x := by
  rw [Bool.eq_iff_iff, wantedOn_iff, wantedOn_iff, h.pe, h.protection_eq, h.retune retune, retune]

/-- The synthesizer already has the LO that a hand-over would give it. -/
def State.LoHanded (s : State) (x : Tx) : Prop := (s.synth (.tx x)).wanted = s.pe.active.tuningLo x

theorem Unhanded.loHanded (h : Unhanded x s t) (lo : s.LoHanded x) : t.LoHanded x := by
  rw [State.LoHanded, h.synth_eq, h.pe]
  exact lo

theorem handOver_unhanded (lo : s.LoHanded x) : Unhanded x s (s.handOver x) := by
  have same : s.handOver x = s.setSeq x { s.seq x with handedOver := s.pe.active.tuningLo x, retunePending := false } :=
    if_pos lo.symm
  rw [same]
  exact ⟨rfl, rfl, rfl, rfl, fun _ => by rw [setSeq_seq, if_pos rfl]⟩

theorem written_unhanded (s : State) (x : Tx) (st : SeqState) : Unhanded x s (s.written x st) :=
  ⟨rfl, rfl, rfl, rfl, fun none => by rw [written_seq, if_pos rfl]; exact none⟩

theorem moveSeq_unhanded {st : SeqState} (h : ((s.seq x).state.live = true → st.live = true) ∨ s.LoHanded x) :
    Unhanded x s (s.moveSeq x st) := by
  refine Unhanded.trans ?_ ((entered_moveSeq s x st).toLaneFrame.unhanded x)
  rcases entered_cases s x st with ⟨live, off, eq⟩ | ⟨-, eq⟩ <;> rw [eq]
  · have lo : s.LoHanded x := h.resolve_left fun stays => by rw [stays live] at off; cases off
    exact (written_unhanded s x st).trans (handOver_unhanded ((written_unhanded s x st).loHanded lo))
  · exact written_unhanded s x st

/-- A decision of sequencer `x` hands no other LO over: a live state is left for one that is not by DRIVE_SETTLE
alone, where the chain is not wanted on. -/
def State.HandsNone (s : State) (x : Tx) : Prop :=
  (s.seq x).state ≠ .driveSettle ∨ s.wantedOn x = true ∨ s.LoHanded x

theorem nextSeq_stays {st : SeqState} (next : s.nextSeq x = some st) (live : (s.seq x).state.live = true)
    (other : (s.seq x).state ≠ .driveSettle ∨ s.wantedOn x = true) : st.live = true := by
  cases state : (s.seq x).state with
  | driveSettle =>
    rw [nextSeq_driveSettle state, other.resolve_left (absurd state)] at next
    split at next
    · next no => cases no
    · split at next
      · cases next; split <;> rfl
      · cases next
  | off => rw [state] at live; cases live
  | tuning => rw [state] at live; cases live
  | lockedOut => rw [state] at live; cases live
  | paDischarge => rw [nextSeq_paDischarge state] at next; cases next
  | _ =>
    rcases nextSeq_airborne next (.inl (by rw [state]; rfl)) with on | rfl
    · exact SeqState.live_of_paOn on
    · rfl

theorem nextSeq_settles (next : s.nextSeq x = some .driveSettle) : s.wantedOn x = true := by
  cases state : (s.seq x).state with
  | off =>
    rw [nextSeq_off state] at next
    split at next
    · cases next
    · split at next
      · next wanted => exact wanted
      · cases next
  | tuning =>
    rw [nextSeq_tuning state] at next
    split at next
    · cases next
    · split at next
      · cases next
      · next wanted => simpa using wanted
  | driveSettle =>
    rw [nextSeq_driveSettle state] at next
    split at next
    · split at next <;> cases next
    · split at next
      · split at next <;> cases next
      · cases next
  | lockedOut =>
    rw [nextSeq_lockedOut state] at next
    split at next <;> cases next
  | paDischarge => rw [nextSeq_paDischarge state] at next; cases next
  | _ => rcases nextSeq_airborne next (.inl (by rw [state]; rfl)) with on | on <;> cases on

theorem settleSeq_unhanded (fuel : Nat) (h : s.HandsNone x) : Unhanded x s (State.settleSeq fuel s x) := by
  induction fuel generalizing s with
  | zero => exact .refl x s
  | succ fuel ih =>
    cases next : s.nextSeq x with
    | none => rw [settleSeq_stop _ next]; exact .refl x s
    | some st =>
      rw [settleSeq_next _ next]
      have state : ((s.moveSeq x st).seq x).state = st := (moveSeq_seq_state ..).1
      by_cases lo : s.LoHanded x
      · have moved := moveSeq_unhanded (st := st) (.inr lo)
        exact moved.trans (ih (.inr (.inr (moved.loHanded lo))))
      · have stays (live : (s.seq x).state.live = true) : st.live = true :=
          nextSeq_stays next live (h.imp_right fun wanted => wanted.resolve_right lo)
        have facts := (moveSeq_facts stays).1
        refine facts.unhanded.trans (ih ?_)
        by_cases settles : st = .driveSettle
        · exact .inr (.inl (facts.wantedOn.trans (nextSeq_settles (settles ▸ next))))
        · exact .inl (by rw [state]; exact settles)

theorem decideSeq_unhanded (h : s.HandsNone x) : Unhanded x s (s.decideSeq x) := by
  unfold State.decideSeq
  split
  · exact settleSeq_unhanded 4 h
  · exact .refl x s

end Unhanded

/-! ## A synthesizer that waits nowhere (R85, R88) -/

section Aside
variable {s t u : State} {c : Chain}

/-- A synthesizer that waits nowhere still waits nowhere, and is as it was. -/
def Aside (c : Chain) (s t : State) : Prop := s.Absent c → t.Absent c ∧ t.synth c = s.synth c

theorem Aside.refl (c : Chain) (s : State) : Aside c s s := fun absent => ⟨absent, rfl⟩

theorem Aside.trans (a : Aside c s t) (b : Aside c t u) : Aside c s u := fun absent =>
  have ⟨absent', same⟩ := a absent
  have ⟨absent'', same'⟩ := b absent'
  ⟨absent'', same'.trans same⟩

theorem Aside.of_same (syn : t.syn = s.syn) (fc : t.fc = s.fc) : Aside c s t := fun absent => by
  rw [State.Absent, State.synth, syn, fc]
  exact ⟨absent, rfl⟩

theorem LaneFrame.aside (h : LaneFrame s t) : Aside c s t := .of_same h.syn h.fc

theorem Unhanded.aside {x : Tx} (h : Unhanded x s t) : Aside c s t := .of_same h.syn h.fc

theorem startMeasurement_aside (s : State) (c : Chain) : Aside c s s.startMeasurement := by
  intro absent
  refine ⟨?_, startMeasurement_synth_of_absent absent.1⟩
  rcases startMeasurement_cases s with eq | ⟨q, rest, -, head, -, eq⟩
  · rw [eq]
    exact absent
  · dsimp only at eq
    have fc : s.startMeasurement.fc = { s.fc with
        started := s.fc.started + 1, queue := rest, current := some (s.measurementOf q) } := by
      rw [eq]
      split <;> rfl
    have waits := absent.1
    rw [head] at waits
    rw [State.Absent, fc]
    refine ⟨fun other mem => waits other (.tail _ mem), fun m now => ?_⟩
    cases now
    exact waits q (.head _)

theorem takeWanted_aside (s : State) {y : Tx} (lo : Option Nat) (apart : c ≠ .tx y) :
    Aside c s (s.takeWanted (.tx y) lo) := by
  obtain ⟨u, quiet, eq⟩ := takeWanted_quiet s y lo
  have toU : Aside c s u := fun absent =>
    ⟨⟨fun q mem => absent.1 q (quiet.queue q mem), fun m now => absent.2 m (quiet.current m now)⟩, quiet.synth c apart⟩
  rcases eq with eq | eq <;> rw [eq]
  · exact toU
  · exact toU.trans (startMeasurement_aside u c)

theorem handOver_aside (s : State) {y : Tx} (apart : c ≠ .tx y) : Aside c s (s.handOver y) := by
  have first : Aside c s (s.setSeq y { s.seq y with handedOver := s.pe.active.tuningLo y, retunePending := false }) :=
    .of_same rfl rfl
  exact first.trans (takeWanted_aside _ _ apart)

theorem moveSeq_aside (s : State) {y : Tx} (st : SeqState) (apart : c ≠ .tx y) : Aside c s (s.moveSeq y st) := by
  refine Aside.trans ?_ (entered_moveSeq s y st).toLaneFrame.aside
  rcases entered_cases s y st with ⟨-, -, eq⟩ | ⟨-, eq⟩ <;> rw [eq]
  · exact (written_unhanded s y st).aside.trans (handOver_aside _ apart)
  · exact (written_unhanded s y st).aside

theorem decideSeq_aside (s : State) {y : Tx} (apart : c ≠ .tx y) : Aside c s (s.decideSeq y) := by
  have settle (fuel : Nat) (s : State) : Aside c s (State.settleSeq fuel s y) := by
    induction fuel generalizing s with
    | zero => exact .refl c s
    | succ fuel ih =>
      unfold State.settleSeq
      split
      · exact .refl c s
      · exact (moveSeq_aside s _ apart).trans (ih _)
  unfold State.decideSeq
  split
  · exact settle 4 s
  · exact .refl c s

theorem decideAllSeq_aside (s : State) (r : Rx) : Aside (.rx r) s s.decideAllSeq :=
  foldl_related (R := Aside (.rx r)) (.refl _) .trans (fun s _ => decideSeq_aside s nofun) allTx s

end Aside

/-! ## Fast mutes and held lanes (R98, R104) -/

section Muted
variable {s t : State} {r : Rx} {n : Slot}

/-- A lane that has been fast-muted. -/
def Lane.muted (l : Lane) : Lane := { l with current := 0, start := 0, target := 0 }

theorem foldl_fastMute_lane (ns : List Slot) (s : State) (n : Slot) :
    (ns.foldl State.fastMute s).lane n = if n ∈ ns then (s.lane n).muted else s.lane n := by
  induction ns generalizing s with
  | nil => rfl
  | cons m ns ih =>
    have first : (s.fastMute m).lane n = if n = m then (s.lane n).muted else s.lane n := by
      rw [State.fastMute, State.lane_setLane]
      split
      · next eq => rw [eq]; rfl
      · rfl
    rw [List.foldl_cons, ih, first]
    by_cases eq : n = m
    · rw [if_pos eq, eq, if_pos (List.mem_cons_self (a := m) (l := ns))]
      split <;> rfl
    · rw [if_neg eq]
      simp only [List.mem_cons, eq, false_or]

/-- A lane with a source on chain `r`, which is not VERIFIED: held, at a target of 0. -/
structure State.HeldFrom (s : State) (r : Rx) (n : Slot) : Prop where
  unverified : s.isVerified (.rx r) = false
  source : ∃ e, (s.lane n).slot = some e ∧ e.sourceChain (s.input n).source = r
  state : (s.lane n).state = .held
  target : (s.lane n).target = 0

theorem heldFrom_of_agrees (agrees : s.Agrees n) (unverified : s.isVerified (.rx r) = false)
    (source : ∃ e, (s.lane n).slot = some e ∧ e.sourceChain (s.input n).source = r) : s.HeldFrom r n := by
  obtain ⟨e, slot, chain⟩ := source
  have held : (s.lane n).state = .held :=
    agrees.1.trans (laneStateOf_held slot (.inr (.inr (chain ▸ unverified))))
  exact ⟨unverified, ⟨e, slot, chain⟩, held, agrees.2.trans (held ▸ targetOf_held s n)⟩

theorem LaneMoves.input_source (h : LaneMoves s t) (n : Slot) : (t.input n).source = (s.input n).source :=
  (congrArg InputRecord.source (h.inputs n) :)

theorem Local.unverified {y : Tx} (h : Local y s t) (off : s.isVerified (.rx r) = false) :
    t.isVerified (.rx r) = false := by
  rw [State.isVerified]
  rcases h.synth (.rx r) nofun with same | ⟨-, same⟩ <;> rw [same]
  · exact off
  · rfl

theorem moveSeq_heldFrom (y : Tx) (st : SeqState) (held : s.HeldFrom r n) : (s.moveSeq y st).HeldFrom r n := by
  have moves := moveSeq_moves s y st
  have near := moveSeq_local s y st
  have unverified := near.unverified held.unverified
  cases on : s.laneOn y n with
  | true =>
    refine heldFrom_of_agrees (moveSeq_agrees_on st on) unverified ?_
    rw [moves.slots, moves.input_source]
    exact held.source
  | false =>
    obtain ⟨lane, input, -⟩ := near.lane n on
    exact ⟨unverified, by rw [lane, input]; exact held.source, by rw [lane]; exact held.state, by rw [lane]; exact held.target⟩

theorem decideSeq_heldFrom (y : Tx) (held : s.HeldFrom r n) : (s.decideSeq y).HeldFrom r n := by
  have settle (fuel : Nat) (s : State) (held : s.HeldFrom r n) : (State.settleSeq fuel s y).HeldFrom r n := by
    induction fuel generalizing s with
    | zero => exact held
    | succ fuel ih =>
      unfold State.settleSeq
      split
      · exact held
      · exact ih _ (moveSeq_heldFrom y _ held)
  unfold State.decideSeq
  split
  · exact settle 4 s held
  · exact held

theorem decideAllSeq_heldFrom (held : s.HeldFrom r n) : s.decideAllSeq.HeldFrom r n := by
  unfold State.decideAllSeq
  induction allTx generalizing s with
  | nil => exact held
  | cons y l ih => exact ih (decideSeq_heldFrom y held)

end Muted

/-! ## A receive synthesizer that leaves VERIFIED (R98, R116) -/

section LeftReceive
variable {s : State} {r : Rx} {n : Slot}

theorem mem_lanesFrom (s : State) (r : Rx) (n : Slot) :
    n ∈ s.lanesFrom r ↔ ∃ e, (s.lane n).slot = some e ∧ e.sourceChain (s.input n).source = r := by
  simp only [State.lanesFrom, List.mem_filter, Option.any_eq_true, decide_eq_true_eq, mem_allSlots, true_and]

theorem soilProbe_probe (s : State) (r : Rx) :
    s.soilProbe r = { s with probe := (s.soilProbe r).probe } ∧
      (s.probe.visit = none → (s.soilProbe r).probe = s.probe) ∧
      ∀ n e, s.probe.visit = some n → (s.lane n).slot = some e →
        (s.soilProbe r).probe = if e.inputChain = r then { s.probe with clean := false } else s.probe := by
  unfold State.soilProbe
  cases visit : s.probe.visit with
  | none => exact ⟨rfl, fun _ => rfl, nofun⟩
  | some m =>
    dsimp only
    refine ⟨by split <;> rfl, nofun, fun n e same slot => ?_⟩
    cases same
    rw [slot, Option.any_some]
    simp only [decide_eq_true_eq]
    split <;> rfl

/-- What the departure of receive synthesizer `r` from VERIFIED makes of lanes, probe and synthesizers. -/
structure LeftReceive (r : Rx) (s t : State) : Prop where
  aside : Aside (.rx r) s t
  idle : s.probe.visit = none → t.probe = s.probe
  probe : ∀ n e, s.probe.visit = some n → (s.lane n).slot = some e →
    t.probe = if e.inputChain = r then { s.probe with clean := false } else s.probe
  muted : ∀ n e, (s.lane n).slot = some e → e.sourceChain (s.input n).source = r →
    (t.lane n).current = 0 ∧ (t.lane n).target = 0 ∧ (t.lane n).state = .held
  spared : ∀ n e, (s.lane n).slot = some e → e.sourceChain (s.input n).source ≠ r →
    (t.lane n).current = (s.lane n).current

/-- The mutes and the soiled visit of such a departure. -/
def State.mutedFrom (s : State) (r : Rx) : State := ((s.lanesFrom r).foldl State.fastMute s).soilProbe r

theorem leftVerified_eq (s : State) (r : Rx) :
    s.leftVerified (.rx r) = ((s.mutedFrom r).decideLanes (s.lanesFrom r)).decideAllSeq := rfl

theorem mutedFrom_lane (s : State) (r : Rx) (n : Slot) :
    (s.mutedFrom r).lane n = if n ∈ s.lanesFrom r then (s.lane n).muted else s.lane n := by
  rw [State.mutedFrom, (soilProbe_probe ..).1]
  exact foldl_fastMute_lane ..

theorem mutedFrom_same (s : State) (r : Rx) :
    let t := s.mutedFrom r
    t.syn = s.syn ∧ t.fc = s.fc ∧ t.inputs = s.inputs ∧ t.mixers = s.mixers ∧ t.phases = s.phases := by
  have frame : LaneFrame s ((s.lanesFrom r).foldl State.fastMute s) := foldl_related .refl .trans fastMute_frame _ s
  intro t
  have eq : t = { (s.lanesFrom r).foldl State.fastMute s with probe := t.probe } := (soilProbe_probe ..).1
  have inputs : ((s.lanesFrom r).foldl State.fastMute s).inputs = s.inputs ∧
      ((s.lanesFrom r).foldl State.fastMute s).mixers = s.mixers ∧
      ((s.lanesFrom r).foldl State.fastMute s).phases = s.phases :=
    foldl_related (f := State.fastMute) (R := fun s t : State => t.inputs = s.inputs ∧ t.mixers = s.mixers ∧ t.phases = s.phases)
      (fun _ => ⟨rfl, rfl, rfl⟩) (fun a b => ⟨b.1.trans a.1, b.2.1.trans a.2.1, b.2.2.trans a.2.2⟩)
      (fun _ _ => ⟨rfl, rfl, rfl⟩) _ s
  rw [eq]
  exact ⟨frame.syn, frame.fc, inputs⟩

theorem leftVerified_receive (off : s.isVerified (.rx r) = false) : LeftReceive r s (s.leftVerified (.rx r)) := by
  rw [leftVerified_eq]
  let m := s.mutedFrom r
  let d := m.decideLanes (s.lanesFrom r)
  have lane (n : Slot) : m.lane n = if n ∈ s.lanesFrom r then (s.lane n).muted else s.lane n := mutedFrom_lane ..
  have slots (n : Slot) : (m.lane n).slot = (s.lane n).slot := by
    rw [lane]
    split <;> rfl
  obtain ⟨syn, fc, inputs, -, -⟩ := mutedFrom_same s r
  have reads : Reads m d := decideLanes_reads ..
  have moves : LaneMoves d d.decideAllSeq := decideAllSeq_moves d
  have current (n : Slot) : (d.decideAllSeq.lane n).current = (m.lane n).current :=
    (moves.current n).trans (decideLanes_current ..)
  have probe : d.decideAllSeq.probe = m.probe :=
    (foldl_related (R := fun s t : State => t.probe = s.probe) (fun _ => rfl) (fun a b => b.trans a)
      (fun s y => (decideSeq_local s y).probe) allTx d).trans reads.probe
  have source (n : Slot) : (d.input n).source = (s.input n).source := by
    rw [show (d.input n).source = (m.input n).source from (congrArg InputRecord.source (reads.inputs n) :),
      show m.input n = s.input n by rw [State.input, inputs]; rfl]
  obtain ⟨-, idle, visited⟩ := soilProbe_probe ((s.lanesFrom r).foldl State.fastMute s) r
  have same : ((s.lanesFrom r).foldl State.fastMute s).probe = s.probe :=
    (foldl_related .refl .trans fastMute_frame (s.lanesFrom r) s : LaneFrame _ _).probe
  rw [same] at idle visited
  refine ⟨((Aside.of_same syn fc).trans reads.toLaneFrame.aside).trans (decideAllSeq_aside d r),
    fun none => probe.trans (idle none), fun n e visit slot => probe.trans (visited n e visit ?_),
    fun n e slot chain => ?_, fun n e slot other => ?_⟩
  · rw [foldl_fastMute_lane]
    split <;> exact slot
  · have mem : n ∈ s.lanesFrom r := (mem_lanesFrom ..).mpr ⟨e, slot, chain⟩
    have off' : d.isVerified (.rx r) = false := by
      rw [State.isVerified, State.synth, reads.syn, show m.syn = s.syn from syn]
      exact off
    have held : d.HeldFrom r n := heldFrom_of_agrees (decideLanes_agrees m mem) off'
      ⟨e, (reads.slots n).trans ((slots n).trans slot), (source n).symm ▸ chain⟩
    obtain ⟨-, -, state, target⟩ := decideAllSeq_heldFrom held
    refine ⟨?_, target, state⟩
    rw [current, lane, if_pos mem]
    rfl
  · rw [current, lane, if_neg]
    rw [mem_lanesFrom]
    rintro ⟨e', slot', chain⟩
    rw [slot] at slot'
    cases slot'
    exact other chain

end LeftReceive

end Sys2Proof.Machine
end

section
/-! PROOFS. A transmit chain whose synthesizer is not VERIFIED, and what its conditions make of it. -/

namespace Sys2Proof.Machine

/-! ## A transmit chain whose synthesizer is not VERIFIED (R126 to R131) -/

section Untuned
variable {s t u : State} {x : Tx}

theorem Unhanded.tuned (h : Unhanded x s t) : t.tuned x = s.tuned x := by
  rw [Bool.eq_iff_iff, tuned_iff, tuned_iff, h.synth_eq, h.pe]

theorem Unhanded.handsNone (h : Unhanded x s t) (seq : t.seq x = s.seq x) (none : s.HandsNone x) : t.HandsNone x := by
  have same : t.wantedOn x = s.wantedOn x := by
    rw [Bool.eq_iff_iff, wantedOn_iff, wantedOn_iff, h.pe, h.protection_eq, seq]
  rw [State.HandsNone, seq, same]
  exact none.imp_right (Or.imp_right h.loHanded)

theorem untuned_of_unverified (off : s.isVerified (.tx x) = false) : s.tuned x = false := by
  simp only [State.tuned, State.verifiedFor, off, Bool.false_and]

theorem decideSeq_muted_untuned (running : s.phase = .running) (state : (s.seq x).state = .muted)
    (untuned : s.tuned x = false) :
    SameFacts x s (s.decideSeq x) ∧
      ((s.decideSeq x).seq x).state = if s.wantedOn x && !(s.seq x).runDown then .muted else .paDischarge := by
  rw [decideSeq_running running]
  have next := nextSeq_muted state
  rw [untuned, Bool.and_false] at next
  by_cases stays : (s.wantedOn x && !(s.seq x).runDown) = true
  · rw [if_neg (by simpa using stays), if_neg Bool.false_ne_true] at next
    rw [settleSeq_stop _ next, if_pos stays]
    exact ⟨.refl x s, state⟩
  · rw [if_pos (by simpa [or_iff_not_imp_left] using stays)] at next
    obtain ⟨facts, seq⟩ := SameFacts.paDischarge 3 next
    exact ⟨facts, by rw [seq, if_neg stays]; rfl⟩

/-- Where an untuned chain stands low, it stays low: MUTED or PA_DISCHARGE, its lanes at a target of 0. -/
structure State.Silent (s : State) (x : Tx) : Prop where
  untuned : s.tuned x = false
  state : (s.seq x).state = .muted ∨ (s.seq x).state = .paDischarge
  lanes : ∀ n, s.laneOn x n = true → (s.lane n).current = 0 ∧ (s.lane n).target = 0

theorem handsNone_of_low (state : (s.seq x).state = .muted ∨ (s.seq x).state = .paDischarge) : s.HandsNone x :=
  .inl (by rcases state with eq | eq <;> rw [eq] <;> nofun)

/-- Lanes that agree with a chain in MUTED or PA_DISCHARGE are at a target of 0. -/
theorem Agrees.low {n : Slot} (agrees : s.Agrees n) (on : s.laneOn x n = true)
    (state : (s.seq x).state = .muted ∨ (s.seq x).state = .paDischarge) : (s.lane n).target = 0 :=
  agrees.2.trans (targetOf_quiet on (by rcases state with eq | eq <;> rw [eq] <;> nofun)
    (by rcases state with eq | eq <;> rw [eq] <;> nofun) _)

theorem decideSeq_low (untuned : s.tuned x = false) (state : (s.seq x).state = .muted ∨ (s.seq x).state = .paDischarge) :
    ((s.decideSeq x).seq x).state = .muted ∨ ((s.decideSeq x).seq x).state = .paDischarge := by
  by_cases running : s.phase = .running
  · rcases state with muted | discharges
    · rw [(decideSeq_muted_untuned running muted untuned).2]
      split
      · exact .inl rfl
      · exact .inr rfl
    · rw [decideSeq_stop (nextSeq_paDischarge discharges)]
      exact .inr discharges
  · rw [State.decideSeq, if_neg running]
    exact state

theorem decideSeq_agrees_on (agrees : ∀ n, s.laneOn x n = true → s.Agrees n) {n : Slot} (on : s.laneOn x n = true) :
    (s.decideSeq x).Agrees n := by
  unfold State.decideSeq
  split
  · exact settleSeq_agrees_on 4 agrees on
  · exact agrees n on

/-- A decision of a low and untuned chain, its lanes as they ought to be and at 0. -/
theorem decideSeq_silent (untuned : s.tuned x = false)
    (state : (s.seq x).state = .muted ∨ (s.seq x).state = .paDischarge)
    (agrees : ∀ n, s.laneOn x n = true → s.Agrees n) (zero : ∀ n, s.laneOn x n = true → (s.lane n).current = 0) :
    (s.decideSeq x).Silent x := by
  have low := decideSeq_low untuned state
  have moves := decideSeq_moves s x
  refine ⟨(decideSeq_unhanded (handsNone_of_low state)).tuned.trans untuned, low, fun n on => ?_⟩
  have on' : s.laneOn x n = true := (laneOn_congr (moves.slots n) x).symm.trans on
  exact ⟨(moves.current n).trans (zero n on'), Agrees.low (decideSeq_agrees_on agrees on') on low⟩

theorem tellChain_silent (silent : s.Silent x) (b : Bool) : (s.tellChain x b).Silent x := by
  unfold State.tellChain
  split
  · obtain ⟨untuned, state, lanes⟩ := silent
    have reads : Reads s (s.decideLanes (s.lanesOn x)) := decideLanes_reads ..
    have on (n : Slot) : (s.decideLanes (s.lanesOn x)).laneOn x n = s.laneOn x n := laneOn_congr (reads.slots n) x
    refine decideSeq_silent ((reads.toLaneFrame.tuned x).trans untuned) (by rw [reads.untouched.seq_eq]; exact state)
      (fun n k => decideLanes_agrees s ((mem_lanesOn ..).mpr ((on n).symm.trans k))) fun n k => ?_
    exact (decideLanes_current ..).trans (lanes n ((on n).symm.trans k)).1
  · exact silent

/-! ### What a raised level makes of it -/

/-- Where a chain that is not to be on goes from an off state or DRIVE_SETTLE. -/
def State.downState (s : State) (x : Tx) : SeqState := if (s.protection x).lockedOut then .lockedOut else .off

/-- An untuned chain that was wanted on goes off where it no longer is, and no further. -/
structure GoesOff (x : Tx) (s t : State) : Prop where
  tuning : (s.seq x).state = .tuning → (t.seq x).state = if t.wantedOn x then .tuning else t.downState x
  driveSettle : (s.seq x).state = .driveSettle → s.LoHanded x →
    (t.seq x).state = if t.wantedOn x then .driveSettle else t.downState x
  muted : (s.seq x).state = .muted → (s.seq x).runDown = false →
    (t.seq x).state = if t.wantedOn x then .muted else .paDischarge
  paDischarge : (s.seq x).state = .paDischarge → t.seq x = s.seq x

theorem GoesOff.of_same (wanted : t.wantedOn x = true) (seq : t.seq x = s.seq x) : GoesOff x s t := by
  exact ⟨fun h => by rw [wanted, seq, h]; rfl, fun h _ => by rw [wanted, seq, h]; rfl,
    fun h _ => by rw [wanted, seq, h]; rfl, fun _ => seq⟩

theorem offState_untuned (untuned : s.tuned x = false) :
    s.offState x = if s.wantedOn x then .tuning else s.downState x := by
  rw [State.offState, State.downState, untuned]
  by_cases wanted : s.wantedOn x = true
  · rw [wanted, lockedOut_of_wantedOn wanted]
    rfl
  · rw [Bool.not_eq_true] at wanted
    rw [wanted]
    rfl

theorem decideSeq_goesOff (running : s.phase = .running) (untuned : s.tuned x = false)
    (retune : (s.seq x).retunePending = false) : GoesOff x s (s.decideSeq x) := by
  refine ⟨fun state => ?_, fun state lo => ?_, fun state runDown => ?_, fun state => ?_⟩
  · have kept : Unhanded x s (s.decideSeq x) := decideSeq_unhanded (.inl (by rw [state]; nofun))
    rw [decideSeq_off running (.inr (.inl state)), offState_untuned (kept.tuned.trans untuned)]
  · have kept : Unhanded x s (s.decideSeq x) := decideSeq_unhanded (.inr (.inr lo))
    rw [kept.wantedOn retune]
    cases wanted : s.wantedOn x with
    | true =>
      rw [decideSeq_waits state wanted (.inr untuned)]
      exact state
    | false =>
      rw [decideSeq_off running (.inr (.inr (.inr ⟨state, wanted⟩))), offState_untuned (kept.tuned.trans untuned),
        kept.wantedOn retune, wanted]
      rfl
  · obtain ⟨facts, eq⟩ := decideSeq_muted_untuned running state untuned
    rw [eq, runDown, facts.wantedOn, Bool.not_false, Bool.and_true]
  · rw [decideSeq_stop (nextSeq_paDischarge state)]

theorem tellChain_goesOff {b : Bool} (running : s.phase = .running) (untuned : s.tuned x = false)
    (retune : (s.seq x).retunePending = false) (still : b = false → s.wantedOn x = true) :
    GoesOff x s (s.tellChain x b) := by
  cases b with
  | false => exact .of_same (still rfl) rfl
  | true =>
    have frame : LaneFrame s (s.decideLanes (s.lanesOn x)) := decideLanes_frame ..
    have seq : (s.decideLanes (s.lanesOn x)).seq x = s.seq x := frame.untouched.seq_eq x
    obtain ⟨tuning, settle, muted, discharges⟩ := decideSeq_goesOff (s := s.decideLanes (s.lanesOn x)) (x := x)
      (frame.phase.trans running) ((frame.tuned x).trans untuned) (by rw [seq]; exact retune)
    rw [seq] at tuning settle muted discharges
    exact ⟨tuning, fun state lo => settle state ((frame.unhanded x).loHanded lo), muted, discharges⟩

theorem tellChain_unhanded {b : Bool} (none : s.HandsNone x) : Unhanded x s (s.tellChain x b) := by
  unfold State.tellChain
  split
  · have frame : LaneFrame s (s.decideLanes (s.lanesOn x)) := decideLanes_frame ..
    exact (frame.unhanded x).trans
      (decideSeq_unhanded ((frame.unhanded x).handsNone (frame.untouched.seq_eq x) none))
  · exact .refl x s

end Untuned

/-! ## A chain's conditions made present, and what its sequencer makes of them (R140 to R144) -/

section Present
variable {s : State} {x : Tx} {p : ChainConditions}

/-- `w` differs from `s` in the conditions and level of chain `x`, and in what these announce. -/
structure Presents (x : Tx) (p : ChainConditions) (s w : State) : Prop where
  same : w = { s with pe := w.pe, store := w.store, ports := w.ports, pu := w.pu }
  active : w.pe.active = s.pe.active
  present : (w.protection x).present = p

/-- What is made present, before chain and lanes decide again; and whether they do. -/
theorem setPresent_split (s : State) (x : Tx) (p : ChainConditions) :
    ∃ w moved, Presents x p s w ∧ s.setPresent x p = w.tellChain x moved ∧
      (moved = false → w.wantedOn x = s.wantedOn x) := by
  by_cases same : p = (s.protection x).present
  · exact ⟨s, false, ⟨rfl, rfl, same.symm⟩, setPresent_same same, fun _ => rfl⟩
  · let v := s.withPresent x p
    let d := v.decideProtection x
    let w := State.announced v d x
    have told : Announces d w := announced_announces v d x
    have judged : (d.protection x).present = p := by
      rw [show d.protection x = v.judged x from (decideProtection_protection v x x).trans (if_pos rfl), State.judged,
        (ChainProtection.decide_keeps ..).1, withPresent_protection]
    refine ⟨w, State.levelMoved v d x, ⟨?_, told.active, by rw [told.protection_eq]; exact judged⟩,
      (setPresent_new same).trans (handProtection_eq v d x), fun still => ?_⟩
    · exact told.same.trans (by rw [told.pu]; rfl)
    · rw [State.levelMoved, Bool.or_eq_false_iff, bne_eq_false_iff_eq, bne_eq_false_iff_eq] at still
      have level : (d.protection x).level = (s.protection x).level := by
        rw [← still.1, withPresent_protection]
      have lockedOut : (d.protection x).lockedOut = (s.protection x).lockedOut := by
        rw [← still.2, withPresent_protection]
      have seq : w.seq x = s.seq x := told.seq_eq x
      have active : w.pe.active = s.pe.active := told.active
      rw [Bool.eq_iff_iff, wantedOn_iff, wantedOn_iff, told.protection_eq, level, lockedOut, seq, active]

theorem Presents.field {w : State} (h : Presents x p s w) :
    w.phase = s.phase ∧ w.syn = s.syn ∧ w.fc = s.fc ∧ w.os = s.os ∧ w.lanes = s.lanes := by
  rw [h.same]
  exact ⟨rfl, rfl, rfl, rfl, rfl⟩

theorem Presents.synth_eq {w : State} (h : Presents x p s w) (c : Chain) : w.synth c = s.synth c := by
  rw [h.same]
  rfl

theorem Presents.seq_eq {w : State} (h : Presents x p s w) (y : Tx) : w.seq y = s.seq y := by
  rw [h.same]
  rfl

theorem Presents.lane_eq {w : State} (h : Presents x p s w) (n : Slot) : w.lane n = s.lane n := by
  rw [h.same]
  rfl

theorem Presents.tuned {w : State} (h : Presents x p s w) : w.tuned x = s.tuned x := by
  rw [Bool.eq_iff_iff, tuned_iff, tuned_iff, h.synth_eq, h.active]

theorem Presents.loHanded {w : State} (h : Presents x p s w) (lo : s.LoHanded x) : w.LoHanded x := by
  rw [State.LoHanded, h.synth_eq, show w.pe.active = s.pe.active from h.active]
  exact lo

theorem setPresent_silent (silent : s.Silent x) : (s.setPresent x p).Silent x := by
  obtain ⟨w, moved, h, eq, -⟩ := setPresent_split s x p
  rw [eq]
  refine tellChain_silent ⟨h.tuned.trans silent.untuned, by rw [h.seq_eq]; exact silent.state, fun n on => ?_⟩ moved
  rw [h.lane_eq]
  exact silent.lanes n ((laneOn_congr (by rw [h.lane_eq]) x).symm.trans on)

theorem setPresent_goesOff (running : s.phase = .running) (untuned : s.tuned x = false) (wanted : s.wantedOn x = true) :
    GoesOff x s (s.setPresent x p) := by
  obtain ⟨w, moved, h, eq, still⟩ := setPresent_split s x p
  obtain ⟨phase, -⟩ := h.field
  obtain ⟨-, -, -, retune⟩ := (wantedOn_iff s x).mp wanted
  obtain ⟨tuning, settle, muted, discharges⟩ := tellChain_goesOff (x := x) (phase.trans running) (h.tuned.trans untuned)
    (by rw [h.seq_eq]; exact retune) fun none => (still none).trans wanted
  rw [h.seq_eq] at tuning settle muted discharges
  rw [eq]
  exact ⟨tuning, fun state lo => settle state (h.loHanded lo), muted, discharges⟩

/-- Where no other LO is handed over, the conditions stand as given and synthesizers and counter as they were. -/
structure PresentTaken (x : Tx) (p : ChainConditions) (s t : State) : Prop where
  syn : t.syn = s.syn
  fc : t.fc = s.fc
  present : (t.protection x).present = p
  covers : s.LevelOk x → ∀ k, isPresent s.pu.device p k = true → s.severities.of k ≤ (t.protection x).level

theorem setPresent_taken (none : (s.seq x).state ≠ .driveSettle ∨ s.LoHanded x) :
    PresentTaken x p s (s.setPresent x p) := by
  obtain ⟨w, moved, h, eq, -⟩ := setPresent_split s x p
  obtain ⟨-, syn, fc, -⟩ := h.field
  have kept : Unhanded x w (w.tellChain x moved) :=
    tellChain_unhanded (by rw [State.HandsNone, h.seq_eq]; exact none.imp_right fun lo => .inr (h.loHanded lo))
  have present : ((s.setPresent x p).protection x).present = p := by
    rw [eq, kept.protection_eq]
    exact h.present
  refine ⟨?_, ?_, present, fun level k here => ?_⟩
  · rw [eq]
    exact kept.syn.trans syn
  · rw [eq]
    exact kept.fc.trans fc
  · have near := setPresent_local s x p
    have covers := (setPresent_levelOk (c := p) level).covers (k := k)
    rw [present, near.device, State.severities, near.active] at covers
    exact covers here

end Present

end Sys2Proof.Machine
end

section
/-! PROOFS. A synthesizer that loses its lock; the lock drop (O44). -/

namespace Sys2Proof.Machine

/-! ## A synthesizer that loses its lock (R82, R83, R131) -/

section LockLost
variable {s : State} {c : Chain} {x : Tx}

/-- The controller of a synthesizer that has lost its lock, before chain and lanes are told. -/
def State.lockLost (s : State) (c : Chain) (now : Nat) : State :=
  ((s.leaveCounter c).setSynth c ((s.synth c).dropped (expiryFrom now s.limits.settle))).startMeasurement

structure LockLost (c : Chain) (now : Nat) (s w : State) : Prop extends SynthFrame s w where
  lanes : w.lanes = s.lanes
  pu : w.pu = s.pu
  synth : w.synth c = (s.synth c).dropped (expiryFrom now s.limits.settle)
  absent : w.Absent c

theorem lockLost_spec (s : State) (c : Chain) (now : Nat) : LockLost c now s (s.lockLost c now) := by
  let v := (s.leaveCounter c).setSynth c ((s.synth c).dropped (expiryFrom now s.limits.settle))
  have frame : SynthFrame s v := (leaveCounter_frame s c).trans (setSynth_frame ..)
  have absent : v.Absent c := leaveCounter_absent s c
  obtain ⟨absent', synth⟩ := startMeasurement_aside v c absent
  exact ⟨frame.trans (startMeasurement_frame v), startMeasurement_lanes v, startMeasurement_pu v,
    synth.trans (State.synth_setSynth_same ..), absent'⟩

theorem LockLost.seq_eq {now : Nat} {w : State} (h : LockLost c now s w) (y : Tx) : w.seq y = s.seq y := by
  rw [State.seq, h.os]
  rfl

theorem LockLost.lane_eq {now : Nat} {w : State} (h : LockLost c now s w) (n : Slot) : w.lane n = s.lane n := by
  rw [State.lane, h.lanes]
  rfl

theorem LockLost.unverified {now : Nat} {w : State} (h : LockLost c now s w) : w.isVerified c = false := by
  rw [State.isVerified, h.synth]
  rfl

theorem LockLost.wantedOn {now : Nat} {w : State} (h : LockLost c now s w) (y : Tx) : w.wantedOn y = s.wantedOn y := by
  rw [Bool.eq_iff_iff, wantedOn_iff, wantedOn_iff, h.seq_eq, h.pe, State.protection, h.pu]
  rfl

theorem LockLost.loHanded {now : Nat} {w : State} (h : LockLost (.tx x) now s w) (lo : s.LoHanded x) : w.LoHanded x := by
  rw [State.LoHanded, h.synth, h.pe]
  exact lo

/-! ### A chain on air (R131) -/

theorem fastMuteChain_lane (s : State) (x : Tx) (n : Slot) :
    (s.fastMuteChain x).lane n = if s.laneOn x n = true then (s.lane n).muted else s.lane n := by
  rw [State.fastMuteChain, foldl_fastMute_lane]
  simp only [mem_lanesOn]

theorem seqSynthLost_airborne (up : (s.seq x).state = .rampUp ∨ (s.seq x).state = .onAir ∨ (s.seq x).state = .rampDown)
    (untuned : s.tuned x = false) : (s.seqSynthLost x).Silent x ∧ Unhanded x s (s.seqSynthLost x) := by
  let m := s.fastMuteChain x
  let v := m.moveSeq x .muted
  have eq : s.seqSynthLost x = v.decideSeq x := if_pos up
  have frame : LaneFrame s m := fastMuteChain_frame s x
  obtain ⟨facts, seq⟩ := moveSeq_facts (s := m) (x := x) (st := .muted) fun _ => rfl
  have kept : Unhanded x s v := (frame.unhanded x).trans facts.unhanded
  have state : (v.seq x).state = .muted := by rw [seq]; rfl
  have on (n : Slot) : v.laneOn x n = s.laneOn x n := by
    refine laneOn_congr ((facts.slots n).trans ?_) x
    rw [fastMuteChain_lane]
    split <;> rfl
  have onM (n : Slot) : m.laneOn x n = s.laneOn x n := (laneOn_congr (facts.slots n) x).symm.trans (on n)
  rw [eq]
  refine ⟨decideSeq_silent (kept.tuned.trans untuned) (.inl state)
    (fun n k => moveSeq_agrees_on .muted ((onM n).trans ((on n).symm.trans k))) fun n k => ?_,
    kept.trans (decideSeq_unhanded (handsNone_of_low (.inl state)))⟩
  rw [facts.current, fastMuteChain_lane, if_pos ((on n).symm.trans k)]
  rfl

theorem seqSynthLost_grounded (down : ¬((s.seq x).state = .rampUp ∨ (s.seq x).state = .onAir ∨ (s.seq x).state = .rampDown)) :
    s.seqSynthLost x = s := if_neg down

/-- What the lost lock of transmit synthesizer `x` makes of its chain. -/
structure LostTransmit (x : Tx) (now : Nat) (s t : State) : Prop where
  lost : (s.seq x).state ≠ .driveSettle ∨ s.LoHanded x →
    (t.protection x).present.txLoLost = true ∧
      t.synth (.tx x) = (s.synth (.tx x)).dropped (expiryFrom now s.limits.settle) ∧ t.Absent (.tx x) ∧
      (s.LevelOk x → s.severities.txLoLost ≤ (t.protection x).level)
  goesOff : s.phase = .running → s.wantedOn x = true → GoesOff x s t
  paDischarge : (s.seq x).state = .paDischarge → t.seq x = s.seq x
  airborne : (s.seq x).state = .rampUp ∨ (s.seq x).state = .onAir ∨ (s.seq x).state = .rampDown →
    ((t.seq x).state = .muted ∨ (t.seq x).state = .paDischarge) ∧
      ∀ n, s.laneOn x n = true → (t.lane n).current = 0 ∧ (t.lane n).target = 0

theorem setPresent_paDischarge {p : ChainConditions} (state : (s.seq x).state = .paDischarge) :
    (s.setPresent x p).seq x = s.seq x := by
  obtain ⟨w, moved, h, eq, -⟩ := setPresent_split s x p
  have state' : (w.seq x).state = .paDischarge := by rw [h.seq_eq]; exact state
  rw [eq, ← h.seq_eq, State.tellChain]
  split
  · have frame : LaneFrame w (w.decideLanes (w.lanesOn x)) := decideLanes_frame ..
    rw [decideSeq_stop (nextSeq_paDischarge (by rw [frame.untouched.seq_eq]; exact state')), frame.untouched.seq_eq]
  · rfl

theorem loseLock_transmit (s : State) (x : Tx) (now : Nat) : LostTransmit x now s (s.loseLock (.tx x) now) := by
  let w := s.lockLost (.tx x) now
  let l := w.seqSynthLost x
  have lost : LockLost (.tx x) now s w := lockLost_spec s (.tx x) now
  have untuned : w.tuned x = false := untuned_of_unverified lost.unverified
  have eq : s.loseLock (.tx x) now = l.setPresent x ((l.synth (.tx x)).conditions (l.protection x).present) :=
    loseLock_eq ..
  have seq : w.seq x = s.seq x := lost.seq_eq x
  have lo (h : s.LoHanded x) : w.LoHanded x := lost.loHanded h
  have told : Unhanded x w l := by
    by_cases up : (w.seq x).state = .rampUp ∨ (w.seq x).state = .onAir ∨ (w.seq x).state = .rampDown
    · exact (seqSynthLost_airborne up untuned).2
    · rw [show l = w from seqSynthLost_grounded up]
      exact .refl x w
  have synth : l.synth (.tx x) = (s.synth (.tx x)).dropped (expiryFrom now s.limits.settle) :=
    (told.synth_eq _).trans lost.synth
  rw [eq]
  refine ⟨fun none => ?_, fun running wanted => ?_, fun state => ?_, fun up => ?_⟩
  · have none' : (l.seq x).state ≠ .driveSettle ∨ l.LoHanded x := by
      rcases none with other | handed
      · left
        by_cases up : (w.seq x).state = .rampUp ∨ (w.seq x).state = .onAir ∨ (w.seq x).state = .rampDown
        · rcases (seqSynthLost_airborne up untuned).1.state with low | low <;> rw [show (l.seq x).state = _ from low] <;> nofun
        · rw [show l = w from seqSynthLost_grounded up, seq]
          exact other
      · exact .inr (told.loHanded (lo handed))
    obtain ⟨syn, fc, present, covers⟩ := setPresent_taken (p := (l.synth (.tx x)).conditions (l.protection x).present) none'
    have conditions : ((l.synth (.tx x)).conditions (l.protection x).present).txLoLost = true := by
      rw [synth]
      rfl
    have pu : l.pu = s.pu := told.pu.trans lost.pu
    have active : l.pe.active = s.pe.active := by rw [told.pe, lost.pe]
    obtain ⟨absent, -⟩ := (told.aside : Aside (.tx x) w l) lost.absent
    obtain ⟨absent', same⟩ := (Aside.of_same syn fc : Aside (.tx x) l _) absent
    refine ⟨by rw [present]; exact conditions, same.trans synth, absent', fun level => ?_⟩
    have below := covers (level.congr active pu) .txLoLost conditions
    rw [State.severities, active] at below
    exact below
  · by_cases up : (w.seq x).state = .rampUp ∨ (w.seq x).state = .onAir ∨ (w.seq x).state = .rampDown
    · rw [seq] at up
      refine ⟨fun h => ?_, fun h => ?_, fun h => ?_, fun h => ?_⟩
      all_goals
        rw [h] at up
        rcases up with no | no | no <;> cases no
    · have same : l = w := seqSynthLost_grounded up
      rw [same]
      obtain ⟨tuning, settle, muted, discharges⟩ := setPresent_goesOff (x := x)
        (p := (w.synth (.tx x)).conditions (w.protection x).present) (lost.phase.trans running) untuned
        ((lost.wantedOn x).trans wanted)
      rw [seq] at tuning settle muted discharges
      exact ⟨tuning, fun state h => settle state (lo h), muted, discharges⟩
  · have same : l = w := seqSynthLost_grounded (by rw [seq, state]; rintro (no | no | no) <;> cases no)
    rw [same, setPresent_paDischarge (by rw [seq]; exact state)]
    exact seq
  · obtain ⟨silent, -⟩ := seqSynthLost_airborne (s := w) (x := x) (by rw [seq]; exact up) untuned
    have silent' := setPresent_silent (p := (l.synth (.tx x)).conditions (l.protection x).present) silent
    refine ⟨silent'.state, fun n on => silent'.lanes n ((laneOn_congr ?_ x).trans on)⟩
    rw [← eq]
    exact (loseLock_plain s (.tx x) now).slots n

/-- What the lost lock of receive synthesizer `r` makes of its lanes, its visit and itself. -/
theorem loseLock_receive (s : State) (r : Rx) (now : Nat) :
    SeqFrame s (s.loseLock (.rx r) now) ∧ LeftReceive r (s.lockLost (.rx r) now) (s.loseLock (.rx r) now) := by
  have lost := lockLost_spec s (.rx r) now
  have eq : s.loseLock (.rx r) now = (s.lockLost (.rx r) now).leftVerified (.rx r) := loseLock_eq ..
  rw [eq]
  generalize s.lockLost (.rx r) now = w at lost
  exact ⟨lost.toSynthFrame.toSeq.trans (leftVerified_frame w _), leftVerified_receive lost.unverified⟩

theorem exec_lockDrop (verified : (s.synth c).state = .verified) :
    exec (.lockDrop c) s = .next (s.loseLock c (10 * s.time.steps)) := by
  change Host.Outcome.next _ = _
  rw [if_pos ((isVerified_iff ..).mpr verified)]

theorem expiryFrom_steps (n ms : Nat) : expiryFrom (10 * n) ms = some (n + (ms + 9) / 10) := by
  rw [expiryFrom, ceilDiv_eq _ rfl, Nat.add_assoc, Nat.mul_add_div (by decide)]

/-- Settles O44. -/
theorem lockDropMutes : Obligations.LockDropMutes := by
  refine ⟨fun s r verified => ?_, fun s x verified => ?_⟩
  · have lost := lockLost_spec s (.rx r) (10 * s.time.steps)
    obtain ⟨frame, left⟩ := loseLock_receive s r (10 * s.time.steps)
    obtain ⟨absent, synth⟩ := left.aside lost.absent
    have input (n : Slot) : (s.lockLost (.rx r) (10 * s.time.steps)).input n = s.input n := by
      rw [State.input, lost.inputs]
      rfl
    refine ⟨_, exec_lockDrop verified, frame, ?_, absent.1, absent.2, fun n e visit slot => ?_, fun idle => ?_,
      fun n e slot source => ?_, fun n e slot other => ?_⟩
    · rw [synth, lost.synth, expiryFrom_steps]
      rfl
    · have probe := left.probe n e (by rw [lost.probe]; exact visit) (by rw [lost.lane_eq]; exact slot)
      rw [lost.probe] at probe
      exact probe
    · have probe := left.idle (by rw [lost.probe]; exact idle)
      rw [lost.probe] at probe
      exact probe
    · exact left.muted n e (by rw [lost.lane_eq]; exact slot) (by rw [input]; exact source)
    · have spared := left.spared n e (by rw [lost.lane_eq]; exact slot) (by rw [input]; exact other)
      rw [lost.lane_eq] at spared
      exact spared
  · obtain ⟨lost, goesOff, discharges, airborne⟩ := loseLock_transmit s x (10 * s.time.steps)
    refine ⟨_, exec_lockDrop verified, loseLock_frame .., fun none => ?_, fun running _ wanted => ?_, discharges, airborne⟩
    · obtain ⟨present, synth, absent, -⟩ := lost none
      rw [expiryFrom_steps] at synth
      exact ⟨present, synth, absent⟩
    · obtain ⟨-, settle, muted, -⟩ := goesOff running wanted
      exact ⟨muted, fun state lo => (settle state lo).trans (by rw [State.downState])⟩

end LockLost

end Sys2Proof.Machine
end

section
/-! PROOFS. The end of a measurement, the start of the next, and what each verdict does to the controller. -/

namespace Sys2Proof.Machine

/-! ## The end of a measurement and the start of the next (R86, R87) -/

section Dated
variable {s t b : State} {c : Chain}

/-- A measurement starts, where one can, and is dated. -/
def State.restarts (s : State) (now : Nat) : State := s.startMeasurement.dateMeasurement now

theorem restarts_same (s : State) (now : Nat) :
    s.restarts now = { s with fc := (s.restarts now).fc, syn := (s.restarts now).syn } := by
  rcases startMeasurement_cases s with same | ⟨q, rest, -, -, -, eq⟩
  · rw [State.restarts, same]
    rfl
  · rw [State.restarts, eq]
    split <;> rfl

theorem restarts_lane (s : State) (now : Nat) (k : Slot) : (s.restarts now).lane k = s.lane k := by
  rw [restarts_same]
  rfl

theorem restarts_seq (s : State) (now : Nat) (x : Tx) : (s.restarts now).seq x = s.seq x := by
  rw [restarts_same]
  rfl

theorem restarts_protection (s : State) (now : Nat) (x : Tx) : (s.restarts now).protection x = s.protection x := by
  rw [restarts_same]
  rfl

theorem restarts_last (s : State) (now : Nat) : (s.restarts now).fc.last = s.fc.last := startMeasurement_last s

theorem restarts_dated (s : State) (now : Nat) : ∀ m, (s.restarts now).fc.current = some m → m.startedAt = now := by
  intro m current
  obtain ⟨m', -, eq⟩ := Option.map_eq_some_iff.mp current
  exact eq ▸ rfl

theorem restarts_aside (s : State) (now : Nat) (c : Chain) : Aside c s (s.restarts now) := by
  refine (startMeasurement_aside s c).trans fun absent => ⟨⟨absent.1, fun m current => ?_⟩, rfl⟩
  obtain ⟨m', running, eq⟩ := Option.map_eq_some_iff.mp current
  exact eq ▸ absent.2 m' running

/-- A measurement that starts makes no synthesizer enter or leave VERIFIED. -/
theorem restarts_verified (sound : s.CounterSound) (now : Nat) (c : Chain) :
    (s.restarts now).isVerified c = s.isVerified c := by
  change s.startMeasurement.isVerified c = _
  rw [State.isVerified, State.isVerified]
  rcases startMeasurement_synth s c with same | ⟨queued, same⟩ <;> rw [same]
  rw [queued sound]
  rfl

theorem setSynth_restarts (absent : s.Absent c) (x : SynContext) (now : Nat) :
    let t := (s.setSynth c x).restarts now
    t.pu = s.pu ∧ t.os = s.os ∧ t.synth c = x := by
  intro t
  have synth : t.synth c = x :=
    ((restarts_aside (s.setSynth c x) now c) absent).2.trans (State.synth_setSynth_same ..)
  have same : t = { s.setSynth c x with fc := t.fc, syn := t.syn } := restarts_same ..
  exact ⟨by rw [same]; rfl, by rw [same]; rfl, synth⟩

theorem restarts_head {q : QueueEntry} {rest : List QueueEntry} (now : Nat) (free : s.fc.current = none)
    (present : s.ref.state ≠ .absent) (head : s.fc.queue = q :: rest) :
    (s.restarts now).fc.queue = rest ∧ ∃ next, (s.restarts now).fc.current = some next ∧ next.syn = q.syn ∧
      next.audit = q.audit ∧ next.spoiled = false ∧ next.number = s.fc.started + 1 := by
  have fc : (s.restarts now).fc = { s.fc with
      started := s.fc.started + 1, queue := rest
      current := some { s.measurementOf q with startedAt := now } } := by
    rw [State.restarts, startMeasurement_head free present head]
    split <;> rfl
  rw [fc]
  exact ⟨rfl, _, rfl, rfl, rfl, rfl, rfl⟩

end Dated

section Freed
variable {s f u : State} {c : Chain} {x : SynContext}

/-- `f` is `s` at the end of a measurement of synthesizer `c`, before its verdict is taken. -/
structure Freed (c : Chain) (s f : State) : Prop where
  same : f = { s with time := f.time, phases := f.phases, draws := f.draws, fc := f.fc }
  queue : f.fc.queue = s.fc.queue
  started : f.fc.started = s.fc.started
  free : f.fc.current = none
  absent : f.Absent c
  sound : f.CounterSound

theorem TimeFrame.same (h : TimeFrame s u) : u = { s with time := u.time, phases := u.phases, draws := u.draws } := by
  obtain ⟨phase, ref, pe, syn, fc, lanes, mixers, inputs, probe, os, pu, store, supply, ports, pending, -, -⟩ := h
  cases u
  cases s
  dsimp only at *
  subst_vars
  rfl

theorem counterFreed_freed {m : Measurement} (time : TimeFrame s u) (sound : s.CounterSound)
    (current : s.fc.current = some m) (v : Verdict) (n : Option Nat) : Freed m.syn s (u.counterFreed m v n) := by
  have queue : u.fc.queue = s.fc.queue := congrArg Counter.queue time.fc
  have sound' : u.CounterSound := sound.congr time.syn time.fc
  refine ⟨?_, queue, (congrArg Counter.started time.fc : u.fc.started = s.fc.started), rfl, ⟨?_, nofun⟩,
    (counterIdle_keeps u _).counter sound'⟩
  · rw [time.same]
    rfl
  · change ∀ q ∈ u.fc.queue, _
    rw [queue]
    exact (sound.measured m current).2

variable (h : Freed c s f)
include h

theorem Freed.pe : f.pe = s.pe := by rw [h.same]
theorem Freed.pu : f.pu = s.pu := by rw [h.same]
theorem Freed.os : f.os = s.os := by rw [h.same]
theorem Freed.ref : f.ref = s.ref := by rw [h.same]
theorem Freed.phase : f.phase = s.phase := by rw [h.same]
theorem Freed.probe : f.probe = s.probe := by rw [h.same]
theorem Freed.inputs : f.inputs = s.inputs := by rw [h.same]
theorem Freed.limits : f.limits = s.limits := by rw [h.same]; rfl
theorem Freed.synth_eq (d : Chain) : f.synth d = s.synth d := by rw [h.same]; rfl
theorem Freed.seq_eq (y : Tx) : f.seq y = s.seq y := by rw [h.same]; rfl
theorem Freed.lane_eq (n : Slot) : f.lane n = s.lane n := by rw [h.same]; rfl
theorem Freed.input_eq (n : Slot) : f.input n = s.input n := by rw [h.same]; rfl
theorem Freed.mixer_eq (y : Tx) : f.mixer y = s.mixer y := by rw [h.same]; rfl
theorem Freed.protection_eq (y : Tx) : f.protection y = s.protection y := by rw [h.same]; rfl
theorem Freed.laneOn_eq (y : Tx) (n : Slot) : f.laneOn y n = s.laneOn y n := laneOn_congr (by rw [h.lane_eq]) y
theorem Freed.wantedOn (y : Tx) : f.wantedOn y = s.wantedOn y := by rw [h.same]; rfl

end Freed

/-! ## What a verdict does to the controller (R80, R81) -/

section Verdict
variable {s f : State} {c : Chain} {n : Nat} {v : Verdict}

/-- The controller's record of a verdict and its count. -/
def SynContext.recorded (x : SynContext) (v : Verdict) (n : Nat) : SynContext :=
  { x with lastVerdict := some v, lastCount := some n }

/-- A verdict that is a failed attempt or audit. -/
def Verdict.fails (v : Verdict) : Prop := v = .low ∨ v = .high

theorem takeVerdict_fails (fails : v.fails) (s : State) (c : Chain) :
    s.takeVerdict c v (some n) = (s.setSynth c ((s.synth c).recorded v n)).failedAttempt c := by
  rcases fails with rfl | rfl <;> rfl

/-- The audit timer of a controller that is found WITHIN. -/
def State.auditTimer (s : State) : Timer :=
  if 0 < s.limits.auditInterval then s.afterSeconds s.limits.auditInterval else none

/-- The controller of a synthesizer found WITHIN. -/
def SynContext.found (x : SynContext) (audit : Timer) (n : Nat) : SynContext :=
  { x.recorded .within n with state := .verified, attempts := 0, lost := false, audit := audit }

theorem takeVerdict_within (s : State) (c : Chain) : s.takeVerdict c .within (some n) =
    ((s.setSynth c ((s.synth c).found s.auditTimer n)).reportSynth c).enteredVerified c := by
  simp only [State.takeVerdict, State.enterVerified, setSynth_setSynth, State.synth_setSynth_same]
  rfl

/-- The controller of a synthesizer whose audit is WITHIN. -/
def SynContext.passed (x : SynContext) (audit : Timer) (n : Nat) : SynContext :=
  { x.recorded .within n with auditing := false, audit := audit }

theorem takeAudit_within (s : State) (c : Chain) (now : Nat) : s.takeAudit c .within (some n) now =
    s.setSynth c ((s.synth c).passed s.auditTimer n) := by
  simp only [State.takeAudit, State.restartAudit, setSynth_setSynth, State.synth_setSynth_same]
  rfl

theorem takeAudit_fails (fails : v.fails) (s : State) (c : Chain) (now : Nat) : s.takeAudit c v (some n) now =
    (s.setSynth c { (s.synth c).recorded v n with auditing := false }).loseLock c now := by
  rcases fails with rfl | rfl <;> simp only [State.takeAudit, setSynth_setSynth, State.synth_setSynth_same] <;> rfl

theorem judgeCount_within {count expected tolerance : Nat}
    (within : expected ≤ count + tolerance ∧ count ≤ expected + tolerance) :
    judgeCount count expected tolerance = .within := by
  rw [judgeCount, if_neg (by omega), if_neg (by omega)]

theorem judgeCount_fails {count expected tolerance : Nat}
    (outside : ¬(expected ≤ count + tolerance ∧ count ≤ expected + tolerance)) :
    (judgeCount count expected tolerance).fails := by
  rw [judgeCount]
  split
  · exact .inl rfl
  · rw [if_pos (by omega)]
    exact .inr rfl

end Verdict

end Sys2Proof.Machine
end

section
/-! PROOFS. WITHIN: what a synthesizer that enters VERIFIED makes of its lanes or its chain. -/

namespace Sys2Proof.Machine

/-! ## WITHIN: the synthesizer enters VERIFIED (R80, R83, R98, R126 to R129) -/

section Found
variable {s f t : State} {c : Chain} {x : Tx} {n : Nat}

theorem restarts_agrees (sound : s.CounterSound) (now : Nat) {k : Slot} (agrees : s.Agrees k) :
    (s.restarts now).Agrees k := by
  have same := restarts_same s now
  have lane : (s.restarts now).lane k = s.lane k := by rw [same]; rfl
  have state : (s.restarts now).laneStateOf k = s.laneStateOf k :=
    laneStateOf_congr (by rw [lane]) (by rw [same]) (by rw [same]; rfl) (by rw [same]; rfl)
      (fun _ _ => by rw [same]; rfl) fun r => restarts_verified sound now (.rx r)
  have target (st : LaneState) : (s.restarts now).targetOf k st = s.targetOf k st :=
    targetOf_congr (by rw [lane]) (by rw [same]) (fun _ _ => by rw [same]; rfl) (fun _ _ => by rw [same]; rfl) st
  rw [State.Agrees, lane, state, target]
  exact agrees

theorem restarts_wantedOn (s : State) (now : Nat) (x : Tx) : (s.restarts now).wantedOn x = s.wantedOn x := by
  rw [restarts_same]
  rfl

theorem restarts_tuned (sound : s.CounterSound) (now : Nat) (x : Tx) : (s.restarts now).tuned x = s.tuned x := by
  have wanted : ((s.restarts now).synth (.tx x)).wanted = (s.synth (.tx x)).wanted :=
    (startMeasurement_sameLo s).wanted (.tx x)
  have pe : (s.restarts now).pe = s.pe := by rw [restarts_same]
  rw [State.tuned, State.tuned, State.verifiedFor, State.verifiedFor, restarts_verified sound, wanted, pe]

/-- A controller measured for itself, and not as an audit, waits for no timer. -/
theorem Freed.trying {m : Measurement} (sound : s.CounterSound) (current : s.fc.current = some m)
    (own : m.audit = false) (h : Freed m.syn s f) : f.Trying m.syn := by
  obtain ⟨measured, -⟩ := sound.measured m current
  rw [SynContext.measures, own, if_neg Bool.false_ne_true] at measured
  have synth := h.synth_eq m.syn
  refine ⟨h.absent, ?_, fun w sent => ?_, fun state => ?_, fun state => ?_⟩
  · rw [synth]
    exact (sound.contexts _).noTimers (by rw [measured]; nofun) (by rw [measured]; nofun) (by rw [measured]; nofun)
  · rw [synth] at sent
    have state := (sound.contexts _).transfer ⟨w, sent⟩
    rw [measured] at state
    cases state
  all_goals
    rw [synth, measured] at state
    cases state

/-- What a receive synthesizer that enters VERIFIED makes of itself and of the lanes that draw on it. -/
structure FoundReceive (r : Rx) (n : Nat) (s f t : State) : Prop where
  synth : t.synth (.rx r) = (s.synth (.rx r)).found f.auditTimer n
  rest : t.pu = s.pu ∧ t.os = s.os ∧ t.probe = s.probe
  current : ∀ k, (t.lane k).current = (s.lane k).current
  drawing : ∀ k e, (s.lane k).slot = some e → e.sourceChain (s.input k).source = r → t.Agrees k
  others : ∀ k e, (s.lane k).slot = some e → e.sourceChain (s.input k).source ≠ r →
    (t.lane k).state = (s.lane k).state ∧ (t.lane k).target = (s.lane k).target
  ramps : ∀ y, (∃ k, s.laneOn y k = true ∧ (t.lane k).target ≠ (s.lane k).target) →
    t.mixer y = { s.mixer y with step := 0, timer := some (f.time.steps + (s.mixer y).rampUnit) }

theorem takeVerdict_receive {r : Rx} (h : Freed (.rx r) s f) (trying : f.Trying (.rx r)) (now : Nat) :
    (f.takeVerdict (.rx r) .within (some n)).fc = f.fc ∧
      FoundReceive r n s f ((f.takeVerdict (.rx r) .within (some n)).restarts now) := by
  let w := f.setSynth (.rx r) ((f.synth (.rx r)).found f.auditTimer n)
  have eq : f.takeVerdict (.rx r) .within (some n) = w.decideLanes (w.lanesFrom r) := takeVerdict_within f (.rx r)
  have sound : (w.decideLanes (w.lanesFrom r)).CounterSound := eq ▸ (takeVerdict_keeps trying .within (some n)).counter h.sound
  rw [eq]
  generalize hb : w.decideLanes (w.lanesFrom r) = b at sound
  have reads : Reads w b := hb ▸ decideLanes_reads ..
  have same := restarts_same b now
  have lane (k : Slot) : (b.restarts now).lane k = b.lane k := restarts_lane b now k
  have from_w (k : Slot) : w.lane k = s.lane k := h.lane_eq k
  have mem (k : Slot) {e : SlotEntry} (slot : (s.lane k).slot = some e) :
      k ∈ w.lanesFrom r ↔ e.sourceChain (s.input k).source = r := by
    rw [mem_lanesFrom, from_w, show w.input k = s.input k from h.input_eq k]
    exact ⟨fun ⟨e', slot', chain⟩ => by rw [slot] at slot'; cases slot'; exact chain, fun chain => ⟨e, slot, chain⟩⟩
  have outside {k : Slot} (out : k ∉ w.lanesFrom r) : w.redecided (w.lanesFrom r) k = s.lane k :=
    (if_neg out).trans (from_w k)
  obtain ⟨absent, kept⟩ := (reads.toLaneFrame.aside : Aside (.rx r) w b) h.absent
  refine ⟨reads.fc, ?_, ?_, fun k => ?_, fun k e slot chain => ?_, fun k e slot other => ?_, fun y moved => ?_⟩
  · rw [(restarts_aside b now (.rx r) absent).2, kept, State.synth_setSynth_same, h.synth_eq]
  · rw [same]
    exact ⟨reads.pu.trans h.pu, reads.os.trans h.os, reads.probe.trans h.probe⟩
  · rw [lane, ← hb, decideLanes_current, from_w]
  · exact restarts_agrees sound now (hb ▸ decideLanes_agrees w ((mem k slot).mpr chain))
  · rw [lane, ← hb, decideLanes_state, decideLanes_target, outside (other ∘ (mem k slot).mp)]
    exact ⟨rfl, rfl⟩
  · obtain ⟨k, on, target⟩ := moved
    rw [lane, ← hb, decideLanes_target] at target
    have retargets : w.Retargets (w.lanesFrom r) y := by
      refine ⟨k, ?_, (laneOn_congr (by rw [from_w]) y).trans on, by rw [from_w]; exact target⟩
      by_contra out
      rw [outside out] at target
      exact target rfl
    rw [show (b.restarts now).mixer y = b.mixer y by rw [same]; rfl, ← hb, (decideLanes_ramps retargets).1,
      State.restarted, show w.mixer y = s.mixer y from h.mixer_eq y]
    rfl

/-- Conditions withdrawn below the level are handed to no one. -/
theorem setPresent_withdrawn {p : ChainConditions} (level : s.LevelOk x)
    (fewer : ∀ k, isPresent s.pu.device p k = true → isPresent s.pu.device (s.protection x).present k = true) :
    s.setPresent x p = { s with pu := (s.setPresent x p).pu } ∧ ((s.setPresent x p).protection x).present = p ∧
      ((s.setPresent x p).protection x).level = (s.protection x).level ∧
      ((s.setPresent x p).protection x).lockedOut = (s.protection x).lockedOut := by
  by_cases same : p = (s.protection x).present
  · rw [setPresent_same same, same]
    exact ⟨rfl, rfl, rfl, rfl⟩
  · let v := s.withPresent x p
    have given : v.protection x = { s.protection x with present := p } := withPresent_protection ..
    have calm : highestSeverity s.severities s.pu.device p ≤ (s.protection x).level :=
      (highestSeverity_mono _ _ _ fewer).trans (level.1 ▸ level.2)
    have eq : s.setPresent x p = v.decideProtection x := by
      rw [setPresent_new same]
      refine protect_calm ?_
      rw [given]
      exact calm
    have protection : (v.decideProtection x).protection x = v.judged x :=
      (decideProtection_protection v x x).trans (if_pos rfl)
    obtain ⟨kept, -, locked⟩ := ChainProtection.decide_calm (c := { s.protection x with present := p }) calm s.limits
      s.time.steps s.time.seconds
    have judged : v.judged x = ChainProtection.decide { s.protection x with present := p } s.severities s.limits
        s.pu.device s.time.steps s.time.seconds := by
      rw [State.judged, given]
      rfl
    rw [eq, protection, judged]
    exact ⟨rfl, (ChainProtection.decide_keeps ..).1, kept, locked⟩

theorem decideSeq_tuning_tuned (running : s.phase = .running) (state : (s.seq x).state = .tuning)
    (wanted : s.wantedOn x = true) (tuned : s.tuned x = true) :
    (s.decideSeq x).seq x = s.enterSeq x .driveSettle := by
  have next := nextSeq_tuning state
  rw [lockedOut_of_wantedOn wanted, wanted, tuned] at next
  rw [decideSeq_running running]
  refine (settleSeq_last 3 next (fun _ => rfl) fun t facts seq => ?_).2
  rw [nextSeq_driveSettle (by rw [seq]; rfl), facts.wantedOn, wanted, seq]
  rfl

theorem decideSeq_muted_tuned (running : s.phase = .running) (state : (s.seq x).state = .muted)
    (runDown : (s.seq x).runDown = false) (wanted : s.wantedOn x = true) (tuned : s.tuned x = true)
    (level : (s.protection x).level < 2) : Rises x s (s.decideSeq x) := by
  have next := nextSeq_muted state
  rw [wanted, runDown, tuned] at next
  rw [decideSeq_running running]
  rw [decide_eq_true level] at next
  exact settleSeq_rampUp 2 next wanted level

/-- What a transmit synthesizer that enters VERIFIED makes of its chain. -/
structure FoundTransmit (x : Tx) (n : Nat) (s f t : State) : Prop where
  synth : (s.seq x).state ≠ .driveSettle ∨ s.wantedOn x = true ∨ s.LoHanded x →
    t.synth (.tx x) = (s.synth (.tx x)).found f.auditTimer n
  protection : (s.seq x).state ≠ .driveSettle →
    (t.protection x).present = { (s.protection x).present with txLoLost := false, txLoUnverified := false } ∧
      (t.protection x).level = (s.protection x).level
  tuned : s.phase = .running → s.wantedOn x = true → (s.synth (.tx x)).wanted = (s.pe.active.tx.get x).lo →
    (s.synth (.tx x)).wanted.isSome = true →
    ((s.seq x).state = .tuning → (t.seq x).state = .driveSettle ∧
      (t.seq x).settleTimer = some (f.time.steps + (s.seq x).driveSettle)) ∧
    ((s.seq x).state = .driveSettle → (s.seq x).driveSettled = false → (t.seq x).state = .driveSettle) ∧
    ((s.seq x).state = .driveSettle → (s.seq x).driveSettled = true →
      ((s.protection x).level = 2 → (t.seq x).state = .muted) ∧
      ((s.protection x).level < 2 → (t.seq x).state = .rampUp ∨ (t.seq x).state = .onAir)) ∧
    ((s.seq x).state = .muted → (s.seq x).runDown = false → (s.protection x).level < 2 →
      (t.seq x).state = .rampUp ∨ (t.seq x).state = .onAir)
  unwanted : s.phase = .running → s.wantedOn x = false → (s.seq x).state = .driveSettle →
    (t.seq x).handedOver = s.pe.active.tuningLo x ∧ (t.seq x).retunePending = false ∧
      (t.seq x).state = t.offState x

theorem Rises.up (h : Rises x s t) : (t.seq x).state = .rampUp ∨ (t.seq x).state = .onAir :=
  rampUp_or_onAir _ _ h.state

theorem isPresent_withdrawn {d : DeviceConditions} {p : ChainConditions} {k : Condition}
    (here : isPresent d { p with txLoLost := false, txLoUnverified := false } k = true) : isPresent d p k = true := by
  cases k with
  | txLoLost => cases here
  | txLoUnverified => cases here
  | _ => exact here

theorem takeVerdict_transmit (h : Freed (.tx x) s f) (trying : f.Trying (.tx x)) (level : s.LevelOk x) (now : Nat) :
    FoundTransmit x n s f ((f.takeVerdict (.tx x) .within (some n)).restarts now) := by
  let z := (s.synth (.tx x)).found f.auditTimer n
  let w := f.setSynth (.tx x) z
  let p : ChainConditions := { (s.protection x).present with txLoLost := false, txLoUnverified := false }
  let l := w.setPresent x p
  have protection : w.protection x = s.protection x := h.protection_eq x
  have eq : f.takeVerdict (.tx x) .within (some n) = l.decideSeq x := by
    rw [takeVerdict_within, h.synth_eq]
    change (w.setPresent x ((w.synth (.tx x)).conditions (w.protection x).present)).decideSeq x = _
    rw [protection, show w.synth (.tx x) = z from State.synth_setSynth_same ..]
    rfl
  have sound : (l.decideSeq x).CounterSound := eq ▸ (takeVerdict_keeps trying .within (some n)).counter h.sound
  obtain ⟨same, present, kept, locked⟩ := setPresent_withdrawn (s := w) (x := x) (p := p)
    (level.congr (congrArg PlanEngine.active h.pe) h.pu) (fun k here => by rw [protection]; exact isPresent_withdrawn here)
  rw [eq]
  have same : l = { w with pu := l.pu } := same
  have present : (l.protection x).present = p := present
  have kept : (l.protection x).level = (s.protection x).level := kept.trans (by rw [protection])
  have locked : (l.protection x).lockedOut = (s.protection x).lockedOut := locked.trans (by rw [protection])
  have pe : l.pe = s.pe := (congrArg State.pe same).trans h.pe
  have phase : l.phase = s.phase := (congrArg State.phase same).trans h.phase
  have seq : l.seq x = s.seq x := by
    rw [same]
    exact h.seq_eq x
  have synth : l.synth (.tx x) = z := by
    rw [same]
    exact State.synth_setSynth_same ..
  have absent : l.Absent (.tx x) := by
    rw [same]
    exact h.absent
  have steps : l.time = f.time := (congrArg State.time same :)
  have wanted : l.wantedOn x = s.wantedOn x := by
    rw [Bool.eq_iff_iff, wantedOn_iff, wantedOn_iff, pe, kept, locked, seq]
  have lo (handed : s.LoHanded x) : l.LoHanded x := by
    rw [State.LoHanded, synth, pe]
    exact handed
  clear_value l
  have seq_eq := restarts_seq (l.decideSeq x) now x
  have protection_eq := restarts_protection (l.decideSeq x) now x
  refine ⟨fun none => ?_, fun other => ?_, fun running on same some => ?_, fun running off state => ?_⟩
  · have kept : Unhanded x l (l.decideSeq x) :=
      decideSeq_unhanded (by rw [State.HandsNone, seq, wanted]; exact none.imp_right (Or.imp_right lo))
    obtain ⟨absent', synth'⟩ := (kept.aside : Aside (.tx x) _ _) absent
    rw [(restarts_aside _ now _ absent').2, synth', synth]
  · have unhanded : Unhanded x l (l.decideSeq x) := decideSeq_unhanded (.inl (by rw [seq]; exact other))
    rw [protection_eq, unhanded.protection_eq]
    exact ⟨present, kept⟩
  · have enabled := ((wantedOn_iff s x).mp on).1
    have tuning : s.pe.active.tuningLo x = (s.synth (.tx x)).wanted := (Plan.tuningLo_enabled enabled).trans same.symm
    have tuned : l.tuned x = true := by
      rw [tuned_iff, synth, pe, tuning]
      exact ⟨rfl, some, rfl⟩
    rw [seq_eq]
    have running' := phase.trans running
    have on' := wanted.trans on
    refine ⟨fun state => ?_, fun state waits => ?_, fun state settled => ?_, fun state runDown low => ?_⟩
    · rw [decideSeq_tuning_tuned running' (by rw [seq]; exact state) on' tuned, State.enterSeq, seq, State.afterSteps, steps]
      exact ⟨rfl, rfl⟩
    · rw [decideSeq_waits (by rw [seq]; exact state) on' (.inl (by rw [seq]; exact waits)), seq]
      exact state
    · obtain ⟨mutes, rises⟩ := decideSeq_settled running' (by rw [seq]; exact state) on' (by rw [seq]; exact settled) tuned
      exact ⟨fun two => by rw [(mutes (kept.trans two)).2]; rfl, fun low => (rises (by rw [kept]; exact low)).up⟩
    · exact (decideSeq_muted_tuned running' (by rw [seq]; exact state) (by rw [seq]; exact runDown) on' tuned
        (by rw [kept]; exact low)).up
  · have state' : (l.seq x).state = .driveSettle := by rw [seq]; exact state
    have off' := wanted.trans off
    have facts := (settleSeq_driveSettle_off 2 state' off').1
    rw [← decideSeq_running (phase.trans running)] at facts
    obtain ⟨moved, -⟩ := moveSeq_handsOver (s := l) (x := x) (st := if (l.protection x).lockedOut then .lockedOut else .off)
      (by rw [state']; rfl) (by split <;> rfl)
    have offState : ((l.decideSeq x).restarts now).offState x = (l.decideSeq x).offState x := by
      rw [State.offState, State.offState, restarts_wantedOn, restarts_tuned sound, protection_eq]
    rw [seq_eq, offState, ← decideSeq_off (phase.trans running) (.inr (.inr (.inr ⟨state', off'⟩))), facts.handedOver,
      facts.retune, moved, pe]
    exact ⟨rfl, rfl, rfl⟩

end Found

end Sys2Proof.Machine
end

section
/-! PROOFS. LOW and HIGH: failed attempts and failed audits, and what they make of lanes and chains. -/

namespace Sys2Proof.Machine

/-! ## LOW and HIGH: failed attempts and failed audits (R78, R81, R82) -/

section Fails
variable {s f b t : State} {c : Chain} {x : Tx} {v : Verdict} {n : Nat}

theorem GoesOff.before (h : GoesOff x f t) (seq : f.seq x = s.seq x) (lo : s.LoHanded x → f.LoHanded x) :
    GoesOff x s t := by
  obtain ⟨tuning, settle, muted, discharges⟩ := h
  rw [seq] at tuning settle muted discharges
  exact ⟨tuning, fun state handed => settle state (lo handed), muted, discharges⟩

theorem GoesOff.restarts (h : GoesOff x s b) (now : Nat) : GoesOff x s (b.restarts now) := by
  obtain ⟨tuning, settle, muted, discharges⟩ := h
  have seq := restarts_seq b now x
  have down : (b.restarts now).downState x = b.downState x := by rw [State.downState, restarts_protection]; rfl
  rw [← seq] at tuning settle muted discharges
  rw [← restarts_wantedOn b now] at tuning settle muted
  rw [← down] at tuning settle
  exact ⟨tuning, settle, muted, discharges⟩

/-- The context of a synthesizer that has used its attempts up. -/
def SynContext.failed (x : SynContext) (v : Verdict) (n : Nat) (retry : Timer) : SynContext :=
  (x.recorded v n).givesUp retry

/-- The state in which a failed synthesizer has been announced, before its condition is made present. -/
def State.failedTold (f : State) (c : Chain) (v : Verdict) (n : Nat) : State :=
  (f.setSynth c ((f.synth c).failed v n (f.afterSeconds f.limits.retryHold))).failureTold c

theorem takeVerdict_retries (fails : v.fails) (left : (f.synth c).attempts < f.limits.attempts) :
    f.takeVerdict c v (some n) = f.setSynth c ((f.synth c).recorded v n).programming :=
  (takeVerdict_fails fails f c).trans (failedAttempt_retries _ left)

theorem takeVerdict_failed (fails : v.fails) (used : f.limits.attempts ≤ (f.synth c).attempts) :
    f.takeVerdict c v (some n) = (f.failedTold c v n).reportSynth c :=
  (takeVerdict_fails fails f c).trans (failedAttempt_fails _ used)

theorem failureTold_told (s : State) (c : Chain) (q : Port) : (s.failureTold c).told q .synthFailed := by
  unfold State.failureTold
  split
  · exact (probationFailure_heeds _).told _ _ (notifyBoth_told ..)
  · exact notifyBoth_told ..

theorem failureTold_pe (used : s.pe.active.uses c = true) (running : s.pe.status = .onProbation) :
    (s.failureTold c).pe = s.pe.failProbation := by
  rw [State.failureTold, if_pos used]
  exact probationFailure_pe running

/-- What the entry into FAILED makes of a chain. -/
structure Failed (c : Chain) (v : Verdict) (n : Nat) (s f t : State) : Prop where
  told : ∀ q, t.told q .synthFailed
  probation : s.pe.active.uses c = true → s.pe.status = .onProbation → t.pe = s.pe.failProbation
  receive : ∀ r, c = .rx r →
    t.synth c = (s.synth c).failed v n (f.afterSeconds f.limits.retryHold) ∧ t.pu = s.pu
  transmit : ∀ y, c = .tx y →
    ((s.seq y).state ≠ .driveSettle ∨ s.LoHanded y →
      t.synth c = (s.synth c).failed v n (f.afterSeconds f.limits.retryHold) ∧
      (t.protection y).present = { (s.protection y).present with txLoLost := (s.synth c).lost, txLoUnverified := true } ∧
      (s.LevelSound → s.severities.txLoUnverified ≤ (t.protection y).level)) ∧
    (s.phase = .running → s.wantedOn y = true → GoesOff y s t)

theorem takeVerdict_gives_up (h : Freed c s f) (fails : v.fails) (used : f.limits.attempts ≤ (f.synth c).attempts)
    (now : Nat) : Failed c v n s f ((f.takeVerdict c v (some n)).restarts now) := by
  rw [takeVerdict_failed fails used]
  let z := (s.synth c).failed v n (f.afterSeconds f.limits.retryHold)
  let g := f.failedTold c v n
  have told : Announces (f.setSynth c z) g := by
    rw [show g = (f.setSynth c ((f.synth c).failed v n _)).failureTold c from rfl, h.synth_eq]
    exact failureTold_announces ..
  have after := restarts_same (g.reportSynth c) now
  have ports : ((g.reportSynth c).restarts now).ports = (g.reportSynth c).ports := by rw [after]
  have pe : ((g.reportSynth c).restarts now).pe = (g.reportSynth c).pe := by rw [after]
  have synth : g.synth c = z := (told.synth_eq c).trans (State.synth_setSynth_same ..)
  have absent : g.Absent c := by
    have fc : g.fc = f.fc := by rw [told.same]; rfl
    rw [State.Absent, fc]
    exact h.absent
  have active : g.pe.active = s.pe.active := told.active.trans (congrArg PlanEngine.active h.pe)
  have pu : g.pu = s.pu := told.pu.trans h.pu
  refine ⟨fun q => ?_, fun uses running => ?_, fun r own => ?_, fun y own => ⟨fun none => ?_, fun running wanted => ?_⟩⟩
  · exact (Tells.of_ports ports).told _ _ ((reportSynth_heeds g c).told _ _ (failureTold_told _ c q))
  · have fallen : g.pe = s.pe.failProbation := by
      rw [← h.pe]
      exact failureTold_pe (s := f.setSynth c _) (by rw [← h.pe] at uses; exact uses) (by rw [← h.pe] at running; exact running)
    rw [pe, ← fallen]
    exact (reportSynth_frame g c).pe.resolve_right fun ⟨still, _⟩ => by rw [fallen] at still; cases still
  · subst own
    refine ⟨((restarts_aside g now _) absent).2.trans synth, ?_⟩
    rw [show (g.reportSynth (.rx r)).restarts now = g.restarts now from rfl, restarts_same]
    exact pu
  all_goals
    subst own
    let p := (g.synth (.tx y)).conditions (g.protection y).present
    have seq : g.seq y = s.seq y := (told.seq_eq y).trans (h.seq_eq y)
    have lo (handed : s.LoHanded y) : g.LoHanded y := by
      rw [State.LoHanded, synth, active]
      exact handed
    have eq : g.reportSynth (.tx y) = g.setPresent y p := rfl
    rw [eq]
  · obtain ⟨syn, fc, present, covers⟩ := setPresent_taken (s := g) (x := y) (p := p) (by rw [seq]; exact none.imp_right lo)
    have conditions : p = { (s.protection y).present with txLoLost := (s.synth (.tx y)).lost, txLoUnverified := true } := by
      rw [show p = (g.synth (.tx y)).conditions (g.protection y).present from rfl, synth, State.protection, pu]
      rfl
    obtain ⟨absent', same⟩ := (Aside.of_same syn fc : Aside (.tx y) g (g.setPresent y p)) absent
    refine ⟨((restarts_aside _ now _) absent').2.trans (same.trans synth), ?_, fun level => ?_⟩
    · rw [restarts_protection, present, conditions]
    · rw [restarts_protection]
      have below := covers (State.LevelOk.congr (level y) active pu) .txLoUnverified (by rw [conditions]; rfl)
      rw [State.severities, active] at below
      exact below
  · refine ((setPresent_goesOff ?_ (untuned_of_unverified ?_) ?_).before seq lo).restarts now
    · rw [told.same]
      exact h.phase.trans running
    · rw [State.isVerified, synth]
      rfl
    · rw [told.wantedOn]
      exact (h.wantedOn y).trans wanted

/-- The context of a synthesizer whose audit has failed. -/
def SynContext.unlocked (x : SynContext) (v : Verdict) (n : Nat) (settle : Timer) : SynContext :=
  ({ x.recorded v n with auditing := false } : SynContext).dropped settle

/-- The controller's record of a failed audit. -/
def State.auditFailed (f : State) (c : Chain) (v : Verdict) (n : Nat) : State :=
  f.setSynth c { (f.synth c).recorded v n with auditing := false }

theorem auditFailed_freed (h : Freed c s f) (v : Verdict) (n : Nat) (now : Nat) :
    ((f.auditFailed c v n).synth c).dropped (expiryFrom now (f.auditFailed c v n).limits.settle) =
      (s.synth c).unlocked v n (expiryFrom now s.limits.settle) := by
  rw [State.auditFailed, State.synth_setSynth_same, h.synth_eq]
  change SynContext.dropped _ (expiryFrom now f.limits.settle) = _
  rw [h.limits]
  rfl

/-- What a failed audit of a receive synthesizer makes of itself, its lanes and its visit. -/
structure AuditLost (r : Rx) (z : SynContext) (s t : State) : Prop where
  synth : t.synth (.rx r) = z
  muted : ∀ k e, (s.lane k).slot = some e → e.sourceChain (s.input k).source = r →
    (t.lane k).current = 0 ∧ (t.lane k).target = 0 ∧ (t.lane k).state = .held
  spared : ∀ k e, (s.lane k).slot = some e → e.sourceChain (s.input k).source ≠ r →
    (t.lane k).current = (s.lane k).current
  probe : ∀ k e, s.probe.visit = some k → (s.lane k).slot = some e →
    t.probe = if e.inputChain = r then { s.probe with clean := false } else s.probe

theorem takeAudit_receive {r : Rx} (h : Freed (.rx r) s f) (fails : v.fails) (now : Nat) :
    AuditLost r ((s.synth (.rx r)).unlocked v n (expiryFrom now s.limits.settle)) s
      ((f.takeAudit (.rx r) v (some n) now).restarts now) := by
  let g := f.auditFailed (.rx r) v n
  rw [show f.takeAudit (.rx r) v (some n) now = g.loseLock (.rx r) now from takeAudit_fails fails f _ now]
  have lost := lockLost_spec g (.rx r) now
  have left := (loseLock_receive g r now).2
  have lane (k : Slot) : (g.lockLost (.rx r) now).lane k = s.lane k := (lost.lane_eq k).trans (h.lane_eq k)
  have input (k : Slot) : (g.lockLost (.rx r) now).input k = s.input k := by
    rw [State.input, lost.inputs]
    exact h.input_eq k
  have probe : (g.lockLost (.rx r) now).probe = s.probe := lost.probe.trans h.probe
  have synth : (g.lockLost (.rx r) now).synth (.rx r) = _ := lost.synth.trans (auditFailed_freed h v n now)
  obtain ⟨absent, same⟩ := left.aside lost.absent
  obtain ⟨-, -, visited, muted, spared⟩ := left
  generalize g.lockLost (.rx r) now = w at *
  generalize g.loseLock (.rx r) now = b at *
  refine ⟨((restarts_aside b now _) absent).2.trans (same.trans synth), fun k e slot source => ?_,
    fun k e slot other => ?_, fun k e visit slot => ?_⟩
  · rw [restarts_lane]
    exact muted k e (by rw [lane]; exact slot) (by rw [input]; exact source)
  · rw [restarts_lane, ← lane]
    exact spared k e (by rw [lane]; exact slot) (by rw [input]; exact other)
  · rw [show (b.restarts now).probe = b.probe by rw [restarts_same], ← probe]
    exact visited k e (by rw [probe]; exact visit) (by rw [lane]; exact slot)

/-- What a failed audit of a transmit synthesizer makes of its chain. -/
structure AuditLostTransmit (x : Tx) (z : SynContext) (s t : State) : Prop where
  lost : (s.seq x).state ≠ .driveSettle ∨ s.LoHanded x →
    t.synth (.tx x) = z ∧ (t.protection x).present.txLoLost = true ∧
      (s.LevelSound → s.severities.txLoLost ≤ (t.protection x).level)
  goesOff : s.phase = .running → s.wantedOn x = true → GoesOff x s t
  airborne : (s.seq x).state = .rampUp ∨ (s.seq x).state = .onAir ∨ (s.seq x).state = .rampDown →
    ((t.seq x).state = .muted ∨ (t.seq x).state = .paDischarge) ∧
      ∀ k, s.laneOn x k = true → (t.lane k).current = 0 ∧ (t.lane k).target = 0

theorem takeAudit_transmit (h : Freed (.tx x) s f) (fails : v.fails) (now : Nat) :
    AuditLostTransmit x ((s.synth (.tx x)).unlocked v n (expiryFrom now s.limits.settle)) s
      ((f.takeAudit (.tx x) v (some n) now).restarts now) := by
  let g := f.auditFailed (.tx x) v n
  rw [show f.takeAudit (.tx x) v (some n) now = g.loseLock (.tx x) now from takeAudit_fails fails f _ now]
  have seq : g.seq x = s.seq x := h.seq_eq x
  have active : g.pe.active = s.pe.active := congrArg PlanEngine.active h.pe
  have lo (handed : s.LoHanded x) : g.LoHanded x := by
    rw [State.LoHanded, show g.synth (.tx x) = _ from State.synth_setSynth_same .., active, h.synth_eq]
    exact handed
  obtain ⟨lost, goesOff, -, airborne⟩ := loseLock_transmit g x now
  refine ⟨fun none => ?_, fun running wanted => ?_, fun up => ?_⟩
  · obtain ⟨present, synth, absent, level⟩ := lost (by rw [seq]; exact none.imp_right lo)
    refine ⟨((restarts_aside _ now _) absent).2.trans (synth.trans (auditFailed_freed h v n now)), ?_, fun sound => ?_⟩
    · rw [restarts_protection]
      exact present
    · rw [restarts_protection]
      have below := level (State.LevelOk.congr (sound x) active h.pu)
      rw [State.severities, active] at below
      exact below
  · exact ((goesOff (h.phase.trans running) ((h.wantedOn x).trans wanted)).before seq lo).restarts now
  · obtain ⟨state, lanes⟩ := airborne (by rw [seq]; exact up)
    simp only [restarts_seq, restarts_lane]
    exact ⟨state, fun k on => lanes k ((h.laneOn_eq x k).trans on)⟩

end Fails

end Sys2Proof.Machine
end

section
/-! PROOFS. The last-measurement record, and the closing of a gate (O45). -/

namespace Sys2Proof.Machine

/-! ## The last-measurement record stands until the next measurement ends (R87) -/

section LastRecord
variable {x : Tx} {v : Verdict}

theorem leaveCounter_last (s : State) (c : Chain) : (s.leaveCounter c).fc.last = s.fc.last := rfl

theorem takeWanted_last (s : State) (c : Chain) (lo : Option Nat) : (s.takeWanted c lo).fc.last = s.fc.last := by
  unfold State.takeWanted
  split
  · rfl
  cases lo with
  | some l =>
    change (s.takeLo c l).fc.last = _
    rcases takeLo_cases s c l with ⟨-, eq⟩ | ⟨-, eq⟩ | ⟨-, -, eq⟩ <;> rw [eq]
    · dsimp only
      split <;> rfl
    · split <;> rfl
    · rw [startMeasurement_last, withdrawSynth_fc]
      rfl
  | none =>
    change (s.takeNone c).fc.last = _
    rcases takeNone_cases s c with ⟨-, eq⟩ | ⟨-, eq⟩ | ⟨-, -, eq⟩ <;> rw [eq]
    · rfl
    · split <;> rfl
    · rw [startMeasurement_last, goIdle_fc]
      rfl

theorem moveSeq_last (s : State) (x : Tx) (st : SeqState) : (s.moveSeq x st).fc.last = s.fc.last := by
  rw [(entered_moveSeq s x st).fc]
  rcases entered_cases s x st with ⟨-, -, eq⟩ | ⟨-, eq⟩ <;> rw [eq]
  · exact takeWanted_last ..
  · rfl

theorem decideSeq_last (s : State) (x : Tx) : (s.decideSeq x).fc.last = s.fc.last := by
  have settle (fuel : Nat) (s : State) : (State.settleSeq fuel s x).fc.last = s.fc.last := by
    induction fuel generalizing s with
    | zero => rfl
    | succ fuel ih =>
      unfold State.settleSeq
      split
      · rfl
      · exact (ih _).trans (moveSeq_last ..)
  unfold State.decideSeq
  split
  · exact settle 4 s
  · rfl

theorem leftVerified_last (s : State) (c : Chain) : (s.leftVerified c).fc.last = s.fc.last := by
  cases c with
  | rx r =>
    rw [leftVerified_eq]
    refine (foldl_related (R := fun s t : State => t.fc.last = s.fc.last) (fun _ => rfl) (fun a b => b.trans a)
      decideSeq_last allTx _).trans ?_
    rw [(decideLanes_frame ..).fc, (mutedFrom_same s r).2.1]
  | tx x =>
    by_cases up : (s.seq x).state = .rampUp ∨ (s.seq x).state = .onAir ∨ (s.seq x).state = .rampDown
    · rw [show s.leftVerified (.tx x) = ((s.fastMuteChain x).moveSeq x .muted).decideSeq x from if_pos up,
        decideSeq_last, moveSeq_last, (fastMuteChain_frame s x).fc]
    · rw [show s.leftVerified (.tx x) = s from if_neg up]

theorem reportSynth_last (s : State) (c : Chain) : (s.reportSynth c).fc.last = s.fc.last := by
  cases c with
  | rx r => rfl
  | tx x =>
    obtain ⟨w, moved, h, eq, -⟩ := setPresent_split s x ((s.synth (.tx x)).conditions (s.protection x).present)
    obtain ⟨-, -, fc, -⟩ := h.field
    rw [show s.reportSynth (.tx x) = w.tellChain x moved from eq, State.tellChain, ← fc]
    split
    · rw [decideSeq_last, (decideLanes_frame ..).fc]
    · rfl

theorem loseLock_last (s : State) (c : Chain) (now : Nat) : (s.loseLock c now).fc.last = s.fc.last := by
  rw [loseLock_eq, reportSynth_last, leftVerified_last, startMeasurement_last]
  rfl

theorem enteredVerified_last (s : State) (c : Chain) : (s.enteredVerified c).fc.last = s.fc.last := by
  cases c with
  | rx r => exact congrArg Counter.last (decideLanes_frame ..).fc
  | tx x => exact decideSeq_last s x

theorem takeVerdict_last (f : State) (c : Chain) (n : Nat) (judged : v = .within ∨ v.fails) :
    (f.takeVerdict c v (some n)).fc.last = f.fc.last := by
  rcases judged with rfl | fails
  · rw [takeVerdict_within, enteredVerified_last, reportSynth_last]
    rfl
  · by_cases left : (f.synth c).attempts < f.limits.attempts
    · rw [takeVerdict_retries fails left]
      rfl
    · rw [takeVerdict_failed fails (not_lt.mp left), reportSynth_last, State.failedTold, (failureTold_announces ..).same]
      rfl

theorem takeAudit_last (f : State) (c : Chain) (n now : Nat) (judged : v = .within ∨ v.fails) :
    (f.takeAudit c v (some n) now).fc.last = f.fc.last := by
  rcases judged with rfl | fails
  · rw [takeAudit_within]
    rfl
  · rw [takeAudit_fails fails, loseLock_last]
    rfl

end LastRecord

/-! ## The closing of a gate (O45) -/

section GateClose
variable {s f u : State} {m : Measurement} {n count : Nat}

theorem gateEnd_eq (m : Measurement) : m.gateEnd = m.startedAt + 2 ^ m.gateExponent := by
  rw [Measurement.gateEnd, Measurement.gateCycles, Nat.mul_div_cancel_left _ (by decide)]

/-- The state after the verdict of the measurement that has ended, before the next one starts. -/
def State.verdictTaken (f : State) (m : Measurement) (v : Verdict) (n now : Nat) : State :=
  if m.audit then f.takeAudit m.syn v (some n) now else f.takeVerdict m.syn v (some n)

theorem exec_gateClose (current : s.fc.current = some m) (counted : m.spoiled = false) :
    let v := judgeCount count m.expected m.tolerance
    let n := min count 2097151
    let u := s.advanceTo ((m.gateEnd + 9) / 10)
    let now := if s.time.steps ≤ (m.gateEnd + 9) / 10 then m.gateEnd else 10 * s.time.steps
    exec (.gateClose ⟨m.number, count⟩) s =
      .next (((u.counterFreed m v (some n)).verdictTaken m v n now).restarts now) := by
  intro v n u now
  have closing : s.closingOf m = now := by rw [State.closingOf, ceilDiv_eq _ rfl]
  have boundary : ceilDiv m.gateEnd 10 = (m.gateEnd + 9) / 10 := ceilDiv_eq _ rfl
  change execGateClose _ s = _
  simp only [execGateClose, current, counted, ne_eq, not_true_eq_false, Bool.false_eq_true, or_false, if_false,
    endMeasurement_eq, closing, boundary]
  rfl

theorem verdictTaken_frame (f : State) (m : Measurement) (v : Verdict) (n now : Nat) :
    ProtFrame f (f.verdictTaken m v n now) := by
  unfold State.verdictTaken
  split
  · exact takeAudit_frame ..
  · exact takeVerdict_frame ..

/-- The verdicts that touch neither the counter nor the reference. -/
theorem verdictTaken_fc {v : Verdict}
    (plain : (m.audit = true ∧ v = .within) ∨ (m.audit = false ∧ v.fails ∧ (f.synth m.syn).attempts < f.limits.attempts) ∨
      (m.audit = false ∧ (v = .within ∨ v.fails) ∧ ∃ r, m.syn = .rx r)) (now : Nat) :
    (f.verdictTaken m v n now).fc = f.fc := by
  rw [State.verdictTaken]
  rcases plain with ⟨audit, rfl⟩ | ⟨own, fails, left⟩ | ⟨own, verdict, r, syn⟩
  · rw [if_pos audit, takeAudit_within]
    rfl
  · rw [own, if_neg Bool.false_ne_true, takeVerdict_retries fails left]
    rfl
  · rw [own, if_neg Bool.false_ne_true, syn]
    rcases verdict with rfl | fails
    · rw [takeVerdict_within]
      exact (decideLanes_frame ..).fc
    · by_cases left : (f.synth (.rx r)).attempts < f.limits.attempts
      · rw [takeVerdict_retries fails left]
        rfl
      · rw [takeVerdict_failed fails (not_lt.mp left)]
        exact (congrArg State.fc (failureTold_announces ..).same :)

theorem verdictTaken_last (f : State) (m : Measurement) {v : Verdict} (n now : Nat) (judged : v = .within ∨ v.fails) :
    (f.verdictTaken m v n now).fc.last = f.fc.last := by
  unfold State.verdictTaken
  split
  · exact takeAudit_last f m.syn n now judged
  · exact takeVerdict_last f m.syn n judged

theorem judged_cases (count expected tolerance : Nat) :
    judgeCount count expected tolerance = .within ∨ (judgeCount count expected tolerance).fails := by
  by_cases within : expected ≤ count + tolerance ∧ count ≤ expected + tolerance
  · exact .inl (judgeCount_within within)
  · exact .inr (judgeCount_fails within)

theorem expiryFrom_eq (now ms : Nat) : expiryFrom now ms = some ((now + ms + 9) / 10) := by
  rw [expiryFrom, ceilDiv_eq _ rfl]

/-- Settles O45. -/
theorem gateCloseJudged : Obligations.GateCloseJudged := by
  intro s m count sound current closing boundary now u x n closed restart within v verified failed unlocked goesOff
  refine ⟨fun k other => ?_, fun spoiled => ?_, fun counted => ?_⟩
  · change execGateClose _ s = _
    simp only [execGateClose, current, if_pos (Or.inl (Ne.symm other) : m.number ≠ k ∨ m.spoiled = true)]
  · change execGateClose _ s = _
    simp only [execGateClose, current, if_pos (Or.inr spoiled : m.number ≠ m.number ∨ m.spoiled = true)]
  · have time : TimeFrame s u := advanceTo_frame ..
    let f := u.counterFreed m v (some n)
    have freed : Freed m.syn s f := counterFreed_freed time sound current v (some n)
    have judged : v = judgeCount count m.expected m.tolerance := rfl
    have exec_eq : closed = .next ((f.verdictTaken m v n now).restarts now) := by
      have eq := exec_gateClose (count := count) current counted
      rw [gateEnd_eq] at eq
      exact eq
    have judge : v = .within ∨ v.fails := judged_cases ..
    have found (h : within) : v = .within := judgeCount_within h
    have fails (h : ¬within) : v.fails := judgeCount_fails h
    have asAudit (audit : m.audit = true) : f.verdictTaken m v n now = f.takeAudit m.syn v (some n) now := if_pos audit
    have alone (own : m.audit = false) : f.verdictTaken m v n now = f.takeVerdict m.syn v (some n) :=
      if_neg (by rw [own]; nofun)
    have timer : f.auditTimer = restart := by
      rw [State.auditTimer, freed.limits]
      rfl
    have retry : f.afterSeconds f.limits.retryHold = some (u.time.steps + 100 * s.limits.retryHold) := by
      rw [freed.limits]
      rfl
    have context : f.synth m.syn = x := freed.synth_eq m.syn
    have attempts : (f.synth m.syn).attempts < f.limits.attempts ↔ x.attempts < s.limits.attempts := by
      rw [context, freed.limits]
    refine ⟨_, exec_eq, endMeasurement_frame .., (restarts_last ..).trans (verdictTaken_last f m n now judge),
      restarts_dated _ now, fun q rest head present plain => ?_, fun r own inside syn => ?_, fun y own inside syn level => ?_,
      fun own outside left => ?_, fun own outside used => ?_, fun audit inside => ?_, fun r audit outside syn => ?_,
      fun y audit outside syn => ?_⟩
    · have fc : (f.verdictTaken m v n now).fc = f.fc := by
        refine verdictTaken_fc ?_ now
        rcases plain with ⟨audit, inside⟩ | ⟨own, outside, left⟩ | ⟨own, receive⟩
        · exact .inl ⟨audit, found inside⟩
        · exact .inr (.inl ⟨own, fails outside, attempts.mpr left⟩)
        · exact .inr (.inr ⟨own, judge, receive⟩)
      have start := restarts_head now (s := f.verdictTaken m v n now) (by rw [fc]; exact freed.free) ?_
        (by rw [fc]; exact freed.queue.trans head)
      · rw [fc, freed.started] at start
        exact start
      · rw [(verdictTaken_frame f m v n now).ref, freed.ref]
        exact present
    · rw [alone own, found inside]
      have trying := freed.trying sound current own
      rw [syn] at freed trying context ⊢
      obtain ⟨synth, ⟨pu, os, probe⟩, current, drawing, others, ramps⟩ := (takeVerdict_receive freed trying (n := n) now).2
      refine ⟨synth.trans ?_, pu, os, probe, fun k e slot => ⟨current k, drawing k e slot, others k e slot⟩, ramps⟩
      rw [timer, ← freed.synth_eq, context]
      rfl
    · rw [alone own, found inside]
      have trying := freed.trying sound current own
      rw [syn] at freed trying context ⊢
      obtain ⟨synth, protection, tuned, unwanted⟩ := takeVerdict_transmit freed trying (level y) (n := n) now
      have wanted : x.wanted = (s.synth (.tx y)).wanted := by rw [← freed.synth_eq, context]
      have verified_eq : (s.synth (.tx y)).found f.auditTimer n = verified := by
        rw [timer, ← freed.synth_eq, context]
        rfl
      rw [verified_eq] at synth
      refine ⟨fun other => ⟨synth (.inl other), protection other⟩, fun running on lo some => ?_, fun running off state => ?_⟩
      · obtain ⟨tuning, waits, settled, muted⟩ := tuned running on (wanted.symm.trans lo) (wanted ▸ some)
        have verified := synth (.inr (.inl on))
        exact ⟨fun h => ⟨verified, tuning h⟩, fun h k => ⟨verified, waits h k⟩, fun h k => ⟨verified, settled h k⟩, muted⟩
      · obtain ⟨handedOver, retune, next⟩ := unwanted running off state
        exact ⟨fun lo => synth (.inr (.inr (wanted.symm.trans lo))), handedOver, retune, next⟩
    · rw [alone own, takeVerdict_retries (fails outside) (attempts.mpr left), context]
      obtain ⟨pu, os, synth⟩ := setSynth_restarts freed.absent (x.recorded v n).programming now
      exact ⟨pu.trans freed.pu, os.trans freed.os, synth⟩
    · rw [alone own]
      obtain ⟨told, probation, receive, transmit⟩ := takeVerdict_gives_up (n := n) freed (fails outside)
        (not_lt.mp fun left => absurd (attempts.mp left) (not_lt.mpr used)) now
      rw [retry] at receive transmit
      refine ⟨told, probation, receive, fun y syn => ?_⟩
      obtain ⟨failed, goes⟩ := transmit y syn
      have handed : s.LoHanded y ↔ x.wanted = s.pe.active.tuningLo y := by
        rw [State.LoHanded, ← syn]
      rw [handed] at failed
      refine ⟨failed, fun running _ on => ?_⟩
      obtain ⟨tuning, settle, muted, discharges⟩ := goes running on
      exact ⟨tuning, fun state lo => settle state (handed.mpr lo), muted, discharges⟩
    · rw [asAudit audit, found inside, takeAudit_within, context, timer]
      obtain ⟨pu, os, synth⟩ := setSynth_restarts freed.absent (x.passed restart n) now
      exact ⟨pu.trans freed.pu, os.trans freed.os, synth⟩
    · rw [asAudit audit]
      rw [syn] at freed context ⊢
      obtain ⟨synth, muted, spared, probe⟩ := takeAudit_receive (n := n) freed (fails outside) now
      refine ⟨synth.trans ?_, fun k e slot => ⟨muted k e slot, spared k e slot⟩, probe⟩
      rw [expiryFrom_eq, ← freed.synth_eq, context]
      rfl
    · rw [asAudit audit]
      rw [syn] at freed context ⊢
      obtain ⟨lost, goes, airborne⟩ := takeAudit_transmit (n := n) freed (fails outside) now
      have handed : s.LoHanded y ↔ x.wanted = s.pe.active.tuningLo y := by
        rw [State.LoHanded, ← freed.synth_eq, context]
      have unlocked_eq : (s.synth (.tx y)).unlocked v n (expiryFrom now s.limits.settle) = unlocked := by
        rw [expiryFrom_eq, ← freed.synth_eq, context]
        rfl
      rw [handed, unlocked_eq] at lost
      refine ⟨lost, fun running _ on => ?_, airborne⟩
      obtain ⟨tuning, settle, muted, discharges⟩ := goes running on
      exact ⟨tuning, fun state lo => settle state (handed.mpr lo), muted, discharges⟩

end GateClose

end Sys2Proof.Machine
end

section
/-! PROOFS. What a wanted LO leaves of the lanes, and a part that is parked: its chains off, at level 3. -/

namespace Sys2Proof.Machine

/-! ## What a wanted LO leaves of the lanes (R72, R97) -/

section Wordless
variable {c : Chain} {n : Slot}

/-- A lane but for its words. -/
def Lane.wordless (l : Lane) : Lane := { l with primaryWord := none, fallbackWord := none, transmitWord := none }

theorem refreshWords_wordless (s : State) (c : Chain) (n : Slot) :
    ((s.refreshWords c).lane n).wordless = (s.lane n).wordless := by
  rw [refreshWords_lane]
  cases slot : (s.lane n).slot with
  | none => rw [refreshed_absent c slot]
  | some e => rw [refreshed_present c slot]; rfl

theorem withdrawSynth_lane (s : State) (c : Chain) (n : Slot) : (s.withdrawSynth c).lane n = s.lane n := by
  rw [State.lane, withdrawSynth_lanes]
  rfl

theorem startMeasurement_lane (s : State) (n : Slot) : s.startMeasurement.lane n = s.lane n := by
  rw [State.lane, startMeasurement_lanes]
  rfl

theorem goIdle_wordless (s : State) (c : Chain) (n : Slot) : ((s.goIdle c).lane n).wordless = (s.lane n).wordless := by
  rw [goIdle_eq, withdrawSynth_lane, refreshWords_wordless]
  rfl

theorem takeWanted_wordless (s : State) (c : Chain) (lo : Option Nat) (n : Slot) :
    ((s.takeWanted c lo).lane n).wordless = (s.lane n).wordless := by
  unfold State.takeWanted
  split
  · rfl
  cases lo with
  | some l =>
    change ((s.takeLo c l).lane n).wordless = _
    rcases takeLo_cases s c l with ⟨-, eq⟩ | ⟨-, eq⟩ | ⟨-, -, eq⟩ <;> rw [eq]
    · dsimp only
      split <;> rfl
    · split <;> rfl
    · rw [startMeasurement_lane, withdrawSynth_lane]
      rfl
  | none =>
    change ((s.takeNone c).lane n).wordless = _
    rcases takeNone_cases s c with ⟨-, eq⟩ | ⟨-, eq⟩ | ⟨-, -, eq⟩ <;> rw [eq]
    · rfl
    · split <;> rfl
    · rw [startMeasurement_lane, goIdle_wordless]
      rfl

/-- A receive synthesizer hands over no condition (R83). -/
theorem takeWanted_receive_pu (s : State) (r : Rx) (lo : Option Nat) : (s.takeWanted (.rx r) lo).pu = s.pu := by
  unfold State.takeWanted
  split
  · rfl
  cases lo with
  | some l =>
    change (s.takeLo (.rx r) l).pu = _
    rcases takeLo_cases s (.rx r) l with ⟨-, eq⟩ | ⟨-, eq⟩ | ⟨-, -, eq⟩ <;> rw [eq]
    · dsimp only
      split <;> rfl
    · split <;> rfl
    · rw [startMeasurement_pu]
      rfl
  | none =>
    change (s.takeNone (.rx r)).pu = _
    rcases takeNone_cases s (.rx r) with ⟨-, eq⟩ | ⟨-, eq⟩ | ⟨-, -, eq⟩ <;> rw [eq]
    · rfl
    · split <;> rfl
    · rw [startMeasurement_pu, goIdle_eq]
      exact (refreshWords_frame ..).1.pu

end Wordless

/-! ## A part that is parked: its chains off, at level 3 (R137, R151) -/

section Parked
variable {s t u : State} {x : Tx} {n : Slot}

structure Parked (s : State) : Prop where
  seq : ∀ x, (s.seq x).state = .off ∨ (s.seq x).state = .lockedOut ∧ (s.protection x).lockedOut = true
  level : ∀ x, (s.protection x).level = 3
  target : ∀ n, (s.lane n).target = 0

/-- Every present lane is held, and silent. -/
def State.AllHeld (s : State) : Prop :=
  ∀ n e, (s.lane n).slot = some e → (s.lane n).state = .held ∧ (s.lane n).current = 0

/-- What a step of start-up keeps of a parked part. -/
structure Parks (s t : State) : Prop where
  parked : Parked t
  store : t.store = s.store
  mixer : ∀ x, t.mixer x = s.mixer x
  inputs : ∀ n, { t.input n with windowVoid := true } = { s.input n with windowVoid := true }
  slots : ∀ n, (t.lane n).slot = (s.lane n).slot
  fixed : ∀ x, (t.seq x).fixed = (s.seq x).fixed
  lockedOut : ∀ x, (t.protection x).lockedOut = (s.protection x).lockedOut
  held : s.AllHeld → t.AllHeld

theorem Parks.refl (h : Parked s) : Parks s s :=
  ⟨h, rfl, fun _ => rfl, fun _ => rfl, fun _ => rfl, fun _ => rfl, fun _ => rfl, id⟩

theorem Parks.trans (a : Parks s t) (b : Parks t u) : Parks s u :=
  ⟨b.parked, b.store.trans a.store, fun x => (b.mixer x).trans (a.mixer x), fun n => (b.inputs n).trans (a.inputs n),
    fun n => (b.slots n).trans (a.slots n), fun x => (b.fixed x).trans (a.fixed x),
    fun x => (b.lockedOut x).trans (a.lockedOut x), b.held ∘ a.held⟩

theorem Parks.input (h : Parks s t) (n : Slot) :
    (t.input n).inputState = (s.input n).inputState ∧ (t.input n).source = (s.input n).source :=
  ⟨(congrArg InputRecord.inputState (h.inputs n) :), (congrArg InputRecord.source (h.inputs n) :)⟩

theorem foldl_parks {α : Type} {f : State → α → State} (step : ∀ s a, Parked s → Parks s (f s a)) (l : List α)
    (h : Parked s) : Parks s (l.foldl f s) := by
  induction l generalizing s with
  | nil => exact .refl h
  | cons a l ih => exact (step s a h).trans (ih (step s a h).parked)

theorem Parked.quiet (h : Parked s) (x : Tx) : (s.seq x).state.live = false ∧ (s.seq x).state.carriesLanes = false := by
  rcases h.seq x with off | ⟨locked, -⟩
  · rw [off]
    exact ⟨rfl, rfl⟩
  · rw [locked]
    exact ⟨rfl, rfl⟩

theorem Parked.targetOf (h : Parked s) (n : Slot) (st : LaneState) : s.targetOf n st = 0 := by
  cases slot : (s.lane n).slot with
  | none => exact targetOf_absent slot st
  | some e =>
    have idle := h.seq e.outputChain
    refine targetOf_quiet ((laneOn_iff ..).mpr ⟨e, slot, rfl⟩) ?_ ?_ st
    all_goals rcases idle with off | ⟨off, -⟩ <;> rw [off] <;> nofun

theorem Parked.laneStateOf (h : Parked s) {e : SlotEntry} (slot : (s.lane n).slot = some e) : s.laneStateOf n = .held :=
  laneStateOf_held slot (.inl (h.quiet e.outputChain).2)

/-- Parked chains and lanes that keep their state and shares. -/
theorem Parks.of_kept (h : Parked s) (os : t.os = s.os) (store : t.store = s.store) (mixers : t.mixers = s.mixers)
    (inputs : t.inputs = s.inputs) (lanes : ∀ n, (t.lane n).wordless = (s.lane n).wordless)
    (level : ∀ x, (t.protection x).level = 3)
    (lockedOut : ∀ x, (t.protection x).lockedOut = (s.protection x).lockedOut) : Parks s t := by
  have seq (x : Tx) : t.seq x = s.seq x := by rw [State.seq, os]; rfl
  have slots (n : Slot) : (t.lane n).slot = (s.lane n).slot := (congrArg Lane.slot (lanes n) :)
  refine ⟨⟨fun x => ?_, level, fun n => ?_⟩, store, fun x => ?_, fun n => ?_, slots, fun x => ?_, lockedOut,
    fun all n e slot => ?_⟩
  · rw [seq, lockedOut]
    exact h.seq x
  · exact (congrArg Lane.target (lanes n) :).trans (h.target n)
  · rw [State.mixer, mixers]
    rfl
  · rw [State.input, inputs]
    rfl
  · rw [seq]
  · obtain ⟨held, zero⟩ := all n e ((slots n).symm.trans slot)
    exact ⟨(congrArg Lane.state (lanes n) :).trans held, (congrArg Lane.current (lanes n) :).trans zero⟩

theorem decideLanes_parks (h : Parked s) (ns : List Slot) : Parks s (s.decideLanes ns) ∧
    ((∀ n, n ∈ ns) → (∀ n e, (s.lane n).slot = some e → (s.lane n).current = 0) → (s.decideLanes ns).AllHeld) := by
  have reads : Reads s (s.decideLanes ns) := decideLanes_reads ..
  have seq (x : Tx) := reads.toLaneFrame.untouched.seq_eq x
  have protection (x : Tx) := reads.toLaneFrame.untouched.protection_eq x
  have target (n : Slot) : (s.redecided ns n).target = 0 := by
    unfold State.redecided
    split
    · exact h.targetOf n _
    · exact h.target n
  have still (x : Tx) : ¬s.Retargets ns x := fun ⟨n, _, _, moved⟩ => moved ((target n).trans (h.target n).symm)
  have state {n : Slot} {e : SlotEntry} (mem : n ∈ ns) (slot : (s.lane n).slot = some e) :
      ((s.decideLanes ns).lane n).state = .held := by
    rw [decideLanes_state, State.redecided, if_pos mem]
    exact h.laneStateOf slot
  refine ⟨⟨⟨fun x => ?_, fun x => ?_, fun n => ?_⟩, reads.store, fun x => (decideLanes_no_ramp (still x)).1, reads.inputs,
    reads.slots, fun x => by rw [seq], fun x => by rw [protection], fun all n e slot => ?_⟩, fun mem zero n e slot => ?_⟩
  · rw [seq, protection]
    exact h.seq x
  · rw [protection]
    exact h.level x
  · rw [decideLanes_target]
    exact target n
  · rw [reads.slots] at slot
    obtain ⟨held, zero⟩ := all n e slot
    refine ⟨?_, (decideLanes_current ..).trans zero⟩
    by_cases mem : n ∈ ns
    · exact state mem slot
    · rw [decideLanes_state, State.redecided, if_neg mem]
      exact held
  · rw [reads.slots] at slot
    exact ⟨state (mem n) slot, (decideLanes_current ..).trans (zero n e slot)⟩

theorem takeWanted_parks (h : Parked s) (c : Chain) (lo : Option Nat) : Parks s (s.takeWanted c lo) := by
  have frame := takeWanted_frame s c lo
  have calm (x : Tx) : ((s.takeWanted c lo).protection x).level = (s.protection x).level ∧
      ((s.takeWanted c lo).protection x).lockedOut = (s.protection x).lockedOut := by
    cases c with
    | rx r =>
      rw [State.protection, takeWanted_receive_pu]
      exact ⟨rfl, rfl⟩
    | tx y =>
      by_cases own : x = y
      · subst own
        obtain ⟨level, -, locked⟩ := (takeWanted_withdraws s x lo).calm (.inl (h.level x))
        exact ⟨level, locked⟩
      · rw [(takeWanted_local s y lo).protection x own]
        exact ⟨rfl, rfl⟩
  exact .of_kept h frame.os frame.store frame.mixers frame.inputs (takeWanted_wordless s c lo)
    (fun x => (calm x).1.trans (h.level x)) fun x => (calm x).2

theorem setSeq_parks (h : Parked s) {q : Sequencer} (fixed : q.fixed = (s.seq x).fixed)
    (state : q.state = (s.seq x).state ∨ q.state = .lockedOut ∧ (s.protection x).lockedOut = true) :
    Parks s (s.setSeq x q) := by
  have seq (y : Tx) : (s.setSeq x q).seq y = if y = x then q else s.seq y := setSeq_seq ..
  refine ⟨⟨fun y => ?_, h.level, h.target⟩, rfl, fun _ => rfl, fun _ => rfl, fun _ => rfl, fun y => ?_, fun _ => rfl, id⟩
  · rw [seq]
    split
    · next own =>
      subst own
      rcases state with same | locked
      · rw [same]
        exact h.seq y
      · exact .inr locked
    · exact h.seq y
  · rw [seq]
    split
    · next own => rw [fixed, own]
    · rfl

theorem notifyBoth_parks (h : Parked s) (k : Notice) : Parks s (s.notifyBoth k) :=
  .of_kept h rfl rfl rfl rfl (fun _ => rfl) h.level fun _ => rfl

theorem handOver_parks (h : Parked s) (x : Tx) : Parks s (s.handOver x) := by
  have first : Parks s (s.setSeq x { s.seq x with handedOver := s.pe.active.tuningLo x, retunePending := false }) :=
    setSeq_parks h rfl (.inl rfl)
  exact first.trans (takeWanted_parks first.parked _ _)

theorem moveSeq_parks (h : Parked s) (locked : (s.protection x).lockedOut = true) : Parks s (s.moveSeq x .lockedOut) := by
  have written : s.entered x .lockedOut = s.written x .lockedOut := by
    rcases entered_cases s x .lockedOut with ⟨live, -, -⟩ | ⟨-, eq⟩
    · rw [(h.quiet x).1] at live
      cases live
    · exact eq
  have first : Parks s (s.written x .lockedOut) := by
    have wrote : Parks s (s.setSeq x (s.enterSeq x .lockedOut)) := setSeq_parks h rfl (.inr ⟨rfl, locked⟩)
    exact wrote.trans (notifyBoth_parks wrote.parked _)
  rw [moveSeq_eq, written]
  exact first.trans (decideLanes_parks first.parked _).1

theorem Parked.unwanted (h : Parked s) (x : Tx) : s.wantedOn x = false := unwanted_of_level (h.level x)

/-- The state a parked sequencer has. -/
def State.parkedState (s : State) (x : Tx) : SeqState := if (s.protection x).lockedOut = true then .lockedOut else .off

/-- A parked sequencer that stands as it is to stand decides nothing. -/
theorem decideSeq_parked (h : Parked s) (state : (s.seq x).state = s.parkedState x) : s.decideSeq x = s := by
  refine decideSeq_stop ?_
  cases locked : (s.protection x).lockedOut with
  | true =>
    rw [State.parkedState, if_pos locked] at state
    rw [nextSeq_lockedOut state, locked]
    rfl
  | false =>
    rw [State.parkedState, if_neg (by rw [locked]; nofun)] at state
    rw [nextSeq_off state, locked, h.unwanted]
    rfl

theorem Parked.state (h : Parked s) (free : (s.protection x).lockedOut = false) : (s.seq x).state = .off :=
  (h.seq x).resolve_right fun ⟨_, locked⟩ => by rw [free] at locked; cases locked

theorem decideSeq_parks (h : Parked s) (x : Tx) : Parks s (s.decideSeq x) := by
  have settle (fuel : Nat) {s : State} (h : Parked s) : Parks s (State.settleSeq fuel s x) := by
    induction fuel generalizing s with
    | zero => exact .refl h
    | succ fuel ih =>
      cases next : s.nextSeq x with
      | none => rw [settleSeq_stop _ next]; exact .refl h
      | some st =>
        have locked : st = .lockedOut ∧ (s.protection x).lockedOut = true := by
          rcases h.seq x with off | ⟨state, locked⟩
          · rw [nextSeq_off off, h.unwanted] at next
            split at next
            · next locked => cases next; exact ⟨rfl, locked⟩
            · cases next
          · rw [nextSeq_lockedOut state, if_pos locked] at next
            cases next
        have moved := moveSeq_parks h locked.2
        rw [settleSeq_next _ next, locked.1]
        exact moved.trans (ih moved.parked)
  unfold State.decideSeq
  split
  · exact settle 4 h
  · exact .refl h

theorem leftVerified_parks (h : Parked s) (r : Rx) : Parks s (s.leftVerified (.rx r)) := by
  obtain ⟨-, -, inputs, mixers, -⟩ := mutedFrom_same s r
  have frame : LaneFrame s ((s.lanesFrom r).foldl State.fastMute s) := foldl_related .refl .trans fastMute_frame _ s
  have same : s.mutedFrom r = { (s.lanesFrom r).foldl State.fastMute s with probe := (s.mutedFrom r).probe } :=
    (soilProbe_probe ..).1
  have lane (n : Slot) := mutedFrom_lane s r n
  have seq (x : Tx) : (s.mutedFrom r).seq x = s.seq x := by rw [same]; exact frame.untouched.seq_eq x
  have protection (x : Tx) : (s.mutedFrom r).protection x = s.protection x := by
    rw [same]
    exact frame.untouched.protection_eq x
  have slots (n : Slot) : ((s.mutedFrom r).lane n).slot = (s.lane n).slot := by
    rw [lane]
    split <;> rfl
  have first : Parks s (s.mutedFrom r) := by
    refine ⟨⟨fun x => ?_, fun x => ?_, fun n => ?_⟩, ?_, fun x => ?_, fun n => ?_, slots, fun x => by rw [seq],
      fun x => by rw [protection], fun all n e slot => ?_⟩
    · rw [seq, protection]
      exact h.seq x
    · rw [protection]
      exact h.level x
    · rw [lane]
      split
      · rfl
      · exact h.target n
    · rw [same]
      exact frame.store
    · rw [State.mixer, mixers]
      rfl
    · rw [State.input, inputs]
      rfl
    · obtain ⟨held, zero⟩ := all n e ((slots n).symm.trans slot)
      rw [lane]
      split
      · exact ⟨held, rfl⟩
      · exact ⟨held, zero⟩
  rw [leftVerified_eq]
  have second := first.trans (decideLanes_parks first.parked (s.lanesFrom r)).1
  exact second.trans (foldl_parks (fun _ x k => decideSeq_parks k x) allTx second.parked)

theorem takeRxLo_parks (h : Parked s) (r : Rx) : Parks s (s.takeRxLo r) := by
  have taken := takeWanted_parks h (.rx r) (s.pe.active.rx.get r)
  unfold State.takeRxLo
  dsimp only
  split
  · exact taken.trans (leftVerified_parks taken.parked r)
  · exact taken

/-- A step of start-up that reaches no sequencer and no wanted LO. -/
structure Stands (s t : State) : Prop extends Parks s t where
  os : t.os = s.os
  wanted : ∀ c, (t.synth c).wanted = (s.synth c).wanted

theorem Stands.refl (h : Parked s) : Stands s s := ⟨.refl h, rfl, fun _ => rfl⟩

theorem Stands.trans (a : Stands s t) (b : Stands t u) : Stands s u :=
  ⟨a.toParks.trans b.toParks, b.os.trans a.os, fun c => (b.wanted c).trans (a.wanted c)⟩

theorem foldl_stands {α : Type} {f : State → α → State} (step : ∀ s a, Parked s → Stands s (f s a)) (l : List α)
    (h : Parked s) : Stands s (l.foldl f s) := by
  induction l generalizing s with
  | nil => exact .refl h
  | cons a l ih => exact (step s a h).trans (ih (step s a h).parked)

theorem Stands.of_same (h : Parked s)
    (same : t = { s with pe := t.pe, ref := t.ref, fc := t.fc, syn := t.syn, pu := t.pu, ports := t.ports })
    (wanted : ∀ c, (t.synth c).wanted = (s.synth c).wanted)
    (protection : ∀ x, (t.protection x).level = 3 ∧ (t.protection x).lockedOut = (s.protection x).lockedOut) :
    Stands s t := by
  refine ⟨.of_kept h ?_ ?_ ?_ ?_ (fun n => ?_) (fun x => (protection x).1) fun x => (protection x).2, ?_, wanted⟩
  all_goals rw [same]
  all_goals rfl

theorem Stands.of_pu (h : Parked s) (same : t = { s with pe := t.pe, ref := t.ref, fc := t.fc, ports := t.ports }) :
    Stands s t := by
  refine .of_same h ?_ (fun c => ?_) fun x => ?_
  all_goals rw [same]
  · rfl
  · exact ⟨h.level x, rfl⟩

theorem protect_stands (h : Parked s) (x : Tx) : Stands s (s.protect x) := by
  have calm : highestSeverity s.severities s.pu.device (s.protection x).present ≤ (s.protection x).level := by
    rw [h.level]
    exact Fin.le_last _
  obtain ⟨level, -, locked⟩ := ChainProtection.decide_calm calm s.limits s.time.steps s.time.seconds
  have protection (y : Tx) : (s.decideProtection x).protection y = if y = x then s.judged x else s.protection y :=
    decideProtection_protection ..
  rw [protect_calm calm]
  refine .of_same h rfl (fun _ => rfl) fun y => ?_
  rw [protection]
  split
  · next own => exact ⟨level.trans (h.level x), own ▸ locked⟩
  · exact ⟨h.level y, rfl⟩

theorem setDevice_stands (h : Parked s) (d : DeviceConditions) : Stands s (s.setDevice d) := by
  unfold State.setDevice
  split
  · exact .refl h
  · have first : Stands s { s with pu := { s.pu with device := d } } :=
      .of_same h rfl (fun _ => rfl) fun x => ⟨h.level x, rfl⟩
    exact first.trans (foldl_stands (fun _ x k => protect_stands k x) allTx first.parked)

theorem startMeasurement_stands (h : Parked s) : Stands s s.startMeasurement := by
  have pu := startMeasurement_pu s
  have protection (x : Tx) : s.startMeasurement.protection x = s.protection x := by
    rw [State.protection, pu]
    rfl
  refine .of_same h ?_ (startMeasurement_sameLo s).wanted fun x => by rw [protection]; exact ⟨h.level x, rfl⟩
  rcases startMeasurement_cases s with eq | ⟨q, rest, -, -, -, eq⟩
  · rw [eq]
  · rw [eq]
    split <;> rfl

theorem setReference_stands (h : Parked s) (st : RefState) : Stands s (s.setReference st) := by
  unfold State.setReference
  dsimp only
  have first : Stands s (if st = .absent then (({ s with ref := s.enterReference st } : State).notifyBoth
      .referenceChanged).spoilMeasurement else ({ s with ref := s.enterReference st } : State).notifyBoth
      .referenceChanged) := by
    split <;> exact .of_pu h rfl
  generalize (if st = .absent then _ else _ : State) = v at first ⊢
  have second := first.trans (setDevice_stands first.parked (v.pu.device.ofReference st))
  split
  · exact second.trans (startMeasurement_stands second.parked)
  · exact second

theorem applyReference_stands (h : Parked s) (p : Plan) : Stands s (s.applyReference p) := by
  have refOnly (r : RefMonitor) : Stands s { s with ref := r } := .of_pu h rfl
  unfold State.applyReference
  dsimp only
  split
  · split
    · exact .refl h
    · split
      · exact setReference_stands h _
      · exact refOnly _
  · split
    · exact .refl h
    · split
      · exact refOnly _
      · split
        · exact setReference_stands h _
        · exact refOnly _
  all_goals exact .refl h

theorem applySynths_stands (h : Parked s) (p : Plan) : Stands s (s.applySynths p) := by
  refine foldl_stands (fun s c h => ?_) allChains h
  have setOnly (audit : Timer) : Stands s (s.setSynth c { s.synth c with audit := audit }) := by
    refine .of_same h rfl (fun d => ?_) fun x => ⟨h.level x, rfl⟩
    rw [State.synth_setSynth]
    split
    · next own => rw [own]
    · rfl
  unfold State.applyAudit
  dsimp only
  split
  · exact .refl h
  · split
    · exact setOnly _
    · split
      · exact setOnly _
      · exact .refl h

theorem applyPorts_stands (h : Parked s) : Stands s s.applyPorts := .of_pu h rfl

theorem applyProtection_stands (h : Parked s) (p : Plan) : Stands s (s.applyProtection p) := by
  have cut : Stands s (allTx.foldl (fun s x => s.setProtection x ((s.protection x).cut s.limits)) s) := by
    refine foldl_stands (fun s x h => ?_) allTx h
    have protection (y : Tx) : (s.setProtection x ((s.protection x).cut s.limits)).protection y =
        if y = x then (s.protection x).cut s.limits else s.protection y := State.protection_setProtection ..
    refine .of_same h rfl (fun _ => rfl) fun y => ?_
    rw [protection]
    split
    · next own => rw [own]; exact ⟨h.level x, rfl⟩
    · exact ⟨h.level y, rfl⟩
  unfold State.applyProtection
  dsimp only
  split
  · exact cut
  · exact cut.trans (foldl_stands (fun _ x k => protect_stands k x) allTx cut.parked)

end Parked

end Sys2Proof.Machine
end

section
/-! PROOFS. Steps that each reach an item of their own, and what the blocks take from the loaded plan. -/

namespace Sys2Proof.Machine

/-! ## Steps that each reach an item of their own -/

section Own
variable {ι α : Type} {f : State → ι → State} {proj : State → ι → α} {P : State → Prop}

/-- A fold of steps, each on an item of its own: every item comes out as its own step makes it. -/
theorem foldl_own {s : State} {l : List ι} (nodup : l.Nodup) {old new : ι → α} (kept : ∀ s i, P s → P (f s i))
    (own : ∀ s i, P s → proj s i = old i → proj (f s i) i = new i)
    (other : ∀ s i j, P s → j ≠ i → proj (f s i) j = proj s j) (start : P s) (before : ∀ i ∈ l, proj s i = old i) :
    ∀ i ∈ l, proj (l.foldl f s) i = new i := by
  have stays {s : State} {l : List ι} (start : P s) {j : ι} (out : j ∉ l) : proj (l.foldl f s) j = proj s j := by
    induction l generalizing s with
    | nil => rfl
    | cons i l ih =>
      rw [List.mem_cons, not_or] at out
      obtain ⟨apart, out⟩ := out
      exact (ih (kept s i start) out).trans (other s i j start apart)
  induction l generalizing s with
  | nil => exact nofun
  | cons i l ih =>
    obtain ⟨fresh, nodup⟩ := List.nodup_cons.mp nodup
    intro j mem
    rcases List.mem_cons.mp mem with rfl | later
    · exact (stays (kept s j start) fresh).trans (own s j start (before j (.head _)))
    · refine ih nodup (kept s i start) (fun k mem => ?_) j later
      exact (other s i k start fun eq => fresh (eq ▸ mem)).trans (before k (.tail _ mem))

theorem allTx_nodup : allTx.Nodup := by decide

end Own

/-! ## What the blocks take from the loaded plan (R162) -/

section StartUp
variable {s t : State} {x : Tx} {n : Slot}

/-- The fields that a sequencer takes from the active plan (R132). -/
def State.fieldsTaken (s : State) (x : Tx) : Sequencer :=
  { s.seq x with
    driveSettle := (s.pe.active.tx.get x).driveSettle
    paDischarge := (s.pe.active.tx.get x).paDischarge
    retunePending :=
      if (s.seq x).state.live then s.pe.active.tuningLo x != (s.synth (.tx x)).wanted else (s.seq x).retunePending }

theorem takeSeqFields_seq (s : State) (y x : Tx) :
    (s.takeSeqFields y).seq x = if x = y then s.fieldsTaken y else s.seq x := setSeq_seq ..

theorem takeAllSeqFields_same (s : State) :
    allTx.foldl State.takeSeqFields s = { s with os := (allTx.foldl State.takeSeqFields s).os } :=
  foldl_related (R := fun s t : State => t = { s with os := t.os }) (fun _ => rfl)
    (fun a b => b.trans (by rw [a])) (fun _ _ => rfl) allTx s

theorem takeAllSeqFields_seq (s : State) (x : Tx) : (allTx.foldl State.takeSeqFields s).seq x = s.fieldsTaken x := by
  refine foldl_own (f := State.takeSeqFields) (proj := State.seq) (P := fun t => t.pe = s.pe ∧ t.syn = s.syn) (old := s.seq) (new := s.fieldsTaken)
    allTx_nodup (fun t y same => same) (fun t y same before => ?_) (fun t y z _ apart => ?_) ⟨rfl, rfl⟩
    (fun _ _ => rfl) x (mem_allTx x)
  · rw [takeSeqFields_seq, if_pos rfl, State.fieldsTaken, State.fieldsTaken, before, State.synth, same.1, same.2]
    rfl
  · rw [takeSeqFields_seq, if_neg apart]

theorem startMixers_mixer (s : State) (x : Tx) : (allTx.foldl State.startMixer s).mixer x =
    { s.mixer x with rampUnit := (s.pe.active.tx.get x).rampUnit } := by
  have mixer (t : State) (y z : Tx) : (t.startMixer y).mixer z =
      if z = y then { t.mixer y with rampUnit := (t.pe.active.tx.get y).rampUnit } else t.mixer z :=
    State.mixer_setMixer ..
  refine foldl_own (f := State.startMixer) (proj := State.mixer) (P := fun t => t.pe = s.pe) (old := s.mixer)
    (new := fun x => { s.mixer x with rampUnit := (s.pe.active.tx.get x).rampUnit })
    allTx_nodup (fun t y same => same) (fun t y same before => ?_) (fun t y z _ apart => ?_) rfl
    (fun _ _ => rfl) x (mem_allTx x)
  · rw [mixer, if_pos rfl, before, same]
  · rw [mixer, if_neg apart]

theorem wordFor_congr (pe : t.pe = s.pe) (syn : t.syn = s.syn) (c : Chain) (f : Nat) (old : Option Word) :
    t.wordFor c f old = s.wordFor c f old := by
  have synth : t.synth c = s.synth c := by rw [State.synth, syn]; rfl
  have fresh : t.wordsCurrent c = s.wordsCurrent c := by rw [State.wordsCurrent, State.wordsCurrent, synth, pe]
  rw [State.wordFor, State.wordFor, synth, fresh]

theorem newWords_congr (pe : t.pe = s.pe) (syn : t.syn = s.syn) (e : SlotEntry) (l : Lane) :
    t.newWords e l = s.newWords e l := by
  simp only [State.newWords, wordFor_congr pe syn]

/-- The lane and the input record of a slot that the loaded plan makes present. -/
def State.slotStarted (s : State) (n : Slot) (x : Lane × InputRecord) : Lane × InputRecord :=
  match s.pe.active.slots.get n with
  | none => x
  | some e => (s.newWords e { Lane.reset with slot := some e }, .fresh)

theorem startSlots_started (s : State) (n : Slot) :
    ((allSlots.foldl State.startSlot s).lane n, (allSlots.foldl State.startSlot s).input n) =
      s.slotStarted n (s.lane n, s.input n) := by
  refine foldl_own (f := State.startSlot) (proj := fun t n => (t.lane n, t.input n)) (P := LaneFrame s) (old := fun n => (s.lane n, s.input n))
    (new := fun n => s.slotStarted n (s.lane n, s.input n)) allSlots_nodup
    (fun t m same => same.trans (startSlot_frame t m)) (fun t m same before => ?_) (fun t m k _ apart => ?_) (.refl s)
    (fun _ _ => rfl) n (mem_allSlots n)
  · rw [State.startSlot, State.slotStarted, same.pe]
    cases slot : s.pe.active.slots.get m with
    | none => exact before
    | some e =>
      refine Prod.ext ?_ (State.input_setInput_same ..)
      exact (State.lane_setLane_same ..).trans (newWords_congr same.pe same.syn ..)
  · unfold State.startSlot
    split
    · rfl
    · refine Prod.ext ?_ ((State.input_setInput ..).trans (if_neg apart))
      exact (State.lane_setLane ..).trans (if_neg apart)

/-! ### The sequencers -/

theorem startSeq_other (s : State) {x y : Tx} (apart : x ≠ y) : (s.startSeq y).seq x = s.seq x := by
  have rest (u : State) : ((u.handOver y).decideSeq y).seq x = u.seq x :=
    ((decideSeq_local _ y).seq x apart).trans ((handOver_local u y).seq x apart)
  unfold State.startSeq
  dsimp only
  split
  · exact (rest _).trans ((moveSeq_local s y _).seq x apart)
  · exact rest s

theorem startSeq_local (s : State) (y : Tx) : Local y s (s.startSeq y) := by
  have rest (u : State) : Local y u ((u.handOver y).decideSeq y) := (handOver_local u y).trans (decideSeq_local _ y)
  unfold State.startSeq
  dsimp only
  split
  · exact (moveSeq_local s y _).trans (rest _)
  · exact rest s

/-- A parked sequencer starts as the lockout set has it, with its tuning LO handed over. -/
theorem startSeq_started (h : Parked s) (x : Tx) : Parks s (s.startSeq x) ∧
    ((s.startSeq x).seq x).state = s.parkedState x ∧ ((s.startSeq x).seq x).handedOver = s.pe.active.tuningLo x := by
  have moved {m : State} (h : Parked m) (state : (m.seq x).state = m.parkedState x) :
      Parks m ((m.handOver x).decideSeq x) ∧ (((m.handOver x).decideSeq x).seq x).state = m.parkedState x ∧
        (((m.handOver x).decideSeq x).seq x).handedOver = m.pe.active.tuningLo x := by
    have handed := handOver_parks h x
    have seq := handOver_seq m x x
    rw [if_pos rfl] at seq
    have state' : ((m.handOver x).seq x).state = (m.handOver x).parkedState x := by
      rw [State.parkedState, handed.lockedOut, seq]
      exact state
    rw [decideSeq_parked handed.parked state', seq]
    exact ⟨handed, state, rfl⟩
  unfold State.startSeq
  dsimp only
  split
  · next locked =>
    have first := moveSeq_parks h locked
    have locked' : ((s.moveSeq x .lockedOut).protection x).lockedOut = true := (first.lockedOut x).trans locked
    obtain ⟨parks, state, handedOver⟩ := moved first.parked
      (((moveSeq_seq_state s x _).1).trans (if_pos locked').symm)
    refine ⟨first.trans parks, state.trans ?_, handedOver.trans ?_⟩
    · rw [State.parkedState, State.parkedState, first.lockedOut]
    · rw [(moveSeq_local s x _).active]
  · next free => exact moved h ((h.state (Bool.not_eq_true _ ▸ free)).trans (if_neg free).symm)

theorem startSeqs_parks (h : Parked s) : Parks s (allTx.foldl State.startSeq s) :=
  foldl_parks (fun _ x k => (startSeq_started k x).1) allTx h

theorem startSeqs_seq (h : Parked s) (x : Tx) : let q := (allTx.foldl State.startSeq s).seq x
    q.state = s.parkedState x ∧ q.handedOver = s.pe.active.tuningLo x := by
  have each := foldl_own (f := State.startSeq) (proj := fun t x => ((t.seq x).state, (t.seq x).handedOver))
    (P := fun t => Parks s t ∧ t.pe.active = s.pe.active) (s := s)
    (old := fun x => ((s.seq x).state, (s.seq x).handedOver)) (new := fun x => (s.parkedState x, s.pe.active.tuningLo x))
    allTx_nodup (fun t y same => ?_) (fun t y same _ => ?_) (fun t y z _ apart => ?_) ⟨.refl h, rfl⟩ (fun _ _ => rfl) x (mem_allTx x)
  · exact Prod.ext_iff.mp each
  · exact ⟨same.1.trans (startSeq_started same.1.parked y).1, (startSeq_local t y).active.trans same.2⟩
  · obtain ⟨-, state, handedOver⟩ := startSeq_started same.1.parked y
    refine Prod.ext (state.trans ?_) (handedOver.trans ?_)
    · rw [State.parkedState, State.parkedState, same.1.lockedOut]
    · rw [same.2]
  · rw [startSeq_other t apart]

/-! ### The receive LOs -/

/-- No receive synthesizer is given another LO. -/
def SameReceive (s t : State) : Prop := ∀ r, (t.synth (.rx r)).wanted = (s.synth (.rx r)).wanted

theorem SameReceive.refl (s : State) : SameReceive s s := fun _ => rfl

theorem SameReceive.trans {u : State} (a : SameReceive s t) (b : SameReceive t u) : SameReceive s u :=
  fun r => (b r).trans (a r)

theorem Local.sameReceive {y : Tx} (h : Local y s t) : SameReceive s t := fun r => by
  rcases h.synth (.rx r) nofun with same | ⟨-, same⟩ <;> rw [same]

theorem SameReceive.of_syn (same : t.syn = s.syn) : SameReceive s t := fun r => by
  rw [State.synth, same]
  rfl

theorem decideAllSeq_receive (s : State) : SameReceive s s.decideAllSeq :=
  foldl_related .refl .trans (fun s y => (decideSeq_local s y).sameReceive) allTx s

theorem leftVerified_receive_wanted (s : State) (r : Rx) : SameReceive s (s.leftVerified (.rx r)) := by
  rw [leftVerified_eq]
  exact (SameReceive.of_syn ((decideLanes_frame ..).syn.trans (mutedFrom_same s r).1)).trans (decideAllSeq_receive _)

theorem takeRxLo_wanted (s : State) (r q : Rx) : ((s.takeRxLo r).synth (.rx q)).wanted =
    if q = r then s.pe.active.rx.get r else (s.synth (.rx q)).wanted := by
  have gives := (takeWanted_takesLo s (.rx r) (s.pe.active.rx.get r)).gives
  have taken : ((s.takeWanted (.rx r) (s.pe.active.rx.get r)).synth (.rx q)).wanted =
      if q = r then s.pe.active.rx.get r else (s.synth (.rx q)).wanted := by
    split
    · next own => exact own ▸ gives.own
    · next apart => exact gives.others (.rx q) (by simpa using apart)
  unfold State.takeRxLo
  dsimp only
  split
  · exact (leftVerified_receive_wanted _ r q).trans taken
  · exact taken

theorem takeRxLos_wanted (s : State) (r : Rx) :
    ((((s.takeRxLo .rx0).takeRxLo .rx1).synth (.rx r)).wanted) = s.pe.active.rx.get r := by
  rw [takeRxLo_wanted]
  cases r with
  | rx0 => exact (if_neg nofun).trans ((takeRxLo_wanted s .rx0 .rx0).trans (if_pos rfl))
  | rx1 => rw [if_pos rfl, (takeRxLo_frame s .rx0).pe]

end StartUp

end Sys2Proof.Machine
end

section
/-! PROOFS. Start-up selection (O60). -/

namespace Sys2Proof.Machine

/-! ## Start-up selection (O60) -/

section Selected
variable {s u : State} {x : Tx} {n : Slot}

theorem loadLockouts_eq (s : State) (v : PerTx Bool) : s.loadLockouts v =
    { s with pu := (s.loadLockouts v).pu, ports := (s.loadLockouts v).ports } := by
  have load : allTx.foldl (fun s t => s.loadLockout v t) s =
      { s with pu := (allTx.foldl (fun s t => s.loadLockout v t) s).pu } :=
    foldl_related (f := fun s t => s.loadLockout v t) (R := fun s t : State => t = { s with pu := t.pu }) (fun _ => rfl)
      (fun a b => b.trans (by rw [a])) (fun _ _ => rfl) allTx s
  unfold State.loadLockouts
  dsimp only
  generalize allTx.foldl (fun s t => s.loadLockout v t) s = w at load ⊢
  rw [load]
  split <;> rfl

theorem loaded_same (s : State) : s.loaded = { s.loadPlan with pu := s.loaded.pu, ports := s.loaded.ports } :=
  loadLockouts_eq ..

theorem loaded_protection (s : State) (x : Tx) :
    s.loaded.protection x = { s.protection x with lockedOut := s.store.startLockout.get x } := by
  obtain ⟨-, -, -, -, -, protection⟩ := loadLockouts_same s.loadPlan s.store.startLockout
  exact protection x

/-- What lanes, mixers and sequencers have taken from the loaded plan. -/
structure LanesStarted (s t : State) : Prop where
  parked : Parked t
  held : t.AllHeld
  store : t.store = s.store
  mixer : ∀ x, t.mixer x = { s.mixer x with rampUnit := (s.pe.active.tx.get x).rampUnit }
  fields : ∀ x, (t.seq x).driveSettle = (s.pe.active.tx.get x).driveSettle ∧
    (t.seq x).paDischarge = (s.pe.active.tx.get x).paDischarge
  lockedOut : ∀ x, (t.protection x).lockedOut = (s.protection x).lockedOut
  input : ∀ n e, s.pe.active.slots.get n = some e → (t.input n).inputState = some .livePrimary ∧ (t.input n).source = .primary

theorem startLanes_started (h : Parked s) (blank : ∀ n, (s.lane n).slot = none) : LanesStarted s s.startLanes := by
  let a := allTx.foldl State.takeSeqFields s
  let b := allSlots.foldl State.startSlot a
  let m := allTx.foldl State.startMixer b
  have taken : a = { s with os := a.os } := takeAllSeqFields_same s
  have seqA (x : Tx) : a.seq x = s.fieldsTaken x := takeAllSeqFields_seq s x
  have peA : a.pe = s.pe := by rw [taken]
  have laneA (n : Slot) : a.lane n = s.lane n := by rw [taken]; rfl
  have mixerA (x : Tx) : a.mixer x = s.mixer x := by rw [taken]; rfl
  have protectionA (x : Tx) : a.protection x = s.protection x := by rw [taken]; rfl
  have storeA : a.store = s.store := by rw [taken]
  have frameB : LaneFrame a b := startSlots_frame a
  have startedB (n : Slot) := startSlots_started a n
  have mixersB : b.mixers = a.mixers :=
    foldl_related (f := State.startSlot) (R := fun s t : State => t.mixers = s.mixers) (fun _ => rfl)
      (fun a b => b.trans a) (fun s n => by unfold State.startSlot; split <;> rfl) allSlots a
  have keptM : LaneKeeps b m := startMixers_laneKeeps b
  have lanesM : m.lanes = b.lanes ∧ m.inputs = b.inputs :=
    foldl_related (f := State.startMixer) (R := fun s t : State => t.lanes = s.lanes ∧ t.inputs = s.inputs)
      (fun _ => ⟨rfl, rfl⟩) (fun a b => ⟨b.1.trans a.1, b.2.trans a.2⟩) (fun _ _ => ⟨rfl, rfl⟩) allTx b
  have seqM (x : Tx) : m.seq x = s.fieldsTaken x :=
    (keptM.untouched.seq_eq x).trans ((frameB.untouched.seq_eq x).trans (seqA x))
  have protectionM (x : Tx) : m.protection x = s.protection x :=
    (keptM.untouched.protection_eq x).trans ((frameB.untouched.protection_eq x).trans (protectionA x))
  have laneM (n : Slot) : m.lane n = b.lane n := by rw [State.lane, lanesM.1]; rfl
  have silent (n : Slot) : (m.lane n).target = 0 ∧ ∀ e, (m.lane n).slot = some e → (m.lane n).current = 0 := by
    have lane := congrArg Prod.fst (startedB n)
    rw [laneM]
    change b.lane n = _ at lane
    rw [lane, State.slotStarted]
    split
    · rw [laneA, blank]
      exact ⟨h.target n, nofun⟩
    · exact ⟨rfl, fun _ _ => rfl⟩
  have parked : Parked m := by
    refine ⟨fun x => ?_, fun x => ?_, fun n => (silent n).1⟩
    · rw [seqM, protectionM]
      exact h.seq x
    · rw [protectionM]
      exact h.level x
  obtain ⟨parks, held⟩ := decideLanes_parks parked allSlots
  have mixer (x : Tx) : m.mixer x = { s.mixer x with rampUnit := (s.pe.active.tx.get x).rampUnit } := by
    rw [show m.mixer x = _ from startMixers_mixer b x, State.mixer, mixersB, frameB.pe, peA]
    exact congrArg (fun r : Mixer => { r with rampUnit := (s.pe.active.tx.get x).rampUnit }) (mixerA x)
  refine ⟨parks.parked, held mem_allSlots fun n => (silent n).2, ?_, fun x => (parks.mixer x).trans (mixer x), fun x => ?_,
    fun x => (parks.lockedOut x).trans (by rw [protectionM]), fun n e slot => ?_⟩
  · exact parks.store.trans (keptM.store.trans (frameB.store.trans storeA))
  · have fixed := parks.fixed x
    rw [seqM] at fixed
    simp only [Sequencer.fixed, Prod.mk.injEq] at fixed
    exact fixed.2.2
  · have input : m.input n = .fresh := by
      rw [State.input, lanesM.2]
      have started := congrArg Prod.snd (startedB n)
      rw [State.slotStarted, peA, slot] at started
      exact started
    obtain ⟨state, source⟩ := parks.input n
    rw [input] at state source
    exact ⟨state, source⟩

/-- What start-up selection leaves of a part that was parked. -/
theorem startUp_parks (h : Parked s.loaded) (blank : ∀ n, (s.loaded.lane n).slot = none) :
    let lanes := s.loaded.startLanes
    Parks lanes s.startUp ∧
      (∀ x, (s.startUp.seq x).state = s.loaded.parkedState x ∧
        (s.startUp.seq x).handedOver = s.loaded.pe.active.tuningLo x) ∧
      (∀ r, (s.startUp.synth (.rx r)).wanted = s.loaded.pe.active.rx.get r) ∧
      ∀ p, (s.startUp.port p).linkSilence = s.startUp.limits.linkSilence := by
  intro lanes
  have started : LanesStarted s.loaded lanes := startLanes_started h blank
  have eq : s.startUp = (lanes.applyProtection s.pe.active).startRest s.pe.active := startUp_eq s
  have keeps : KeepsChains s.loaded lanes := startLanes_keepsChains s.loaded
  generalize lanes = d at *
  let p := s.pe.active
  let e := d.applyProtection p
  let f := (e.takeRxLo .rx0).takeRxLo .rx1
  let g := allTx.foldl State.startSeq f
  let i := (g.applySynths p).applyReference p
  have eq : s.startUp = i.applyPorts := eq
  have toE : Stands d e := applyProtection_stands started.parked p
  have toE' : Parks e (e.takeRxLo .rx0) := takeRxLo_parks toE.parked _
  have toF : Parks e f := toE'.trans (takeRxLo_parks toE'.parked _)
  have toG : Parks f g := startSeqs_parks toF.parked
  have toI : Stands g i := (applySynths_stands toG.parked p).trans
    (applyReference_stands (applySynths_stands toG.parked p).parked p)
  have toT : Stands g i.applyPorts := toI.trans (applyPorts_stands toI.parked)
  have activeE : e.pe.active = s.loaded.pe.active := (applyProtection_keeps d p).active.trans keeps.active
  have activeF : f.pe.active = s.loaded.pe.active := (congrArg PlanEngine.active (takeRxLos_frame e).pe).trans activeE
  have locked (x : Tx) : (f.protection x).lockedOut = (s.loaded.protection x).lockedOut :=
    (toF.lockedOut x).trans ((toE.lockedOut x).trans (started.lockedOut x))
  rw [eq]
  refine ⟨((toE.toParks.trans toF).trans toG).trans toT.toParks, fun x => ?_, fun r => ?_, fun q => ?_⟩
  · have seq : i.applyPorts.seq x = g.seq x := by rw [State.seq, toT.os]; rfl
    obtain ⟨state, handedOver⟩ := startSeqs_seq toF.parked x
    rw [seq]
    refine ⟨state.trans ?_, handedOver.trans (by rw [activeF])⟩
    rw [State.parkedState, State.parkedState, locked]
  · have fold : SameReceive f g := foldl_related .refl .trans (fun s y => (startSeq_local s y).sameReceive) allTx f
    exact (toT.wanted (.rx r)).trans ((fold r).trans ((takeRxLos_wanted e r).trans (by rw [activeE])))
  · cases q <;> rfl

theorem startPlan_eq (x : PlanStore) : x.startPlan =
    if x.records.site.status = .valid then { storedPlan x.records.site.image with origin := .storeSite }
    else if x.records.dflt.status = .valid then { storedPlan x.records.dflt.image with origin := .storeDefault }
    else Plan.empty := by
  unfold PlanStore.startPlan
  cases x.records.site.status <;> cases x.records.dflt.status <;> rfl

theorem startOrigin_eq (x : PlanStore) : x.startOrigin = x.startPlan.origin := by
  unfold PlanStore.startOrigin PlanStore.startPlan
  cases x.records.site.status <;> cases x.records.dflt.status <;> rfl

theorem startLockout_eq (x : PlanStore) : x.startLockout =
    if x.records.site.status = .valid then storedLockout x.records.site.image else ⟨false, false, false, false⟩ := by
  unfold PlanStore.startLockout
  cases x.records.site.status <;> rfl

theorem validIssue_eq (r : StoredRecord) :
    r.validIssue = if r.status = .valid then (storedPlan r.image).issue else 0 := by
  unfold StoredRecord.validIssue
  cases r.status <;> rfl

theorem exec_startUpSelection {d : Nat} (phase : s.phase = .startDelay) (delay : s.time.startDelay = some d) :
    exec .startUpSelection s = .next (s.advanceTo d).startUp := by
  change execStartUpSelection s = _
  simp only [execStartUpSelection, phase, delay]

/-- Settles O60. -/
theorem startUpLoadsPlan : Obligations.StartUpLoadsPlan := by
  refine ⟨⟨rfl, rfl, fun r => by cases r <;> rfl, fun n => Vector.getElem_replicate .., fun x => by cases x <;> rfl, rfl, rfl⟩,
    fun s d phase delay lanes off silent => ?_⟩
  intro site dflt plan lockout issue
  let u := s.advanceTo d
  have time : TimeFrame s u := advanceTo_frame s d
  obtain ⟨slots, idle⟩ := lanes
  obtain ⟨-, settled, absent⟩ := idle (by rw [phase]; nofun)
  have active : u.loaded.pe.active = plan := by
    rw [loaded_same]
    change u.store.startPlan = _
    rw [time.store]
    exact startPlan_eq s.store
  have protection (x : Tx) : u.loaded.protection x = { s.protection x with lockedOut := lockout.get x } := by
    rw [loaded_protection, time.store, startLockout_eq, time.untouched.protection_eq]
  have seq (x : Tx) : u.loaded.seq x = s.seq x := by
    rw [loaded_same]
    exact time.untouched.seq_eq x
  have lane (n : Slot) : u.loaded.lane n = s.lane n := by
    rw [loaded_same]
    exact time.lane_eq n
  have mixer (x : Tx) : u.loaded.mixer x = s.mixer x := by
    rw [loaded_same]
    exact time.mixer_eq x
  have parked : Parked u.loaded := by
    refine ⟨fun x => .inl ?_, fun x => ?_, fun n => ?_⟩
    · rw [seq]
      exact (off x).1
    · rw [protection]
      exact (off x).2
    · rw [lane]
      exact silent n
  have blank (n : Slot) : (u.loaded.lane n).slot = none := by
    rw [lane, slots]
    exact absent n
  obtain ⟨parks, chains, receive, ports⟩ := startUp_parks parked blank
  have started := startLanes_started parked blank
  have frame : RefFrame u.loadPlan u.startUp := startUp_frame u
  have pe : u.startUp.pe = { s.pe with active := plan, lastIssued := max (issue site) (issue dflt) } := by
    rw [frame.pe.resolve_right fun ⟨on, _⟩ => ?_]
    · change ({ u.pe with active := u.store.startPlan, lastIssued := u.store.startIssue } : PlanEngine) = _
      rw [time.pe, time.store, startPlan_eq, PlanStore.startIssue, validIssue_eq, validIssue_eq]
    · change u.pe.status = _ at on
      rw [time.pe, settled] at on
      cases on
  have limits : u.startUp.limits = plan.limits := by rw [State.limits, pe]
  have store : u.startUp.store = { s.store with startSource := plan.origin } := by
    rw [parks.store, started.store, loaded_same]
    change ({ u.store with startSource := u.store.startOrigin } : PlanStore) = _
    rw [time.store, startOrigin_eq, startPlan_eq]
  have locked (x : Tx) : (u.startUp.protection x).lockedOut = lockout.get x := by
    rw [parks.lockedOut, started.lockedOut, protection]
  refine ⟨_, exec_startUpSelection phase delay, frame.phase, by rw [frame.time]; rfl, pe, by rw [store], by rw [store],
    frame.supply.trans time.supply, frame.pending.trans time.pending, by rw [store], fun x => ⟨locked x, ?_⟩, fun n => ?_,
    fun n e slot => ?_, fun r l given => ?_, fun p => ?_⟩
  · obtain ⟨state, handedOver⟩ := chains x
    have fixed := parks.fixed x
    simp only [Sequencer.fixed, Prod.mk.injEq] at fixed
    obtain ⟨-, -, driveSettle, paDischarge⟩ := fixed
    obtain ⟨driveSettle', paDischarge'⟩ := started.fields x
    rw [active] at driveSettle' paDischarge' handedOver
    refine ⟨state.trans ?_, handedOver, driveSettle.trans driveSettle', paDischarge.trans paDischarge', ?_⟩
    · rw [State.parkedState, protection]
    · rw [parks.mixer, started.mixer, active, mixer]
  · rw [parks.slots, startLanes_slots blank, active]
  · have slot' : (u.startUp.lane n).slot = some e := by
      rw [parks.slots, startLanes_slots blank, active]
      exact slot
    obtain ⟨held, zero⟩ := parks.held started.held n e slot'
    obtain ⟨input, source⟩ := started.input n e (by rw [active]; exact slot)
    obtain ⟨input', source'⟩ := parks.input n
    exact ⟨held, zero, input'.trans input, source'.trans source⟩
  · rw [receive, active]
    exact given
  · rw [ports, limits]

end Selected

end Sys2Proof.Machine
end

section
/-! PROOFS. What every step of a hand-over keeps, the hand-over keeps; the plans, the ramp units, the delays and the
SITE write across it (R49, R50). -/

namespace Sys2Proof.Machine

/-! ## What holds of the steps of a hand-over holds of the hand-over (R49) -/

section Steps
variable {R : State → State → Prop}

/-- A relation that every step of a change of the reference state keeps. -/
structure ReferenceSteps (R : State → State → Prop) : Prop where
  refl : ∀ s, R s s
  trans : ∀ {s t u}, R s t → R t u → R s u
  ref : ∀ s r, R s { s with ref := r }
  notify : ∀ s n, R s (s.notifyBoth n)
  ports : ∀ s, R s s.applyPorts
  spoil : ∀ s, R s s.spoilMeasurement
  device : ∀ s d, R s { s with pu := { s.pu with device := d } }
  start : ∀ s, R s s.startMeasurement
  protect : ∀ s x, R s (s.protect x)

theorem ReferenceSteps.setDevice (h : ReferenceSteps R) (s : State) (d : DeviceConditions) : R s (s.setDevice d) := by
  unfold State.setDevice
  split
  · exact h.refl s
  · exact h.trans (h.device s d) (foldl_related (R := R) h.refl h.trans h.protect allTx _)

theorem ReferenceSteps.setReference (h : ReferenceSteps R) (s : State) (st : RefState) : R s (s.setReference st) := by
  unfold State.setReference
  dsimp only
  have first : R s (if st = .absent then (({ s with ref := s.enterReference st } : State).notifyBoth
      .referenceChanged).spoilMeasurement else ({ s with ref := s.enterReference st } : State).notifyBoth
      .referenceChanged) := by
    have entered : R s (({ s with ref := s.enterReference st } : State).notifyBoth .referenceChanged) :=
      h.trans (h.ref s _) (h.notify _ _)
    split
    · exact h.trans entered (h.spoil _)
    · exact entered
  generalize (if st = .absent then _ else _ : State) = v at first ⊢
  have second : R s (v.setDevice (v.pu.device.ofReference st)) := h.trans first (h.setDevice v _)
  split
  · exact h.trans second (h.start _)
  · exact second

theorem ReferenceSteps.applyReference (h : ReferenceSteps R) (s : State) (p : Plan) : R s (s.applyReference p) := by
  unfold State.applyReference
  dsimp only
  split
  · split
    · exact h.refl s
    · split
      · exact h.setReference s _
      · exact h.ref s _
  · split
    · exact h.refl s
    · split
      · exact h.ref s _
      · split
        · exact h.setReference s _
        · exact h.ref s _
  all_goals exact h.refl s

/-- And every step in which synthesizers take their LOs and sequencers decide. -/
structure SeqSteps (R : State → State → Prop) : Prop extends ReferenceSteps R where
  receive : ∀ s r, R s (s.takeRxLo r)
  hand : ∀ s x, (s.seq x).state.live = false → R s (s.handOver x)
  decide : ∀ s x, R s (s.decideSeq x)

/-- And every step of the rest of a hand-over. -/
structure HandSteps (R : State → State → Prop) : Prop extends SeqSteps R where
  audit : ∀ s c a, R s (s.setSynth c { s.synth c with audit := a })

/-- Every trip list cut to the new limit (R148). -/
def State.cutAll (s : State) : State :=
  allTx.foldl (fun s x => s.setProtection x ((s.protection x).cut s.limits)) s

/-- S of every chain decided again, where a severity has changed (R148). -/
def State.severitiesTaken (s : State) (p : Plan) : State :=
  if p.severities = s.severities then s else allTx.foldl State.protect s

theorem applyProtection_eq (s : State) (p : Plan) : s.applyProtection p = s.cutAll.severitiesTaken p := rfl

theorem ReferenceSteps.severitiesTaken (h : ReferenceSteps R) (s : State) (p : Plan) : R s (s.severitiesTaken p) := by
  unfold State.severitiesTaken
  split
  · exact h.refl s
  · exact foldl_related (R := R) h.refl h.trans h.protect allTx s

/-- The steps in which a receive synthesizer takes its LO. -/
theorem takeRxLo_related {s : State} {r : Rx} (trans : ∀ {s t u}, R s t → R t u → R s u) (refl : ∀ s, R s s)
    (wanted : R s (s.takeWanted (.rx r) (s.pe.active.rx.get r)))
    (left : ∀ s, s.isVerified (.rx r) = false → R s ((s.mutedFrom r).decideLanes (s.lanesFrom r)))
    (decide : ∀ s x, R s (s.decideSeq x)) : R s (s.takeRxLo r) := by
  unfold State.takeRxLo
  dsimp only
  split
  · next off =>
    simp only [Bool.and_eq_true, Bool.not_eq_true'] at off
    rw [leftVerified_eq]
    exact trans (trans wanted (left _ off.2)) (foldl_related (R := R) refl trans decide allTx _)
  · exact wanted

theorem SeqSteps.applySeq (h : SeqSteps R) (s : State) (x : Tx) : R s (s.applySeq x) := by
  unfold State.applySeq
  split
  · exact h.decide s x
  · next down => exact h.trans (h.hand s x (Bool.eq_false_iff.mpr down)) (h.decide _ x)

theorem HandSteps.applySynths (h : HandSteps R) (s : State) (p : Plan) : R s (s.applySynths p) := by
  refine foldl_related (f := fun s c => s.applyAudit p.limits.auditInterval s.limits.auditInterval c) (R := R)
    h.refl h.trans (fun s c => ?_) allChains s
  unfold State.applyAudit
  dsimp only
  split
  · exact h.refl s
  · split
    · exact h.audit s c _
    · split
      · exact h.audit s c _
      · exact h.refl s

/-- What an apply hands over once slots and lanes have been taken. -/
def State.handRest (s : State) (p : Plan) : State :=
  (((allTx.foldl State.applySeq (((s.applyProtection p).takeRxLo .rx0).takeRxLo .rx1)).applySynths p).applyReference
    p).applyPorts

theorem handPlan_eq (s : State) (p : Plan) :
    s.handPlan p = ((allTx.foldl State.takeSeqFields s).applySlots p).handRest p := rfl

/-- The part of a hand-over up to the sequencers' decisions. -/
def State.handFirst (s : State) (p : Plan) : State :=
  allTx.foldl State.applySeq (((s.cutAll.severitiesTaken p).takeRxLo .rx0).takeRxLo .rx1)

theorem handRest_eq (s : State) (p : Plan) :
    s.handRest p = (((s.handFirst p).applySynths p).applyReference p).applyPorts := rfl

theorem SeqSteps.handFirst (h : SeqSteps R) (s : State) (p : Plan) : R s.cutAll (s.handFirst p) := by
  have los (v : State) : R v ((v.takeRxLo .rx0).takeRxLo .rx1) := h.trans (h.receive v .rx0) (h.receive _ .rx1)
  exact h.trans (h.trans (h.severitiesTaken s.cutAll p) (los _)) (foldl_related (R := R) h.refl h.trans h.applySeq allTx _)

theorem HandSteps.handRest (h : HandSteps R) (s : State) (p : Plan) : R s.cutAll (s.handRest p) := by
  rw [handRest_eq]
  exact h.trans (h.trans (h.trans (h.handFirst s p) (h.applySynths _ p)) (h.applyReference _ p)) (h.ports _)

theorem cutAll_same (s : State) : s.cutAll = { s with pu := s.cutAll.pu } :=
  foldl_related (f := fun s x => s.setProtection x ((s.protection x).cut s.limits))
    (R := fun s t : State => t = { s with pu := t.pu }) (fun _ => rfl) (fun a b => b.trans (by rw [a])) (fun _ _ => rfl) allTx s

theorem cutAll_frame (s : State) : SynthFrame s s.cutAll := by
  rw [cutAll_same]
  exact ⟨rfl, rfl, rfl, rfl, rfl, rfl, rfl, rfl, rfl, rfl, rfl, rfl, rfl, rfl⟩

theorem cutAll_protection (s : State) (x : Tx) : s.cutAll.protection x = (s.protection x).cut s.limits := by
  refine foldl_own (f := fun s x => s.setProtection x ((s.protection x).cut s.limits)) (proj := State.protection)
    (P := fun t => t.pe = s.pe) (old := s.protection) (new := fun x => (s.protection x).cut s.limits)
    allTx_nodup (fun t y same => same) (fun t y same before => ?_) (fun t y z _ apart => ?_) rfl (fun _ _ => rfl) x (mem_allTx x)
  · rw [State.protection_setProtection_same, before, State.limits, same]
    rfl
  · rw [State.protection_setProtection, if_neg apart]

end Steps

/-! ## Plans, writes, ramp units and delays across a hand-over -/

section Handed
variable {s t u : State} {x : Tx}

/-- `t` has the same active plan, ramp units and delays; a SITE write of the active plan stands. -/
structure KeepsFields (s t : State) : Prop where
  active : t.pe.active = s.pe.active
  units : ∀ x, (t.mixer x).rampUnit = (s.mixer x).rampUnit
  fixed : ∀ x, (t.seq x).fixed = (s.seq x).fixed
  writes : s.Writes .site (fun c => c.plan = s.pe.active) → t.Writes .site (fun c => c.plan = s.pe.active)

theorem KeepsFields.refl (s : State) : KeepsFields s s := ⟨rfl, fun _ => rfl, fun _ => rfl, id⟩

theorem KeepsFields.trans (a : KeepsFields s t) (b : KeepsFields t u) : KeepsFields s u :=
  ⟨b.active.trans a.active, fun x => (b.units x).trans (a.units x), fun x => (b.fixed x).trans (a.fixed x),
    fun w => a.active ▸ b.writes (a.active ▸ a.writes w)⟩

theorem KeepsFields.of_same (pe : t.pe.active = s.pe.active) (mixers : t.mixers = s.mixers) (os : t.os = s.os)
    (store : t.store = s.store) : KeepsFields s t := by
  refine ⟨pe, fun x => ?_, fun x => ?_, Writes.of_store store⟩
  · rw [State.mixer, mixers]
    rfl
  · rw [State.seq, os]
    rfl

theorem KeepsFields.of_local (h : Local x s t) (units : ∀ y, (t.mixer y).rampUnit = (s.mixer y).rampUnit)
    (own : (t.seq x).fixed = (s.seq x).fixed)
    (writes : s.Writes .site (fun c => c.plan = s.pe.active) → t.Writes .site (fun c => c.plan = s.pe.active)) :
    KeepsFields s t := by
  refine ⟨h.active, units, fun y => ?_, writes⟩
  by_cases eq : y = x
  · exact eq ▸ own
  · rw [h.seq y eq]

theorem decideSeq_fields (s : State) (x : Tx) : KeepsFields s (s.decideSeq x) :=
  .of_local (decideSeq_local s x) (decideSeq_moves s x).unit (decideSeq_fixed s x) (Writes.of_store (decideSeq_frame s x).store)

theorem handOver_fields (s : State) (x : Tx) : KeepsFields s (s.handOver x) := by
  refine .of_local (handOver_local s x) (handOver_moves s x).unit ?_ (Writes.of_store (handOver_frame s x).store)
  rw [handOver_seq, if_pos rfl]
  rfl

theorem requestSite_writes_active (s : State) : s.requestSite.Writes .site (fun c => c.plan = s.pe.active) :=
  Writes.imp (requestSite_writes s) fun c eq => by rw [eq]

theorem protect_fields (s : State) (x : Tx) : KeepsFields s (s.protect x) := by
  refine .of_local (protect_local s x) (protect_moves s x).unit (protect_fixed s x) fun writes => ?_
  let d := s.decideProtection x
  have active : d.pe.active = s.pe.active := rfl
  have told (v : State) (b : Bool) (same : v.pe.active = s.pe.active)
      (w : v.Writes .site (fun c => c.plan = s.pe.active)) :
      (v.tellLockout b).Writes .site (fun c => c.plan = s.pe.active) := by
    unfold State.tellLockout
    split
    · exact Writes.of_store (probationFailure_store _) (same ▸ requestSite_writes_active v)
    · exact w
  have first : d.Writes .site (fun c => c.plan = s.pe.active) := Writes.of_store rfl writes
  have frame := tellChange_frame d (State.levelMoved s d x)
  have second := told (d.tellChange (State.levelMoved s d x)) ((s.protection x).lockedOut != (d.protection x).lockedOut)
    (congrArg PlanEngine.active frame.pe) (Writes.of_store frame.store first)
  rw [show s.protect x = (State.announced s d x).tellChain x (State.levelMoved s d x) from handProtection_eq s d x]
  exact Writes.of_store (tellChain_frame ..).store second

theorem takeWanted_fields (s : State) (c : Chain) (lo : Option Nat) : KeepsFields s (s.takeWanted c lo) := by
  have frame := takeWanted_frame s c lo
  exact .of_same (congrArg _ frame.pe) frame.mixers frame.os frame.store

theorem decideLanes_fields (s : State) (ns : List Slot) : KeepsFields s (s.decideLanes ns) := by
  have frame : LaneFrame s (s.decideLanes ns) := decideLanes_frame ..
  exact ⟨congrArg _ frame.pe, (decideLanes_moves s ns).unit, fun x => by rw [frame.untouched.seq_eq], Writes.of_store frame.store⟩

theorem mutedFrom_fields (s : State) (r : Rx) : KeepsFields s (s.mutedFrom r) := by
  have frame : LaneFrame s ((s.lanesFrom r).foldl State.fastMute s) := foldl_related .refl .trans fastMute_frame _ s
  have same : s.mutedFrom r = { (s.lanesFrom r).foldl State.fastMute s with probe := (s.mutedFrom r).probe } :=
    (soilProbe_probe ..).1
  refine .of_same ?_ (mutedFrom_same s r).2.2.2.1 ?_ ?_ <;> rw [same]
  · exact congrArg _ frame.pe
  · exact frame.os
  · exact frame.store

theorem cutAll_fields (s : State) : KeepsFields s s.cutAll := by
  rw [cutAll_same]
  exact .of_same rfl rfl rfl rfl

theorem keepsFields_steps : HandSteps KeepsFields where
  refl := .refl
  trans := .trans
  ref _ _ := .of_same rfl rfl rfl rfl
  notify _ _ := .of_same rfl rfl rfl rfl
  ports _ := .of_same rfl rfl rfl rfl
  spoil _ := .of_same rfl rfl rfl rfl
  device _ _ := .of_same rfl rfl rfl rfl
  start s := by
    have frame := startMeasurement_frame s
    exact .of_same (congrArg _ frame.pe) frame.mixers frame.os frame.store
  protect := protect_fields
  audit _ _ _ := .of_same rfl rfl rfl rfl
  receive s r := takeRxLo_related .trans .refl (takeWanted_fields ..)
    (fun s _ => (mutedFrom_fields s r).trans (decideLanes_fields ..)) decideSeq_fields
  hand s x _ := handOver_fields s x
  decide := decideSeq_fields

end Handed

end Sys2Proof.Machine
end

section
/-! PROOFS. The stages in which an apply takes its slots, lanes and mixers, and what it hands to the ports, the
records and the sequencers' delays (R100, R101, R169). -/

namespace Sys2Proof.Machine

/-! ## The stages of what slots, lanes and mixers take (R100, R101, R119) -/

section Slots
variable {s t u : State} {p : Plan} {x : Tx} {n : Slot}

/-- Nothing but lanes, phases, mixers, input records, the probe and the sequencers has moved. -/
structure PlaceFrame (s t : State) : Prop extends SeqFrame s t where
  syn : t.syn = s.syn
  fc : t.fc = s.fc
  pu : t.pu = s.pu
  ports : t.ports = s.ports

theorem PlaceFrame.trans (a : PlaceFrame s t) (b : PlaceFrame t u) : PlaceFrame s u :=
  ⟨a.toSeqFrame.trans b.toSeqFrame, b.syn.trans a.syn, b.fc.trans a.fc, b.pu.trans a.pu, b.ports.trans a.ports⟩

theorem PlaceFrame.synth_eq (h : PlaceFrame s t) (c : Chain) : t.synth c = s.synth c := by
  rw [State.synth, h.syn]
  rfl

theorem PlaceFrame.protection_eq (h : PlaceFrame s t) (x : Tx) : t.protection x = s.protection x := by
  rw [State.protection, h.pu]
  rfl

/-- Not even the sequencers. -/
structure SlotFrame (s t : State) : Prop extends PlaceFrame s t where
  os : t.os = s.os

theorem SlotFrame.refl (s : State) : SlotFrame s s := ⟨⟨.refl s, rfl, rfl, rfl, rfl⟩, rfl⟩

theorem SlotFrame.trans (a : SlotFrame s t) (b : SlotFrame t u) : SlotFrame s u :=
  ⟨a.toPlaceFrame.trans b.toPlaceFrame, b.os.trans a.os⟩

theorem LaneFrame.slotFrame (h : LaneFrame s t) : SlotFrame s t := ⟨⟨h.toSeq, h.syn, h.fc, h.pu, h.ports⟩, h.os⟩

theorem SlotFrame.seq_eq (h : SlotFrame s t) (x : Tx) : t.seq x = s.seq x := by
  rw [State.seq, h.os]
  rfl

theorem startVisit_slotFrame (s : State) : SlotFrame s s.startVisit := by
  rw [startVisit_eq]
  exact ⟨⟨⟨rfl, rfl, rfl, rfl, rfl, rfl, rfl, rfl⟩, rfl, rfl, rfl, rfl⟩, rfl⟩

theorem abandonVisit_slotFrame (s : State) (n : Slot) : SlotFrame s (s.abandonVisit n) := by
  unfold State.abandonVisit
  split
  · exact ⟨⟨⟨rfl, rfl, rfl, rfl, rfl, rfl, rfl, rfl⟩, rfl, rfl, rfl, rfl⟩, rfl⟩
  · exact .refl s

theorem applyInput_slotFrame (s : State) (n : Slot) (a b : Option SlotEntry) : SlotFrame s (s.applyInput n a b) := by
  have renewed (i : InputRecord) : SlotFrame s ((s.setInput n i).abandonVisit n) :=
    (setInput_frame s n i).slotFrame.trans (abandonVisit_slotFrame ..)
  unfold State.applyInput
  split
  · exact .refl s
  · exact renewed _
  · exact renewed _
  · split
    · exact .refl s
    · exact renewed _

/-- The input records of the new plan's slots (R119). -/
def State.slotInputs (s : State) (p : Plan) : State :=
  allSlots.foldl (fun s n => s.applyInput n (p.slots.get n) (s.pe.active.slots.get n)) s

/-- Their lanes (R100). -/
def State.slotLanes (s : State) (p : Plan) : State := allSlots.foldl (fun s n => s.applyLane p n) s

/-- The lanes, fast-muted where the source is not VERIFIED, and the ramp units (R98, R101). -/
def State.slotsTaken (s : State) (p : Plan) : State :=
  allTx.foldl State.startMixer (allSlots.foldl State.muteUnverified ((s.slotInputs p).slotLanes p))

/-- The windows of the reset records, marked (R110). -/
def State.markReset (s : State) (p : Plan) : State :=
  (allSlots.filter (resetByApply p s.pe.active)).foldl State.markWindow s

/-- Every lane decided, and the windows of the reset records marked (R96, R110). -/
def State.slotsDecided (s : State) (p : Plan) : State := ((s.slotsTaken p).decideLanes allSlots).markReset p

theorem applySlots_eq (s : State) (p : Plan) :
    s.applySlots p = (allTx.foldl State.startRamp (s.slotsDecided p)).startVisit := by
  unfold State.applySlots
  extract_lets inputs lanes muted units decided marked
  have first : inputs = s.slotInputs p := rfl
  have second : lanes = (s.slotInputs p).slotLanes p := congrArg (State.slotLanes · p) first
  clear_value lanes
  subst second
  have third : units = s.slotsTaken p := rfl
  clear_value units
  subst third
  have fourth : marked = decided.markReset p := rfl
  rw [fourth]
  rfl

theorem slotInputs_slotFrame (s : State) (p : Plan) : SlotFrame s (s.slotInputs p) :=
  foldl_related .refl .trans (fun s n => applyInput_slotFrame s n _ _) _ _

theorem slotLanes_frame (s : State) (p : Plan) : LaneFrame s (s.slotLanes p) :=
  foldl_related .refl .trans (fun s n => applyLane_frame s p n) _ _

theorem muteAll_frame (s : State) : LaneFrame s (allSlots.foldl State.muteUnverified s) :=
  foldl_related .refl .trans muteUnverified_frame _ _

theorem takeUnits_frame (s : State) : LaneFrame s (allTx.foldl State.startMixer s) :=
  (startMixers_laneKeeps s).toLaneFrame

theorem slotsTaken_slotFrame (s : State) (p : Plan) : SlotFrame s (s.slotsTaken p) :=
  (((slotInputs_slotFrame s p).trans (slotLanes_frame _ p).slotFrame).trans (muteAll_frame _).slotFrame).trans
    (takeUnits_frame _).slotFrame

theorem markWindows_frame (s : State) (ns : List Slot) : LaneFrame s (ns.foldl State.markWindow s) :=
  foldl_related .refl .trans markWindow_frame _ _

theorem slotsDecided_slotFrame (s : State) (p : Plan) : SlotFrame s (s.slotsDecided p) :=
  ((slotsTaken_slotFrame s p).trans (decideLanes_frame _ allSlots).slotFrame).trans (markWindows_frame ..).slotFrame

theorem startRamps_frame (s : State) : LaneFrame s (allTx.foldl State.startRamp s) :=
  foldl_related .refl .trans startRamp_frame _ _

theorem applySlots_slotFrame (s : State) (p : Plan) : SlotFrame s (s.applySlots p) := by
  rw [applySlots_eq]
  exact ((slotsDecided_slotFrame s p).trans (startRamps_frame _).slotFrame).trans (startVisit_slotFrame _)

/-! ## The mixers -/

theorem slotsDecided_unit (s : State) (p : Plan) (x : Tx) :
    ((s.slotsDecided p).mixer x).rampUnit = (s.pe.active.tx.get x).rampUnit := by
  have before : SlotFrame s (allSlots.foldl State.muteUnverified ((s.slotInputs p).slotLanes p)) :=
    ((slotInputs_slotFrame s p).trans (slotLanes_frame _ p).slotFrame).trans (muteAll_frame _).slotFrame
  have marked (v : State) (ns : List Slot) : (ns.foldl State.markWindow v).mixer x = v.mixer x :=
    foldl_related (f := State.markWindow) (R := fun v w => w.mixer x = v.mixer x) (fun _ => rfl) (fun a b => b.trans a)
      (fun _ _ => rfl) ns v
  have decided := (decideLanes_moves (s.slotsTaken p) allSlots).unit x
  have taken : (s.slotsTaken p).mixer x = _ := startMixers_mixer _ x
  calc ((s.slotsDecided p).mixer x).rampUnit
      = (((s.slotsTaken p).decideLanes allSlots).mixer x).rampUnit := congrArg Mixer.rampUnit (marked _ _)
    _ = ((s.slotsTaken p).mixer x).rampUnit := decided
    _ = (s.pe.active.tx.get x).rampUnit := by rw [taken, before.pe]

/-- Every chain ramps after an apply, with the new ramp unit (R101). -/
theorem applySlots_mixer (s : State) (p : Plan) (x : Tx) : (s.applySlots p).mixer x =
    { rampUnit := (s.pe.active.tx.get x).rampUnit, step := 0
      timer := some (s.time.steps + (s.pe.active.tx.get x).rampUnit) } := by
  have visit (v : State) : v.startVisit.mixer x = v.mixer x := by
    rw [startVisit_eq]
    rfl
  rw [applySlots_eq, visit, (foldl_startRamp allTx _).2.1, if_pos (mem_allTx x), State.restarted, slotsDecided_unit,
    (slotsDecided_slotFrame s p).time]

end Slots

/-! ## What an apply hands to the records, the ports and the sequencers' delays (R49, R50, R169) -/

section Applied
variable {s t : State} {p : Plan}

theorem applyPorts_port (s : State) (q : Port) :
    s.applyPorts.port q = { s.port q with linkSilence := s.limits.linkSilence } := by
  cases q <;> rfl

/-- Notices stay across every step of a hand-over. -/
def KeepsTold (s t : State) : Prop := ∀ q n, s.told q n → t.told q n

theorem keepsTold_steps : HandSteps KeepsTold where
  refl _ _ _ := id
  trans a b q n := b q n ∘ a q n
  ref _ _ _ _ := id
  notify s k := (notifyBoth_heeds s k).told
  ports s q n told := by rwa [State.told, applyPorts_port]
  spoil _ _ _ := id
  device s d := (setPu_tells s _).told
  start s := (startMeasurement_frame s).tells.told
  protect s x := (protect_heeds s x).told
  audit _ _ _ _ _ := id
  receive s r := (takeRxLo_heeds s r).told
  hand s x _ := (handOver_heeds s x).told
  decide s x := (decideSeq_heeds s x).told

theorem handRest_silence (s : State) (p : Plan) (q : Port) :
    ((s.handRest p).port q).linkSilence = (s.handRest p).limits.linkSilence := by
  rw [State.handRest, applyPorts_port]
  rfl

/-- The ramp units, the delays and the link silence times are those of a plan. -/
structure FieldsOf (plan : Plan) (t : State) : Prop where
  units : ∀ x, (t.mixer x).rampUnit = (plan.tx.get x).rampUnit
  delays : ∀ x, (t.seq x).driveSettle = (plan.tx.get x).driveSettle ∧
    (t.seq x).paDischarge = (plan.tx.get x).paDischarge
  silence : ∀ q, (t.port q).linkSilence = plan.limits.linkSilence

/-- The state in which the slots of an apply have been taken, and nothing else. -/
def State.placed (s : State) (p : Plan) : State := (allTx.foldl State.takeSeqFields s).applySlots p

theorem placed_seq (s : State) (p : Plan) (x : Tx) : (s.placed p).seq x = s.fieldsTaken x := by
  rw [State.placed, (applySlots_slotFrame _ p).seq_eq, takeAllSeqFields_seq]

theorem takeAllSeqFields_place (s : State) : PlaceFrame s (allTx.foldl State.takeSeqFields s) := by
  rw [takeAllSeqFields_same]
  exact ⟨⟨rfl, rfl, rfl, rfl, rfl, rfl, rfl, rfl⟩, rfl, rfl, rfl, rfl⟩

theorem placed_frame (s : State) (p : Plan) : PlaceFrame s (s.placed p) :=
  (takeAllSeqFields_place s).trans (applySlots_slotFrame _ p).toPlaceFrame

theorem handPlan_placed (s : State) (p : Plan) : s.handPlan p = (s.placed p).handRest p := handPlan_eq s p

theorem handPlan_fields (s : State) (p : Plan) :
    let t := s.handPlan p
    FieldsOf s.pe.active t ∧ KeepsTold s t ∧
      (s.Writes .site (fun c => c.plan = s.pe.active) → t.Writes .site (fun c => c.plan = s.pe.active)) := by
  have frame := placed_frame s p
  have unit (x : Tx) : ((s.placed p).mixer x).rampUnit = (s.pe.active.tx.get x).rampUnit := by
    rw [State.placed, applySlots_mixer, (takeAllSeqFields_place s).pe]
  have delays (x : Tx) : ((s.placed p).seq x).fixed = ((s.seq x).faultSample, (s.seq x).warningSample,
      (s.pe.active.tx.get x).driveSettle, (s.pe.active.tx.get x).paDischarge) := by
    rw [placed_seq]
    rfl
  have rest : KeepsFields (s.placed p) ((s.placed p).handRest p) :=
    (cutAll_fields (s.placed p)).trans (keepsFields_steps.handRest (s.placed p) p)
  have told : KeepsTold (s.placed p) ((s.placed p).handRest p) := fun q n is =>
    keepsTold_steps.handRest (s.placed p) p q n ((cutAll_frame _).tells.told q n is)
  have silence := handRest_silence (s.placed p) p
  rw [handPlan_placed]
  generalize (s.placed p).handRest p = t at rest told silence
  generalize s.placed p = v at frame unit delays rest told
  have active : t.pe.active = s.pe.active := rest.active.trans (congrArg _ frame.pe)
  refine ⟨⟨fun x => (rest.units x).trans (unit x), fun x => ?_, fun q => ?_⟩, fun q n is => ?_, fun writes => ?_⟩
  rotate_left 3
  · have before : v.Writes .site (fun c => c.plan = v.pe.active) := Writes.of_store frame.store (frame.pe ▸ writes)
    exact frame.pe ▸ rest.writes before
  · have fixed := (rest.fixed x).trans (delays x)
    simp only [Sequencer.fixed, Prod.mk.injEq] at fixed
    exact fixed.2.2
  · rw [silence q, State.limits, active]
  · exact told q n (by rwa [State.told, State.port, frame.ports])

/-- An apply, whatever its kind: the notice, the SITE write and the hand-over (R49, R50). -/
theorem applied_hands (s : State) (p : Plan) (n : Notice) :
    let t := s.applied p n
    FieldsOf s.pe.active t ∧ (∀ q, t.told q n) ∧ t.Writes .site (fun c => c.plan = s.pe.active) ∧
      ((∀ k, (s.lane k).slot = p.slots.get k) → ∀ k, (t.lane k).slot = s.pe.active.slots.get k) := by
  intro t
  let w := (s.notifyBoth n).requestSite
  have frame : ProtFrame s w := (notifyBoth_frame s n).toProt.trans (requestWrite_frame ..)
  have keeps : Keeps s w := (notifyBoth_keeps s n).trans (requestWrite_keeps ..)
  have heeds : Heeds s w := (notifyBoth_heeds s n).trans (requestWrite_heeds ..)
  have named (q : Port) : w.told q n := (requestWrite_heeds ..).told q n (notifyBoth_told s n q)
  have site : w.Writes .site (fun c => c.plan = s.pe.active) := requestSite_writes_active (s.notifyBoth n)
  have slots := (handPlan_sound (s := w) (p := p)).2.2
  obtain ⟨fields, told, writes⟩ := handPlan_fields w p
  have active := keeps.active
  change FieldsOf w.pe.active t at fields
  change KeepsTold w t at told
  change _ → ∀ k, (t.lane k).slot = _ at slots
  change _ → t.Writes .site _ at writes
  clear_value t w
  rw [active] at fields writes slots
  exact ⟨fields, fun q => told q n (named q), writes site, fun old => slots fun m => (keeps.slots m).trans (old m)⟩

end Applied

end Sys2Proof.Machine
end

section
/-! PROOFS. The records of a REVERT-kind apply (O35). -/

namespace Sys2Proof.Machine

/-! ## The records of an apply (R45 to R51) -/

section Applies
variable {s u : State}

/-- The state of a mark, the Plan Engine as an apply makes it: what the apply hands to the blocks. -/
def State.replanned (u : State) (e : PlanEngine) : State := { u.marked with pe := e }

theorem exec_commit {c : Instr} {p : PendingApply} {plan : Plan} (mark : MakesMark c s u)
    (pending : s.pe.pendingApply = some p) (change : p.change = .commit plan) :
    exec c s = .next ((u.replanned (s.pe.commitApply p plan u.time.steps (s.time.seconds + 1))).applied s.pe.active
      .planApplied) := by
  obtain ⟨run, frame⟩ := exec_of_makesMark mark
  rw [run, mark_commit (frame.pe ▸ pending) change, frame.pe, frame.seconds]
  rfl

theorem exec_revert {c : Instr} {p : PendingApply} {plan : Plan} (mark : MakesMark c s u)
    (pending : s.pe.pendingApply = some p) (change : p.change = .revert) (entry : s.pe.entry 0 = some plan) :
    exec c s = .next ((u.replanned (s.pe.revertApply p plan (s.time.seconds + 1))).applied s.pe.active
      .planReverted) := by
  obtain ⟨run, frame⟩ := exec_of_makesMark mark
  rw [run, mark_revert (frame.pe ▸ pending) change (frame.pe ▸ entry), frame.pe, frame.seconds]
  rfl

/-- What an apply leaves of the state, and the time of its mark. -/
structure AppliedAt (s u t : State) : Prop where
  phase : t.phase = s.phase
  supply : t.supply = s.supply
  draws : t.draws = u.draws
  pending : t.pending = s.pending
  time : t.time = { u.time with seconds := s.time.seconds + 1, lastMark := u.time.steps }

theorem applied_appliedAt (frame : TimeFrame s u) (e : PlanEngine) (p : Plan) (n : Notice) :
    AppliedAt s u ((u.replanned e).applied p n) := by
  have applied := applied_frame (u.replanned e) p n
  exact ⟨applied.phase.trans frame.phase, applied.supply.trans frame.supply, applied.draws,
    applied.pending.trans frame.pending, applied.time.trans (by rw [← frame.seconds]; rfl)⟩

theorem applied_settled {s : State} (p : Plan) (n : Notice) (settled : s.pe.status ≠ .onProbation) :
    (s.applied p n).pe = s.pe := (applied_frame s p n).pe.resolve_right fun failed => settled failed.1

/-- Settles O35: the records that the mark writes, and what the hand-over keeps of them (`applied_hands`). -/
theorem revertApplied : Obligations.RevertApplied := by
  intro c s u p plan mark pending change entry
  obtain ⟨-, frame⟩ := exec_of_makesMark mark
  let e := s.pe.revertApply p plan (s.time.seconds + 1)
  have kept := applied_appliedAt frame e s.pe.active .planReverted
  have pe := applied_settled (s := u.replanned e) s.pe.active .planReverted nofun
  obtain ⟨fields, told, writes, slots⟩ := applied_hands (u.replanned e) s.pe.active .planReverted
  obtain ⟨last, rest⟩ := s.pe.entry_revertApply p plan (s.time.seconds + 1)
  have lanes (n : Slot) : (u.replanned e).lane n = s.lane n := congrArg (PerSlot.get · n) frame.lanes
  refine ⟨_, exec_revert mark pending change entry, kept.phase, kept.supply, kept.draws, kept.pending, kept.time, pe,
    fun k => ?_, ?_, told, writes, fun old => slots fun n => lanes n ▸ old n, fields.units, fields.delays,
    fields.silence⟩
  · rw [pe]
    exact rest k
  · rw [pe]
    exact last

end Applies

end Sys2Proof.Machine
end

section
/-! PROOFS. Levels, trip lists and lockouts across a hand-over (R141, R145, R148). -/

namespace Sys2Proof.Machine

/-! ## The Protection Unit across a hand-over (R141, R145, R148) -/

section Guards
variable {s t u : State} {x y : Tx}

/-- A level that a decision leaves keeps the trip list and the lockout (R145). -/
theorem ChainProtection.decide_still {c : ChainProtection} {v : Severities} {l : Limits} {d : DeviceConditions}
    {now seconds : Nat} (still : (c.decide v l d now seconds).level = c.level) :
    (c.decide v l d now seconds).trips = c.trips ∧ (c.decide v l d now seconds).lockedOut = c.lockedOut := by
  rcases ChainProtection.decide_cases (c := c) (v := v) (l := l) (d := d) (now := now) (seconds := seconds) with
    ⟨above, eq⟩ | ⟨-, eq⟩ | ⟨-, -, eq⟩ | ⟨-, -, eq⟩
  · refine absurd still (ne_of_gt ?_)
    rw [eq]
    split
    · rw [(ChainProtection.trip_keeps ..).2.2.1]
      exact above
    · exact above
  all_goals exact eq ▸ ⟨rfl, rfl⟩

/-- No level falls and no lockout is lifted, and a level that stays keeps its trip list and its lockout. -/
structure Guards (s t : State) : Prop where
  rises : ∀ x, (s.protection x).level ≤ (t.protection x).level
  locked : ∀ x, (s.protection x).lockedOut = true → (t.protection x).lockedOut = true
  still : ∀ x, (t.protection x).level = (s.protection x).level →
    (t.protection x).trips = (s.protection x).trips ∧ (t.protection x).lockedOut = (s.protection x).lockedOut

theorem Guards.refl (s : State) : Guards s s := ⟨fun _ => le_rfl, fun _ => id, fun _ _ => ⟨rfl, rfl⟩⟩

theorem Guards.trans (a : Guards s t) (b : Guards t u) : Guards s u where
  rises x := (a.rises x).trans (b.rises x)
  locked x := b.locked x ∘ a.locked x
  still x same := by
    have middle : (t.protection x).level = (s.protection x).level :=
      le_antisymm (same ▸ b.rises x) (a.rises x)
    obtain ⟨trips, lockedOut⟩ := a.still x middle
    obtain ⟨trips', lockedOut'⟩ := b.still x (same.trans middle.symm)
    exact ⟨trips'.trans trips, lockedOut'.trans lockedOut⟩

theorem Guards.of_keeps (h : KeepsState none s t)
    (still : ∀ x, (t.protection x).level = (s.protection x).level →
      (t.protection x).trips = (s.protection x).trips ∧ (t.protection x).lockedOut = (s.protection x).lockedOut) :
    Guards s t := ⟨h.rises, h.locked, still⟩

theorem Guards.of_chains (same : t.pu.chains = s.pu.chains) : Guards s t := by
  have eq (x : Tx) : t.protection x = s.protection x := by
    rw [State.protection, same]
    rfl
  exact ⟨fun x => by rw [eq], fun x => by rw [eq]; exact id, fun x _ => by rw [eq]; exact ⟨rfl, rfl⟩⟩

theorem Withdraws.still (h : Withdraws x s t) (level : (t.protection x).level = (s.protection x).level) :
    (t.protection x).trips = (s.protection x).trips ∧ (t.protection x).lockedOut = (s.protection x).lockedOut := by
  rcases h with eq | ⟨p, -, -, -, -, eq⟩
  · exact eq ▸ ⟨rfl, rfl⟩
  · rw [eq] at level ⊢
    exact ChainProtection.decide_still level

theorem Guards.of_withdraws (keeps : KeepsState none s t) (own : Local x s t) (h : Withdraws x s t) : Guards s t := by
  refine .of_keeps keeps fun y level => ?_
  by_cases eq : y = x
  · subst eq
    exact Withdraws.still h level
  · exact own.protection y eq ▸ ⟨rfl, rfl⟩

theorem decideSeq_guards (s : State) (x : Tx) : Guards s (s.decideSeq x) :=
  .of_withdraws (decideSeq_keeps s x).toKeepsState (decideSeq_local s x) (decideSeq_withdraws s x)

theorem decideProtection_guards (s : State) (x : Tx) : Guards s (s.decideProtection x) := by
  refine .of_keeps (decideProtection_keeps s x).toKeepsState fun y level => ?_
  rw [decideProtection_protection] at level ⊢
  split at level
  · next eq =>
    subst eq
    rw [if_pos rfl]
    exact ChainProtection.decide_still level
  · next other => exact if_neg other ▸ ⟨rfl, rfl⟩

theorem protect_guards (s : State) (x : Tx) : Guards s (s.protect x) :=
  (decideProtection_guards s x).trans
    (.of_withdraws (handProtection_keeps ..).toKeepsState (handProtection_local ..) (handProtection_withdraws ..))

theorem handOver_guards (s : State) (x : Tx) : Guards s (s.handOver x) :=
  .of_withdraws (handOver_keepsState s x) (handOver_local ..) (handOver_withdraws ..)

theorem lanesLeft_pu (s : State) (r : Rx) : ((s.mutedFrom r).decideLanes (s.lanesFrom r)).pu = s.pu := by
  have frame : LaneFrame s ((s.lanesFrom r).foldl State.fastMute s) := foldl_related .refl .trans fastMute_frame _ s
  rw [(decideLanes_frame ..).pu, State.mutedFrom, (soilProbe_same ..).2, frame.pu]

theorem guards_steps : HandSteps Guards where
  refl := .refl
  trans := .trans
  ref _ _ := .of_chains rfl
  notify _ _ := .of_chains rfl
  ports _ := .of_chains rfl
  spoil _ := .of_chains rfl
  device _ _ := .of_chains rfl
  start s := .of_chains (congrArg Protection.chains (startMeasurement_pu s))
  protect := protect_guards
  audit _ _ _ := .of_chains rfl
  receive _ r := takeRxLo_related .trans .refl (.of_chains (congrArg Protection.chains (takeWanted_receive_pu ..)))
    (fun s _ => .of_chains (congrArg Protection.chains (lanesLeft_pu s r))) decideSeq_guards
  hand s x _ := handOver_guards s x
  decide := decideSeq_guards

end Guards

end Sys2Proof.Machine
end

section
/-! PROOFS. How a hand-over fails a probation: only where the Protection Unit's own decisions lock a chain out (R54,
R55, R146). -/

namespace Sys2Proof.Machine

/-! ## What a step keeps under an invariant -/

section Under
variable {P : State → Prop} {R : State → State → Prop} {s t u : State}

/-- A step that keeps an invariant and, where it holds, a relation. -/
def Under (P : State → Prop) (R : State → State → Prop) (s t : State) : Prop := P s → P t ∧ R s t

theorem Under.refl (h : ∀ s, R s s) (s : State) : Under P R s s := fun p => ⟨p, h s⟩

theorem Under.trans (h : ∀ {s t u}, R s t → R t u → R s u) (a : Under P R s t) (b : Under P R t u) : Under P R s u :=
  fun p => ⟨(b (a p).1).1, h (a p).2 (b (a p).1).2⟩

end Under

/-! ## The probation across a hand-over (R54, R55, R146) -/

section Locks
variable {s t u : State} {x : Tx}

/-- The Plan Engine after a probation failure, if the plan is on probation (R55). -/
def PlanEngine.afterFailure (e : PlanEngine) : PlanEngine := if e.status = .onProbation then e.failProbation else e

theorem probationFailure_eq (s : State) : s.probationFailure.pe = s.pe.afterFailure := by
  unfold PlanEngine.afterFailure
  split
  · next running => exact probationFailure_pe running
  · next settled => rw [State.probationFailure, if_neg settled]

theorem PlanEngine.afterFailure_idem (e : PlanEngine) : e.afterFailure.afterFailure = e.afterFailure := by
  by_cases running : e.status = .onProbation
  · rw [PlanEngine.afterFailure, if_neg]
    rw [PlanEngine.afterFailure, if_pos running]
    exact nofun
  · rw [PlanEngine.afterFailure, PlanEngine.afterFailure, if_neg running, if_neg running]

/-- A chain has been locked out on the way from `s` to `t`. -/
def Locked (s t : State) : Prop := ∃ x, (s.protection x).lockedOut = false ∧ (t.protection x).lockedOut = true

/-- The lockouts stay as they are with the Plan Engine, or a chain is locked out and fails the probation. -/
structure Locks (s t : State) : Prop extends Guards s t where
  pe : ((∀ x, (t.protection x).lockedOut = (s.protection x).lockedOut) ∧ t.pe = s.pe) ∨
    (Locked s t ∧ t.pe = s.pe.afterFailure)

theorem Locks.of_still (guards : Guards s t) (same : ∀ x, (t.protection x).lockedOut = (s.protection x).lockedOut)
    (pe : t.pe = s.pe) : Locks s t := ⟨guards, .inl ⟨same, pe⟩⟩

theorem Locks.of_same (chains : t.pu.chains = s.pu.chains) (pe : t.pe = s.pe) : Locks s t := by
  refine .of_still (.of_chains chains) (fun x => ?_) pe
  rw [State.protection, chains]
  rfl

theorem Locks.refl (s : State) : Locks s s := .of_same rfl rfl

theorem Locks.trans (a : Locks s t) (b : Locks t u) : Locks s u := by
  refine ⟨a.toGuards.trans b.toGuards, ?_⟩
  rcases a.pe with ⟨same, pe⟩ | ⟨⟨x, free, locked⟩, pe⟩
  · rcases b.pe with ⟨same', pe'⟩ | ⟨⟨x, free, locked⟩, pe'⟩
    · exact .inl ⟨fun x => (same' x).trans (same x), pe'.trans pe⟩
    · exact .inr ⟨⟨x, (same x).symm.trans free, locked⟩, pe ▸ pe'⟩
  · refine .inr ⟨⟨x, free, b.locked x locked⟩, ?_⟩
    rcases b.pe with ⟨-, pe'⟩ | ⟨-, pe'⟩
    · exact pe'.trans pe
    · rw [pe', pe, PlanEngine.afterFailure_idem]

/-- The invariant under which a chain's own conditions are withdrawn and never raised. -/
def State.Withdrawn (s : State) : Prop := s.CounterSound ∧ s.ConditionsSound

theorem State.Withdrawn.keeps (h : s.Withdrawn) (k : KeepsChains s t) : t.Withdrawn :=
  ⟨k.counter h.1, fun x => k.conditions h.1 x nofun (h.2 x)⟩

/-- A withdrawal while S is within the level locks nothing out. -/
theorem Locks.of_withdraws (keeps : KeepsState none s t) (own : Local x s t) (h : Withdraws x s t) (pe : t.pe = s.pe)
    (level : s.LevelOk x) (conditions : s.ConditionsOk x) : Locks s t := by
  refine .of_still (.of_withdraws keeps own h) (fun y => ?_) pe
  by_cases eq : y = x
  · subst eq
    exact (Withdraws.calm h (.inr ⟨level, conditions⟩)).2.2
  · rw [own.protection y eq]

theorem protect_locks (s : State) (x : Tx) : Under State.Withdrawn Locks s (s.protect x) := by
  intro h
  let d := s.decideProtection x
  have keeps := decideProtection_keeps s x
  have ok : d.Withdrawn := h.keeps keeps.toKeepsChains
  refine ⟨ok.keeps (handProtection_keeps ..).toKeepsChains, ?_⟩
  have level : d.LevelOk x := decideProtection_level s x
  have locks : ∀ y, ((s.protect x).protection y).lockedOut = (d.protection y).lockedOut := fun y => by
    by_cases eq : y = x
    · subst eq
      exact (Withdraws.calm (handProtection_withdraws s d y) (.inr ⟨level, ok.2 y⟩)).2.2
    · rw [State.protect, (handProtection_local s d x).protection y eq]
  refine ⟨protect_guards s x, ?_⟩
  have other (y : Tx) (apart : y ≠ x) : (d.protection y).lockedOut = (s.protection y).lockedOut := by
    rw [decideProtection_protection, if_neg apart]
  by_cases same : (d.protection x).lockedOut = (s.protection x).lockedOut
  · refine .inl ⟨fun y => (locks y).trans ?_, (handProtection_store same).2⟩
    by_cases eq : y = x
    · exact eq ▸ same
    · exact other y eq
  · have free : (s.protection x).lockedOut = false := by
      by_contra held
      exact same ((keeps.locked x (Bool.not_eq_false _ ▸ held)).trans (Bool.not_eq_false _ ▸ held).symm)
    have locked : (d.protection x).lockedOut = true := Bool.not_eq_false _ ▸ fun eq => same (eq.trans free.symm)
    refine .inr ⟨⟨x, free, (locks x).trans locked⟩, ?_⟩
    have added : ((s.protection x).lockedOut != (d.protection x).lockedOut) = true := by
      rw [free, locked]
      rfl
    rw [State.protect, handProtection_eq, (tellChain_frame ..).pe, State.announced, added]
    change ((d.tellChange _).requestSite.probationFailure).pe = _
    rw [probationFailure_eq, (requestSite_outside _).pe, (tellChange_frame ..).pe]
    rfl

theorem Under.withdrawn (keeps : Keeps s t) (locks : Locks s t) : Under State.Withdrawn Locks s t :=
  fun h => ⟨h.keeps keeps.toKeepsChains, locks⟩

theorem locks_reference : ReferenceSteps (Under State.Withdrawn Locks) where
  refl := .refl .refl
  trans := .trans .trans
  ref _ _ h := ⟨⟨⟨h.1.contexts, h.1.nodup, h.1.queued, h.1.measured⟩, h.2⟩, .of_same rfl rfl⟩
  notify s n := .withdrawn (notifyBoth_keeps s n) (.of_same rfl rfl)
  ports s := .withdrawn (applyPorts_keeps s) (.of_same rfl rfl)
  spoil s := .withdrawn (spoilMeasurement_keeps s) (.of_same rfl rfl)
  device _ _ h := ⟨⟨⟨h.1.contexts, h.1.nodup, h.1.queued, h.1.measured⟩, h.2⟩, .of_same rfl rfl⟩
  start s := .withdrawn (startMeasurement_keeps s)
    (.of_same (congrArg Protection.chains (startMeasurement_pu s)) (startMeasurement_frame s).pe)
  protect := protect_locks

/-- And every level is at or above its S. -/
def State.Guarded (s : State) : Prop := s.Withdrawn ∧ s.LevelSound

theorem Under.guarded (keeps : Keeps s t) (locks : s.Guarded → Locks s t) : Under State.Guarded Locks s t :=
  fun h => ⟨⟨h.1.keeps keeps.toKeepsChains, fun x => keeps.level x (h.2 x)⟩, locks h⟩

theorem decideSeq_locks (s : State) (x : Tx) : Under State.Guarded Locks s (s.decideSeq x) :=
  .guarded (decideSeq_keeps s x) fun h => .of_withdraws (decideSeq_keeps s x).toKeepsState (decideSeq_local s x)
    (decideSeq_withdraws s x) (decideSeq_frame s x).pe (h.2 x) (h.1.2 x)

theorem takeRxLo_locks (s : State) (r : Rx) : Under State.Guarded Locks s (s.takeRxLo r) := by
  have taken : Under State.Guarded Locks s (s.takeWanted (.rx r) (s.pe.active.rx.get r)) :=
    .guarded (takeWanted_rx_keeps ..) fun _ =>
      .of_same (congrArg Protection.chains (takeWanted_receive_pu ..)) (takeWanted_frame ..).pe
  have left (v : State) : Under State.Guarded Locks v ((v.mutedFrom r).decideLanes (v.lanesFrom r)) := by
    have muted : LaneKeeps v ((v.lanesFrom r).foldl State.fastMute v) :=
      foldl_related .refl .trans fastMute_laneKeeps _ v
    have pe : (v.mutedFrom r).pe = v.pe := by
      rw [State.mutedFrom, (soilProbe_probe ..).1]
      exact muted.pe
    exact .guarded ((muted.keeps.trans (soilProbe_keeps ..)).trans (decideLanes_laneKeeps ..).keeps) fun _ =>
      .of_same (congrArg Protection.chains (lanesLeft_pu v r)) ((decideLanes_frame ..).pe.trans pe)
  exact takeRxLo_related (.trans .trans) (.refl .refl) taken (fun v _ => left v) decideSeq_locks

theorem applySeq_locks (s : State) (x : Tx) : Under State.Guarded Locks s (s.applySeq x) := by
  refine .guarded (applySeq_keeps s x) fun h => ?_
  unfold State.applySeq
  split
  · exact (decideSeq_locks s x h).2
  · next down =>
    have keeps : Keeps s (s.handOver x) := by
      refine handOver_keeps ?_
      by_contra on
      exact down (SeqState.live_of_paOn (Bool.not_eq_false _ ▸ on))
    have handed : Under State.Guarded Locks s (s.handOver x) :=
      .guarded keeps fun h => .of_withdraws keeps.toKeepsState (handOver_local ..)
        (handOver_withdraws ..) (handOver_frame ..).pe (h.2 x) (h.1.2 x)
    exact (Under.trans .trans handed (decideSeq_locks _ x) h).2

theorem applySynths_pu (s : State) (p : Plan) : (s.applySynths p).pu = s.pu := by
  refine foldl_related (f := fun s c => s.applyAudit p.limits.auditInterval s.limits.auditInterval c)
    (R := fun s t : State => t.pu = s.pu) (fun _ => rfl) (fun a b => b.trans a) (fun s c => ?_) allChains s
  unfold State.applyAudit
  dsimp only
  split
  · rfl
  · split
    · rfl
    · split <;> rfl

/-- An apply locks a chain out only in the Protection Unit's own decisions. -/
theorem handRest_locks {p : Plan} (h : s.Withdrawn) (level : p.severities = s.severities → s.LevelSound) :
    Locks s.cutAll (s.handRest p) := by
  have cut : Keeps s s.cutAll := foldl_related .refl .trans cut_keeps allTx s
  have one := locks_reference.severitiesTaken s.cutAll p (h.keeps cut.toKeepsChains)
  have sound : (s.cutAll.severitiesTaken p).LevelSound := fun x =>
    (applyProtection_sound s p x).2 fun same => level same x
  have two (v : State) : Under State.Guarded Locks v ((v.takeRxLo .rx0).takeRxLo .rx1) :=
    .trans .trans (takeRxLo_locks v .rx0) (takeRxLo_locks _ .rx1)
  have three (v : State) : Under State.Guarded Locks v (allTx.foldl State.applySeq v) :=
    foldl_related (R := Under State.Guarded Locks) (.refl .refl) (.trans .trans) applySeq_locks allTx v
  have four (v : State) : Under State.Guarded Locks v (v.applySynths p) :=
    .guarded (applySynths_keeps v p) fun _ =>
      .of_same (congrArg Protection.chains (applySynths_pu v p)) (applySynths_frame v p).pe
  have five (v : State) : Under State.Withdrawn Locks v (v.applyReference p).applyPorts :=
    .trans .trans (locks_reference.applyReference v p) (locks_reference.ports _)
  rw [handRest_eq]
  obtain ⟨ok, locks⟩ := Under.trans .trans (Under.trans .trans (two _) (three _)) (four _) ⟨one.1, sound⟩
  exact (one.2.trans locks).trans (five _ ok.1).2

end Locks

end Sys2Proof.Machine
end

section
/-! PROOFS. The records and the probation of a COMMIT-kind apply (O34). -/

namespace Sys2Proof.Machine

/-! ## The probation of a COMMIT-kind apply (R53 to R55) -/

section Commit
variable {s t u v : State} {x : Tx}

theorem Replans.of_time (frame : TimeFrame s u) (e : PlanEngine) : Replans s (u.replanned e) :=
  ⟨frame.phase, frame.syn, frame.fc, frame.os, frame.pu, frame.lanes⟩

/-- The state that an apply hands over: the notice raised and the SITE write requested. -/
def State.announcing (v : State) (n : Notice) : State := (v.notifyBoth n).requestSite

theorem applied_eq (v : State) (p : Plan) (n : Notice) : v.applied p n = (v.announcing n).handPlan p := rfl

theorem announcing_outside (v : State) (n : Notice) : Outside v (v.announcing n) :=
  (notifyBoth_outside v n).trans (requestSite_outside _)

theorem announcing_replans (h : Replans s v) (n : Notice) : Replans s (v.announcing n) :=
  h.andOutside (announcing_outside v n)

theorem placed_keepsChains (s : State) (p : Plan) : KeepsChains s (s.placed p) :=
  (takeAllSeqFields_keeps s).toKeepsChains.trans (applySlots_keepsChains _ p)

theorem Replans.withdrawn (h : Replans s v) (ok : s.Withdrawn) : v.Withdrawn :=
  ⟨h.counter ok.1, fun x => by rw [h.synth_eq, h.protection_eq]; exact ok.2 x⟩

/-- Where no severity has changed S is what it was, once slots and lanes have been taken. -/
theorem placed_level (h : Replans s v) (level : s.LevelSound)
    (same : s.severities = (v.placed s.pe.active).severities) : (v.placed s.pe.active).LevelSound := fun x => by
  have frame := placed_frame v s.pe.active
  have device : (v.placed s.pe.active).pu.device = s.pu.device := congrArg Protection.device (frame.pu.trans h.pu)
  rw [frame.protection_eq, h.protection_eq, ← same, device]
  exact level x

theorem ChainProtection.cut_lockedOut (c : ChainProtection) (l : Limits) : (c.cut l).lockedOut = c.lockedOut := rfl

theorem applied_locks (h : Replans s v) (ok : s.Withdrawn) (level : s.LevelSound) (n : Notice) :
    let t := v.applied s.pe.active n
    ((∀ x, (t.protection x).lockedOut = (s.protection x).lockedOut) ∧ t.pe = v.pe) ∨
      (Locked s t ∧ t.pe = v.pe.afterFailure) := by
  intro t
  have out := announcing_outside v n
  have replans := announcing_replans h n
  have eq : t = ((v.announcing n).placed s.pe.active).handRest s.pe.active := handPlan_placed ..
  generalize v.announcing n = w at out replans eq
  have frame := placed_frame w s.pe.active
  have locks : Locks _ t := eq ▸ handRest_locks ((replans.withdrawn ok).keeps (placed_keepsChains w _))
    (placed_level replans level)
  have cut (x : Tx) : ((w.placed s.pe.active).cutAll.protection x).lockedOut = (s.protection x).lockedOut := by
    rw [cutAll_protection, ChainProtection.cut_lockedOut, frame.protection_eq, replans.protection_eq]
  have pe : (w.placed s.pe.active).cutAll.pe = v.pe := (cutAll_frame _).pe.trans (frame.pe.trans out.pe)
  rcases locks.pe with ⟨same, kept⟩ | ⟨⟨x, free, locked⟩, failed⟩
  · exact .inl ⟨fun x => (same x).trans (cut x), kept.trans pe⟩
  · exact .inr ⟨⟨x, (cut x).symm.trans free, locked⟩, pe ▸ failed⟩

theorem PlanEngine.afterFailure_commit (e : PlanEngine) (p : PendingApply) (now mark : Nat) {plan : Plan}
    (probation : 0 < plan.limits.probation) :
    (e.commitApply p plan now mark).afterFailure = { e.commitApply p plan now mark with
      status := .settled, probation := none
      pendingApply := some { change := .revert, issue := e.active.issue, requestedBy := .probation } } := by
  have running : (e.commitApply p plan now mark).status = .onProbation := if_pos probation
  have idle : (e.commitApply p plan now mark).pendingApply = none := rfl
  rw [PlanEngine.afterFailure, if_pos running, failProbation_other fun _ _ is => nomatch idle.symm.trans is]
  have top := (e.entry_commitApply p plan now mark).1
  rw [top]
  rfl

theorem PlanEngine.afterFailure_commit_settled (e : PlanEngine) (p : PendingApply) (now mark : Nat) {plan : Plan}
    (none : plan.limits.probation = 0) :
    (e.commitApply p plan now mark).afterFailure = e.commitApply p plan now mark := by
  refine if_neg fun running => ?_
  have settled : (e.commitApply p plan now mark).status = .settled := if_neg (none ▸ Nat.lt_irrefl 0)
  exact nomatch settled.symm.trans running

/-- The record that a full history discards is the oldest (R45, R51). -/
theorem commitApply_eq (e : PlanEngine) (p : PendingApply) (plan : Plan) (now mark : Nat) :
    e.commitApply p plan now mark = { e.commitApply p plan now mark with
      lastApply := some
        { kind := .commit, requestedBy := p.requestedBy, applied := plan.issue
          outgoing := e.active.issue, discarded := (e.entry 3).map Plan.issue, markTime := mark } } := by
  have same : ∀ top : Fin 4, (top + 3).val = (top - 1).val := by decide
  simp only [PlanEngine.commitApply, PlanEngine.entry, same]

theorem afterFailure_entry (e : PlanEngine) (k : Fin 4) : e.afterFailure.entry k = e.entry k := by
  unfold PlanEngine.afterFailure
  split <;> rfl

/-- Settles O34: the records that the mark writes, and how a lockout of the apply itself fails the probation
(`applied_locks`). -/
theorem commitApplied : Obligations.CommitApplied := by
  intro c s u p plan mark pending change sound
  obtain ⟨-, frame⟩ := exec_of_makesMark mark
  let e := s.pe.commitApply p plan u.time.steps (s.time.seconds + 1)
  have kept := applied_appliedAt frame e s.pe.active .planApplied
  have pe := applied_locks (Replans.of_time frame e) ⟨sound.counter, sound.conditions⟩ sound.level .planApplied
  obtain ⟨fields, told, writes, slots⟩ := applied_hands (u.replanned e) s.pe.active .planApplied
  obtain ⟨first, rest⟩ := s.pe.entry_commitApply p plan u.time.steps (s.time.seconds + 1)
  have lanes (n : Slot) : (u.replanned e).lane n = s.lane n := congrArg (PerSlot.get · n) frame.lanes
  have run := exec_commit mark pending change
  change exec c s = .next ((u.replanned e).applied s.pe.active .planApplied) at run
  generalize (u.replanned e).applied s.pe.active .planApplied = t at kept pe fields told writes slots run
  change (_ ∧ t.pe = e) ∨ (_ ∧ t.pe = e.afterFailure) at pe
  have engine := commitApply_eq s.pe p plan u.time.steps (s.time.seconds + 1)
  have entry (k : Fin 4) : t.pe.entry k = e.entry k := by
    rcases pe with ⟨-, eq⟩ | ⟨-, eq⟩
    · exact congrArg (·.entry k) eq
    · exact eq ▸ afterFailure_entry e k
  refine ⟨t, run, kept.phase, kept.supply, kept.draws, kept.pending, kept.time, ⟨fun none => ?_, fun x added some => ?_⟩,
    (entry 0).trans first, fun k => (entry _).trans (rest k), told, writes,
    fun old => slots fun n => lanes n ▸ old n, fields.units, fields.delays, fields.silence⟩
  · rcases pe with ⟨-, eq⟩ | ⟨⟨x, added⟩, eq⟩
    · exact eq.trans engine
    · have settled := PlanEngine.afterFailure_commit_settled s.pe p u.time.steps (s.time.seconds + 1)
        (none.resolve_left fun free => free x added)
      exact eq.trans (settled.trans engine)
  · rcases pe with ⟨same, -⟩ | ⟨-, eq⟩
    · exact nomatch added.1.symm.trans ((same x).symm.trans added.2)
    · rw [eq, PlanEngine.afterFailure_commit s.pe p _ _ some, engine]
      rfl

end Commit

end Sys2Proof.Machine
end

section
/-! PROOFS. What a controller becomes when it takes a new wanted LO, and during a hand-over (R73 to R75). -/

namespace Sys2Proof.Machine

/-! ## What a new wanted LO makes of a controller (R73 to R75) -/

section Given
variable {s t : State} {x y z : SynContext} {lo : Option Nat} {c : Chain}

/-- A controller `x` that has taken the new wanted LO `lo` is `y`. -/
structure Given (x y : SynContext) (lo : Option Nat) : Prop where
  wanted : y.wanted = lo
  changed : lo ≠ x.wanted
  state : y.state = .idle ∨ y.state = .programming
  programs : ∀ l, lo = some l → x.transfer ≠ .powerDown →
    y.state = .programming ∧
    (x.state ≠ .programming →
      y.attempts = 1 ∧ y.transfer = .programming (dividerWords l) ∧ y.output = .disabled ∧
      (x.state ≠ .idle → y.audit = none ∧ y.settle = none ∧ y.retry = none)) ∧
    (x.state = .programming → y.attempts = 0 ∧ y.restartPending = true ∧ y.transfer = x.transfer)
  rests : lo = none → x.state ≠ .idle → x.state ≠ .programming →
    y.state = .idle ∧ y.programmed = none ∧ y.attempts = 0 ∧ y.lost = false ∧ y.transfer = .powerDown

/-- A controller that is programmed anew has left the counter (R74). -/
theorem reprogrammed_absent (s : State) (c : Chain) (x : SynContext) :
    ((((s.dropCycle c).setSynth c x).startProgramming c).withdrawSynth c).Absent c := by
  have fc : ((((s.dropCycle c).setSynth c x).startProgramming c).withdrawSynth c).fc = (s.dropCycle c).fc :=
    (congrArg State.fc (withdrawSynth_same (((s.dropCycle c).setSynth c x).startProgramming c) c) :)
  rw [State.Absent, fc]
  exact dropCycle_absent s c

theorem takeLo_given {l : Nat} (changed : some l ≠ (s.synth c).wanted) :
    Given (s.synth c) ((s.takeLo c l).synth c) (some l) := by
  rcases takeLo_cases s c l with ⟨state, eq⟩ | ⟨state, eq⟩ | ⟨idle, programming, eq⟩ <;> rw [eq]
  · dsimp only
    split
    · next down =>
      rw [State.synth_setSynth_same]
      exact ⟨rfl, changed, .inr rfl, fun _ _ up => absurd down up, nofun⟩
    · rw [startProgramming_eq, State.synth_setSynth_same, State.synth_setSynth_same]
      refine ⟨rfl, changed, .inr rfl, fun k is _ => ⟨rfl, fun _ => ⟨rfl, ?_, rfl, fun busy => absurd state busy⟩,
        fun other => nomatch state.symm.trans other⟩, nofun⟩
      cases is
      rfl
  · split
    · next down =>
      rw [State.synth_setSynth_same]
      exact ⟨rfl, changed, .inr state, fun _ _ up => absurd down up, nofun⟩
    · rw [State.synth_setSynth_same]
      exact ⟨rfl, changed, .inr state,
        fun _ _ _ => ⟨state, fun other => absurd state other, fun _ => ⟨rfl, rfl, rfl⟩⟩, nofun⟩
  · rw [(startMeasurement_aside _ c (reprogrammed_absent s c _)).2, withdrawSynth_synth, startProgramming_eq, State.synth_setSynth_same,
      State.synth_setSynth_same, dropCycle_synth]
    refine ⟨rfl, changed, .inr rfl, fun k is _ => ⟨rfl, fun _ => ⟨rfl, ?_, rfl, fun _ => ⟨rfl, rfl, rfl⟩⟩,
      fun other => absurd other programming⟩, nofun⟩
    cases is
    rfl

theorem takeNone_given (changed : none ≠ (s.synth c).wanted) : Given (s.synth c) ((s.takeNone c).synth c) none := by
  rcases takeNone_cases s c with ⟨state, eq⟩ | ⟨state, eq⟩ | ⟨idle, programming, eq⟩ <;> rw [eq]
  · rw [State.synth_setSynth_same]
    exact ⟨rfl, changed, .inl state, nofun, fun _ busy => absurd state busy⟩
  · split <;> rw [State.synth_setSynth_same]
    · exact ⟨rfl, changed, .inl rfl, nofun, fun _ _ other => absurd state other⟩
    · exact ⟨rfl, changed, .inr state, nofun, fun _ _ other => absurd state other⟩
  · have absent : ((s.dropCycle c).goIdle c).Absent c := by
      rw [State.Absent, goIdle_fc]
      exact dropCycle_absent s c
    rw [(startMeasurement_aside _ c absent).2, goIdle_synth]
    exact ⟨rfl, changed, .inl rfl, nofun, fun _ _ _ => ⟨rfl, rfl, rfl, rfl, rfl⟩⟩

theorem takeWanted_given (s : State) (c : Chain) (changed : lo ≠ (s.synth c).wanted) :
    Given (s.synth c) ((s.takeWanted c lo).synth c) lo := by
  cases lo with
  | none =>
    rw [State.takeWanted, if_neg changed]
    exact takeNone_given changed
  | some l =>
    rw [State.takeWanted, if_neg changed]
    exact takeLo_given changed

theorem takeWanted_same (s : State) (c : Chain) : s.takeWanted c (s.synth c).wanted = s := if_pos rfl

/-! ## What a hand-over makes of a controller -/

/-- `y` is `x` with another audit timer, and measured where it was queued. -/
structure Waits (audit : Timer) (x y : SynContext) : Prop where
  same : y = { x with state := y.state, audit := audit }
  state : y.state = x.state ∨ (x.state = .queued ∧ y.state = .measuring)

/-- During a hand-over that may give it `lo`, controller `x` has become `y`. -/
def Evolves (lo : Option Nat) (audit : Timer) (x y : SynContext) : Prop := Waits audit x y ∨ Given x y lo

variable {audit : Timer}

theorem Waits.refl (x : SynContext) : Waits x.audit x x := ⟨rfl, .inl rfl⟩

theorem Waits.wanted (h : Waits audit x y) : y.wanted = x.wanted := h.same ▸ rfl

theorem Waits.state_iff (h : Waits audit x y) {st : SynState} (queued : st ≠ .queued) (measuring : st ≠ .measuring) :
    y.state = st ↔ x.state = st := by
  rcases h.state with eq | ⟨before, after⟩
  · rw [eq]
  · rw [before, after]
    exact ⟨fun eq => absurd eq.symm measuring, fun eq => absurd eq.symm queued⟩

theorem Evolves.measured (h : Evolves lo audit x y) (queued : y.state = .queued) :
    Evolves lo audit x { y with state := .measuring } := by
  rcases h with waits | given
  · refine .inl ⟨?_, .inr ⟨?_, rfl⟩⟩
    · rw [waits.same]
    · rcases waits.state with eq | ⟨-, after⟩
      · exact eq.symm.trans queued
      · exact nomatch after.symm.trans queued
  · rcases given.state with eq | eq <;> exact nomatch eq.symm.trans queued

/-- What has only waited takes an LO as it would have taken it before. -/
theorem Waits.given (h : Waits audit x y) (given : Given y z lo) : Given x z lo := by
  have idle : y.state = .idle ↔ x.state = .idle := h.state_iff nofun nofun
  have programming : y.state = .programming ↔ x.state = .programming := h.state_iff nofun nofun
  have transfer : y.transfer = x.transfer := h.same ▸ rfl
  refine ⟨given.wanted, h.wanted ▸ given.changed, given.state, fun l is up => ?_, fun is busy other => ?_⟩
  · obtain ⟨state, fresh, restarts⟩ := given.programs l is (transfer ▸ up)
    refine ⟨state, fun other => ?_, fun is => transfer ▸ restarts (programming.mpr is)⟩
    obtain ⟨attempts, words, output, stopped⟩ := fresh (other ∘ programming.mp)
    exact ⟨attempts, words, output, fun busy => stopped (busy ∘ idle.mp)⟩
  · exact given.rests is (busy ∘ idle.mp) (other ∘ programming.mp)

theorem Evolves.given (h : Evolves lo audit x y) (given : Given y z lo) : Evolves lo audit x z := by
  rcases h with waits | before
  · exact .inr (waits.given given)
  · exact absurd before.wanted.symm given.changed

/-- The audit timer of a controller that has taken no LO may be set; that of the others only stopped. -/
theorem Evolves.setAudit (h : Evolves lo audit x y) {a b : Timer} (waiting : Waits audit x y → a = b)
    (given : y.state = .idle ∨ y.state = .programming → a = none ∨ a = y.audit) :
    Evolves lo b x { y with audit := a } := by
  rcases h with waits | before
  · refine .inl ⟨?_, waits.state⟩
    rw [waiting waits, waits.same]
  · refine .inr { before with
      wanted := before.wanted, changed := before.changed, state := before.state
      programs := fun l is up => ?_ }
    obtain ⟨state, fresh, restarts⟩ := before.programs l is up
    refine ⟨state, fun other => ?_, restarts⟩
    obtain ⟨attempts, words, output, stopped⟩ := fresh other
    refine ⟨attempts, words, output, fun busy => ?_⟩
    obtain ⟨none, rest⟩ := stopped busy
    refine ⟨?_, rest⟩
    rcases given before.state with eq | eq
    · exact eq
    · exact eq.trans none

end Given

end Sys2Proof.Machine
end

section
/-! PROOFS. The decisions of a sequencer and of the Protection Unit step by step, and every controller at each step of
a hand-over. -/

namespace Sys2Proof.Machine

/-! ## The decisions of a sequencer, move by move -/

section Moves
variable {R : State → State → Prop}

theorem settleSeq_related {x : Tx} (refl : ∀ s, R s s) (trans : ∀ {s t u}, R s t → R t u → R s u)
    (move : ∀ s st, s.nextSeq x = some st → R s (s.moveSeq x st)) (fuel : Nat) (s : State) :
    R s (State.settleSeq fuel s x) := by
  induction fuel generalizing s with
  | zero => exact refl s
  | succ fuel ih =>
    cases next : s.nextSeq x with
    | none =>
      rw [settleSeq_stop _ next]
      exact refl s
    | some st =>
      rw [settleSeq_next _ next]
      exact trans (move s st next) (ih _)

theorem decideSeq_related {x : Tx} (refl : ∀ s, R s s) (trans : ∀ {s t u}, R s t → R t u → R s u)
    (move : ∀ s st, s.nextSeq x = some st → R s (s.moveSeq x st)) (s : State) : R s (s.decideSeq x) := by
  unfold State.decideSeq
  split
  · exact settleSeq_related refl trans move 4 s
  · exact refl s

/-- A decision of the Protection Unit: in the unit itself, to the records, and to the chain. -/
theorem protect_related {s : State} {x : Tx} (trans : ∀ {s t u}, R s t → R t u → R s u)
    (unit : R s (s.decideProtection x)) (announces : ∀ {s t}, Announces s t → R s t)
    (lanes : ∀ s, R s (s.decideLanes (s.lanesOn x))) (decide : ∀ s, R s (s.decideSeq x)) : R s (s.protect x) := by
  rw [State.protect, handProtection_eq]
  have told := trans unit (announces (announced_announces s (s.decideProtection x) x))
  unfold State.tellChain
  split
  · exact trans (trans told (lanes _)) (decide _)
  · exact told

end Moves

/-! ## Every controller across a hand-over (R73 to R75, R88) -/

section SynStep
variable {s t u v : State} {c d : Chain} {x : SynContext} {lo : Option Nat}

/-- The LO that a plan hands to a controller: R73 for a receive chain, R123 for a transmit chain. -/
def Plan.handed (p : Plan) : Chain → Option Nat
  | .rx r => p.rx.get r
  | .tx x => p.tuningLo x

/-- A controller waits, starts to be measured, or takes the LO of the active plan. -/
def ChainStep (c : Chain) (s t : State) : Prop :=
  t.synth c = s.synth c ∨ ((s.synth c).state = .queued ∧ t.synth c = { s.synth c with state := .measuring }) ∨
    Given (s.synth c) (t.synth c) (s.pe.active.handed c)

/-- Every controller does so, step by step. -/
structure SynStep (s t : State) : Prop where
  active : t.pe.active = s.pe.active
  evolves : ∀ c x audit, Evolves (s.pe.active.handed c) audit x (s.synth c) →
    Evolves (s.pe.active.handed c) audit x (t.synth c)

theorem SynStep.refl (s : State) : SynStep s s := ⟨rfl, fun _ _ _ => id⟩

theorem SynStep.trans (a : SynStep s t) (b : SynStep t u) : SynStep s u := by
  refine ⟨b.active.trans a.active, fun c x audit h => ?_⟩
  have later := b.evolves c x audit
  rw [a.active] at later
  exact later (a.evolves c x audit h)

theorem SynStep.of_chains (active : t.pe.active = s.pe.active) (chains : ∀ c, ChainStep c s t) : SynStep s t := by
  refine ⟨active, fun c x audit h => ?_⟩
  rcases chains c with eq | ⟨queued, eq⟩ | given
  · exact eq ▸ h
  · exact eq ▸ h.measured queued
  · exact h.given given

theorem SynStep.of_syn (active : t.pe.active = s.pe.active) (syn : t.syn = s.syn) : SynStep s t :=
  .of_chains active fun c => .inl (by rw [State.synth, syn]; rfl)

theorem LaneFrame.synStep (h : LaneFrame s t) : SynStep s t := .of_syn (congrArg _ h.pe) h.syn

/-- A measurement that starts after some have left the queue. -/
theorem startMeasurement_other (queue : ∀ q ∈ v.fc.queue, q ∈ s.fc.queue)
    (same : v.synth d = s.synth d) : v.startMeasurement.synth d = s.synth d ∨
      ((s.CounterSound → (s.synth d).state = .queued) ∧
        v.startMeasurement.synth d = { s.synth d with state := .measuring }) := by
  rcases startMeasurement_cases v with eq | ⟨q, rest, -, head, -, eq⟩
  · rw [eq]
    exact .inl same
  · dsimp only at eq
    rw [eq]
    cases audit : q.audit with
    | true => exact .inl same
    | false =>
      rw [if_neg Bool.false_ne_true, State.synth_setSynth]
      split
      · next here =>
        subst here
        refine .inr ⟨fun k => ?_, by rw [same]⟩
        have queues := k.queued q (queue q (head ▸ List.mem_cons_self))
        rwa [audit] at queues
      · exact .inl same

theorem leaveCounter_queue (s : State) (c : Chain) : ∀ q ∈ (s.leaveCounter c).fc.queue, q ∈ s.fc.queue := by
  intro q mem
  exact List.mem_of_mem_filter mem

theorem takeWanted_other (apart : d ≠ c) : (s.takeWanted c lo).synth d = s.synth d ∨
    ((s.CounterSound → (s.synth d).state = .queued) ∧ (s.takeWanted c lo).synth d = { s.synth d with state := .measuring }) := by
  have set (v : State) (z : SynContext) : (v.setSynth c z).synth d = v.synth d := by
    rw [State.synth_setSynth, if_neg apart]
  have dropped : (s.dropCycle c).synth d = s.synth d := set _ _
  unfold State.takeWanted
  split
  · exact .inl rfl
  · split
    · next l _ =>
      rcases takeLo_cases s c l with ⟨-, eq⟩ | ⟨-, eq⟩ | ⟨-, -, eq⟩ <;> rw [eq]
      · dsimp only
        split
        · exact .inl (set ..)
        · rw [startProgramming_eq, set, set]
          exact .inl rfl
      · split <;> exact .inl (set ..)
      · refine startMeasurement_other ?_ ?_
        · have fc (v : State) : (v.withdrawSynth c).fc = v.fc := (congrArg State.fc (withdrawSynth_same v c) :)
          rw [fc]
          exact leaveCounter_queue s c
        · rw [withdrawSynth_synth, startProgramming_eq, set, set, dropped]
    · rcases takeNone_cases s c with ⟨-, eq⟩ | ⟨-, eq⟩ | ⟨-, -, eq⟩ <;> rw [eq]
      · exact .inl (set ..)
      · split <;> exact .inl (set ..)
      · refine startMeasurement_other ?_ ?_
        · rw [goIdle_fc]
          exact leaveCounter_queue s c
        · rw [goIdle_eq, withdrawSynth_synth]
          exact ((refreshWords_frame ..).1.untouched.synth_eq d).trans ((set ..).trans dropped)

/-- A controller takes the LO that the active plan hands to it; the others wait. -/
theorem takeWanted_synStep (k : s.CounterSound) (c : Chain) :
    SynStep s (s.takeWanted c (s.pe.active.handed c)) := by
  refine .of_chains (congrArg _ (takeWanted_frame ..).pe) fun d => ?_
  by_cases own : d = c
  · subst own
    by_cases same : s.pe.active.handed d = (s.synth d).wanted
    · exact .inl (by rw [same, takeWanted_same])
    · exact .inr (.inr (takeWanted_given s d same))
  · rcases takeWanted_other own with eq | ⟨queued, eq⟩
    · exact .inl eq
    · exact .inr (.inl ⟨queued k, eq⟩)

end SynStep

end Sys2Proof.Machine
end

section
/-! PROOFS. Every controller across a hand-over, with the audit interval (R73 to R75, R84, R88). -/

namespace Sys2Proof.Machine

section SynSteps
variable {s t : State}

theorem Under.of_syn (active : t.pe.active = s.pe.active) (syn : t.syn = s.syn) (fc : t.fc = s.fc) :
    Under State.CounterSound SynStep s t := fun k => ⟨k.congr syn fc, .of_syn active syn⟩

theorem LaneFrame.under (h : LaneFrame s t) : Under State.CounterSound SynStep s t :=
  .of_syn (congrArg _ h.pe) h.syn h.fc

theorem handOver_synStep (s : State) (y : Tx) : Under State.CounterSound SynStep s (s.handOver y) := fun k => by
  have first : Under State.CounterSound SynStep s
      (s.setSeq y { s.seq y with handedOver := s.pe.active.tuningLo y, retunePending := false }) := .of_syn rfl rfl rfl
  obtain ⟨k', step⟩ := first k
  exact ⟨(handOver_local s y).counter k, step.trans (takeWanted_synStep k' (.tx y))⟩

theorem moveSeq_synStep (s : State) (y : Tx) (st : SeqState) :
    Under State.CounterSound SynStep s (s.moveSeq y st) := by
  have written := written_unhanded s y st
  have first : Under State.CounterSound SynStep s (s.written y st) :=
    .of_syn (congrArg _ written.pe) written.syn written.fc
  refine .trans .trans ?_ (entered_moveSeq s y st).toLaneFrame.under
  rcases entered_cases s y st with ⟨-, -, eq⟩ | ⟨-, eq⟩ <;> rw [eq]
  · exact .trans .trans first (handOver_synStep _ y)
  · exact first

theorem decideSeq_synStep (s : State) (y : Tx) : Under State.CounterSound SynStep s (s.decideSeq y) :=
  decideSeq_related (R := Under State.CounterSound SynStep) (.refl .refl) (.trans .trans)
    (fun s st _ => moveSeq_synStep s y st) s

theorem Announces.under (h : Announces s t) : Under State.CounterSound SynStep s t := by
  obtain ⟨-, -, syn, fc, -⟩ := h.field
  exact .of_syn h.active syn fc

theorem lanesLeft_same (s : State) (r : Rx) :
    let t := (s.mutedFrom r).decideLanes (s.lanesFrom r)
    t.pe = s.pe ∧ t.syn = s.syn ∧ t.fc = s.fc ∧ t.os = s.os := by
  have muted : LaneFrame s ((s.lanesFrom r).foldl State.fastMute s) := foldl_related .refl .trans fastMute_frame _ s
  have same : s.mutedFrom r = { (s.lanesFrom r).foldl State.fastMute s with probe := (s.mutedFrom r).probe } :=
    (soilProbe_probe ..).1
  have frame : LaneFrame (s.mutedFrom r) ((s.mutedFrom r).decideLanes (s.lanesFrom r)) := decideLanes_frame ..
  have fields : (s.mutedFrom r).pe = s.pe ∧ (s.mutedFrom r).syn = s.syn ∧ (s.mutedFrom r).fc = s.fc ∧
      (s.mutedFrom r).os = s.os := by
    rw [same]
    exact ⟨muted.pe, muted.syn, muted.fc, muted.os⟩
  obtain ⟨pe, syn, fc, os⟩ := fields
  exact ⟨frame.pe.trans pe, frame.syn.trans syn, frame.fc.trans fc, frame.os.trans os⟩

theorem synStep_steps : SeqSteps (Under State.CounterSound SynStep) where
  refl := .refl .refl
  trans := .trans .trans
  ref _ _ := .of_syn rfl rfl rfl
  notify _ _ := .of_syn rfl rfl rfl
  ports _ := .of_syn rfl rfl rfl
  spoil s k := ⟨(spoilMeasurement_keeps s).counter k, .of_syn rfl rfl⟩
  device _ _ := .of_syn rfl rfl rfl
  start s k := ⟨startMeasurement_counter k, .of_chains (congrArg _ (startMeasurement_frame s).pe) fun c => by
    rcases startMeasurement_synth s c with eq | ⟨queued, eq⟩
    · exact .inl eq
    · exact .inr (.inl ⟨queued k, eq⟩)⟩
  protect s x := protect_related (R := Under State.CounterSound SynStep) (.trans .trans)
    (.of_syn rfl rfl rfl) Announces.under (fun s => (decideLanes_frame s (s.lanesOn x)).under) (decideSeq_synStep · x)
  receive s r := takeRxLo_related (.trans .trans) (.refl .refl)
    (fun k => ⟨(takeWanted_rx_keeps ..).counter k, takeWanted_synStep k (.rx r)⟩)
    (fun s _ => by
      obtain ⟨pe, syn, fc, -⟩ := lanesLeft_same s r
      exact .of_syn (congrArg _ pe) syn fc) decideSeq_synStep
  hand s x _ := handOver_synStep s x
  decide := decideSeq_synStep

end SynSteps

/-! ## The audit interval (R84) -/

section Audit
variable {s t : State} {c : Chain} {x : SynContext}

/-- The audit timer of a controller that takes a new interval. -/
def SynContext.auditTaken (x : SynContext) (now old new : Nat) : Timer :=
  if old = new then x.audit
  else if new = 0 then none
  else if old = 0 ∧ x.state = .verified ∧ x.auditing = false then some (now + 100 * new)
  else x.audit

theorem applyAudit_synth (s : State) (old new : Nat) (c d : Chain) : (s.applyAudit old new c).synth d =
    if d = c then { s.synth c with audit := (s.synth c).auditTaken s.time.steps old new } else s.synth d := by
  unfold State.applyAudit SynContext.auditTaken
  dsimp only
  split
  · split
    · next eq => rw [eq]
    · rfl
  · split
    · rw [State.synth_setSynth]
    · split
      · rw [State.synth_setSynth]
        rfl
      · split
        · next eq => rw [eq]
        · rfl

theorem applySynths_synth (s : State) (p : Plan) (c : Chain) : (s.applySynths p).synth c =
    { s.synth c with
      audit := (s.synth c).auditTaken s.time.steps p.limits.auditInterval s.limits.auditInterval } := by
  have nodup : allChains.Nodup := by decide
  have mem : c ∈ allChains := by
    cases c with
    | rx r => cases r <;> decide
    | tx x => cases x <;> decide
  refine foldl_own (f := fun t d => t.applyAudit p.limits.auditInterval t.limits.auditInterval d) (proj := State.synth)
    (P := fun t => t.time = s.time ∧ t.pe = s.pe) (old := s.synth)
    (new := fun c => { s.synth c with
      audit := (s.synth c).auditTaken s.time.steps p.limits.auditInterval s.limits.auditInterval })
    nodup (fun t d same => ?_) (fun t d same before => ?_) (fun t d e _ apart => ?_)
    ⟨rfl, rfl⟩ (fun _ _ => rfl) c mem
  · have frame := applyAudit_frame t p.limits.auditInterval t.limits.auditInterval d
    exact ⟨frame.time.trans same.1, frame.pe.trans same.2⟩
  · rw [applyAudit_synth, if_pos rfl, before, same.1, State.limits, State.limits, same.2]
  · rw [applyAudit_synth, if_neg apart]

/-- What a waiting controller makes of the new interval, its own state would make of it too. -/
theorem Waits.auditTaken {y : SynContext} (h : Waits x.audit x y) (now old new : Nat) :
    y.auditTaken now old new = x.auditTaken now old new := by
  have verified : y.state = .verified ↔ x.state = .verified := h.state_iff nofun nofun
  have audit : y.audit = x.audit := h.same ▸ rfl
  have auditing : y.auditing = x.auditing := h.same ▸ rfl
  simp only [SynContext.auditTaken, verified, audit, auditing]

theorem Evolves.taken {lo : Option Nat} {y : SynContext} (h : Evolves lo x.audit x y) (now old new : Nat) :
    Evolves lo (x.auditTaken now old new) x { y with audit := y.auditTaken now old new } := by
  refine h.setAudit (fun waits => waits.auditTaken now old new) fun state => ?_
  have quiet : y.state ≠ .verified := by
    rcases state with eq | eq <;> rw [eq] <;> exact nofun
  unfold SynContext.auditTaken
  split
  · exact .inr rfl
  · split
    · exact .inl rfl
    · rw [if_neg fun starts => quiet starts.2.1]
      exact .inr rfl

/-- Up to the sequencers' decisions the reference and time stand still. -/
theorem handFirst_frame (s : State) (p : Plan) : ProtFrame s (s.handFirst p) :=
  ((applyProtection_frame s p).trans (takeRxLos_frame _).toProt).trans
    (foldl_related .refl .trans applySeq_frame allTx _).toProt

/-- Every controller after the whole of a hand-over. -/
theorem handRest_evolves (s : State) (p : Plan) (k : s.CounterSound) (c : Chain) :
    Evolves (s.pe.active.handed c) ((s.synth c).auditTaken s.time.steps p.limits.auditInterval s.limits.auditInterval)
      (s.synth c) ((s.handRest p).synth c) := by
  have cut : s.cutAll.syn = s.syn ∧ s.cutAll.fc = s.fc := by
    rw [cutAll_same]
    exact ⟨rfl, rfl⟩
  obtain ⟨k', before⟩ := synStep_steps.handFirst s p (k.congr cut.1 cut.2)
  have first := (SynStep.of_syn (congrArg _ (cutAll_frame s).pe) cut.1).trans before
  have evolved := first.evolves c (s.synth c) (s.synth c).audit (.inl (Waits.refl _))
  have time : (s.handFirst p).time = s.time := (handFirst_frame s p).time
  have taken := evolved.taken s.time.steps p.limits.auditInterval s.limits.auditInterval
  have synth := applySynths_synth (s.handFirst p) p c
  rw [time, State.limits, first.active] at synth
  have counter : ((s.handFirst p).applySynths p).CounterSound := (applySynths_keeps ..).counter k'
  have active : ((s.handFirst p).applySynths p).pe.active = s.pe.active :=
    (congrArg _ (applySynths_frame ..).pe).trans first.active
  have rest := (synStep_steps.trans (synStep_steps.toReferenceSteps.applyReference _ p)
    (synStep_steps.ports _) counter).2.evolves c (s.synth c)
      ((s.synth c).auditTaken s.time.steps p.limits.auditInterval s.limits.auditInterval)
  rw [active, synth] at rest
  rw [handRest_eq]
  exact rest taken

end Audit

end Sys2Proof.Machine
end

section
/-! PROOFS. One sequencer and its synthesizer across a hand-over (R124, R132). -/

namespace Sys2Proof.Machine

/-! ## What a hand-over keeps of one sequencer and its synthesizer (R124, R132) -/

section Beside
variable {s t u : State} {x y : Tx} {I : State → Prop}

/-- Sequencer `x` and its wanted LO stand still, and its synthesizer does not become VERIFIED. -/
structure Beside (x : Tx) (s t : State) : Prop where
  active : t.pe.active = s.pe.active
  seq : t.seq x = s.seq x
  wanted : (t.synth (.tx x)).wanted = (s.synth (.tx x)).wanted
  verified : t.isVerified (.tx x) = true → s.isVerified (.tx x) = true

theorem Beside.of_synth (active : t.pe.active = s.pe.active) (seq : t.seq x = s.seq x)
    (synth : t.synth (.tx x) = s.synth (.tx x) ∨
      (s.CounterSound → (s.synth (.tx x)).state = .queued) ∧
        t.synth (.tx x) = { s.synth (.tx x) with state := .measuring }) : Beside x s t := by
  refine ⟨active, seq, ?_, fun verified => ?_⟩
  · rcases synth with eq | ⟨-, eq⟩ <;> rw [eq]
  · rw [isVerified_iff] at verified ⊢
    rcases synth with eq | ⟨-, eq⟩ <;> rw [eq] at verified
    · exact verified
    · exact nomatch verified

theorem Beside.of_same (active : t.pe.active = s.pe.active) (os : t.os = s.os) (syn : t.syn = s.syn) :
    Beside x s t := by
  refine .of_synth active ?_ (.inl ?_)
  · rw [State.seq, os]
    rfl
  · rw [State.synth, syn]
    rfl

theorem LaneFrame.beside (h : LaneFrame s t) : Beside x s t := .of_same (congrArg _ h.pe) h.os h.syn

theorem Local.beside (h : Local y s t) (apart : x ≠ y) : Beside x s t :=
  .of_synth h.active (h.seq x apart) (h.synth _ fun eq => apart (Chain.tx.inj eq))

theorem Announces.beside (h : Announces s t) : Beside x s t := by
  obtain ⟨-, -, syn, -, os, -⟩ := h.field
  exact .of_same h.active os syn

/-- A statement about sequencer `x` that its own moves keep, and a hand-over in an off state. -/
structure SeqInvariant (x : Tx) (I : State → Prop) : Prop where
  beside : ∀ {s t}, Beside x s t → I s → I t
  move : ∀ s st, s.nextSeq x = some st → I s → I (s.moveSeq x st)
  hand : ∀ s, (s.seq x).state.live = false → I s → I (s.handOver x)

theorem SeqInvariant.decide (h : SeqInvariant x I) (s : State) (y : Tx) : I s → I (s.decideSeq y) := by
  by_cases own : y = x
  · subst own
    exact decideSeq_related (R := fun s t => I s → I t) (fun _ => id) (fun a b => b ∘ a) h.move s
  · exact h.beside ((decideSeq_local s y).beside (Ne.symm own))

theorem SeqInvariant.steps (h : SeqInvariant x I) : HandSteps (fun s t => I s → I t) where
  refl _ := id
  trans a b := b ∘ a
  ref _ _ := h.beside (.of_same rfl rfl rfl)
  notify _ _ := h.beside (.of_same rfl rfl rfl)
  ports _ := h.beside (.of_same rfl rfl rfl)
  spoil _ := h.beside (.of_same rfl rfl rfl)
  device _ _ := h.beside (.of_same rfl rfl rfl)
  start s := by
    have frame := startMeasurement_frame s
    exact h.beside (.of_synth (congrArg _ frame.pe) (by rw [State.seq, frame.os]; rfl) (startMeasurement_synth s _))
  protect s y := protect_related (R := fun s t => I s → I t) (fun a b => b ∘ a) (h.beside (.of_same rfl rfl rfl))
    (fun told => h.beside told.beside) (fun s => h.beside (decideLanes_frame s (s.lanesOn y)).beside) (h.decide · y)
  receive s r := takeRxLo_related (R := fun s t => I s → I t) (fun a b => b ∘ a) (fun _ => id)
    (h.beside (.of_synth (congrArg _ (takeWanted_frame ..).pe) (takeWanted_seq ..) (takeWanted_other nofun)))
    (fun s _ => by
      obtain ⟨pe, syn, -, os⟩ := lanesLeft_same s r
      exact h.beside (.of_same (congrArg _ pe) os syn)) h.decide
  hand s y off := by
    by_cases own : y = x
    · subst own
      exact h.hand s off
    · exact h.beside ((handOver_local s y).beside (Ne.symm own))
  decide := h.decide
  audit s c a := by
    refine h.beside ⟨rfl, rfl, ?_, fun verified => ?_⟩
    · rw [State.synth_setSynth]
      split
      · next eq => rw [eq]
      · rfl
    · rw [isVerified_iff, State.synth_setSynth] at verified
      rw [isVerified_iff]
      split at verified
      · next eq => exact eq ▸ verified
      · exact verified

end Beside

/-! ## The sequencer of an apply -/

section Handed
variable {s t : State} {x : Tx} {w lo : Option Nat}

/-- An off state is left for a live one by a tuned chain alone (R126). -/
theorem nextSeq_dark {st : SeqState} (off : (s.seq x).state.live = false) (untuned : s.tuned x = false)
    (next : s.nextSeq x = some st) : st.live = false := by
  cases state : (s.seq x).state with
  | off =>
    rw [nextSeq_off state, untuned] at next
    split at next
    · exact Option.some.inj next ▸ rfl
    · split at next
      · exact Option.some.inj next ▸ rfl
      · exact nomatch next
  | tuning =>
    rw [nextSeq_tuning state, untuned] at next
    split at next
    · exact Option.some.inj next ▸ rfl
    · split at next
      · exact Option.some.inj next ▸ rfl
      · exact nomatch next
  | lockedOut =>
    rw [nextSeq_lockedOut state] at next
    split at next
    · exact nomatch next
    · exact Option.some.inj next ▸ rfl
  | driveSettle | rampUp | onAir | muted | rampDown | paDischarge => exact nomatch (state ▸ off)

theorem takeWanted_unverified {c : Chain} (changed : lo ≠ (s.synth c).wanted) :
    (s.takeWanted c lo).isVerified c = false := by
  rw [Bool.eq_false_iff, Ne, isVerified_iff]
  rcases (takeWanted_given s c changed).state with eq | eq <;> rw [eq] <;> exact nofun

/-- A change of state that hands over, or one that leaves the synthesizer and what was handed over alone. -/
theorem moveSeq_hands (s : State) (x : Tx) (st : SeqState) :
    let t := s.moveSeq x st
    (t.seq x).state = st ∧
      (((s.seq x).state.live = true ∧ st.live = false ∧ (t.seq x).retunePending = false ∧
          (t.synth (.tx x)).wanted = s.pe.active.tuningLo x ∧
          (s.pe.active.tuningLo x ≠ (s.synth (.tx x)).wanted → t.isVerified (.tx x) = false)) ∨
        (((s.seq x).state.live = true → st.live = true) ∧ (t.seq x).retunePending = (s.seq x).retunePending ∧
          t.synth (.tx x) = s.synth (.tx x))) := by
  intro t
  have rest := (entered_moveSeq s x st).toLaneFrame
  have synth : t.synth (.tx x) = (s.entered x st).synth (.tx x) := rest.untouched.synth_eq _
  have seq : t.seq x = (s.entered x st).seq x := moveSeq_seq ..
  have written := written_unhanded s x st
  have before : (s.written x st).synth (.tx x) = s.synth (.tx x) := by
    rw [State.synth, written.syn]
    rfl
  rcases entered_cases s x st with ⟨live, off, eq⟩ | ⟨stays, eq⟩
  · have handed : t.seq x = _ := seq.trans (eq ▸ handOver_seq (s.written x st) x x)
    rw [if_pos rfl, written_seq, if_pos rfl] at handed
    have lo : t.synth (.tx x) = ((s.written x st).handOver x).synth (.tx x) := synth.trans (by rw [eq])
    refine ⟨handed ▸ rfl, .inl ⟨live, off, handed ▸ rfl, ?_, fun changed => ?_⟩⟩
    · rw [lo, handOver_wanted, written.pe]
    · rw [State.isVerified, lo]
      refine takeWanted_unverified fun same => changed ?_
      have lo : (s.written x st).pe.active.tuningLo x = ((s.written x st).synth (.tx x)).wanted := same
      rwa [written.pe, before] at lo
  · have kept : t.seq x = s.enterSeq x st := seq.trans (by rw [eq, written_seq, if_pos rfl])
    exact ⟨kept ▸ rfl, .inr ⟨stays, kept ▸ rfl, synth.trans (by rw [eq, before])⟩⟩

/-- A sequencer that was live with LO `w` is live with it, a retune pending where the plan has another, or it has
taken the plan's LO, and is off and unverified where that is another (R124, R132). -/
def Retunes (x : Tx) (w : Option Nat) (s : State) : Prop :=
  ((s.seq x).state.live = true ∧ (s.synth (.tx x)).wanted = w ∧
      (s.seq x).retunePending = decide (s.pe.active.tuningLo x ≠ w)) ∨
    ((s.synth (.tx x)).wanted = s.pe.active.tuningLo x ∧ (s.seq x).retunePending = false ∧
      (s.pe.active.tuningLo x ≠ w → (s.seq x).state.live = false ∧ s.isVerified (.tx x) = false))

theorem retunes_invariant (x : Tx) (w : Option Nat) : SeqInvariant x (Retunes x w) where
  beside {s t} h k := by
    have quiet : s.isVerified (.tx x) = false → t.isVerified (.tx x) = false := fun off =>
      Bool.eq_false_iff.mpr fun on => Bool.false_ne_true (off.symm.trans (h.verified on))
    unfold Retunes at k ⊢
    rw [h.active, h.seq, h.wanted]
    exact k.imp_right fun ⟨wanted, retune, rests⟩ =>
      ⟨wanted, retune, fun other => (rests other).imp_right quiet⟩
  move s st next k := by
    have active : (s.moveSeq x st).pe.active = s.pe.active := (moveSeq_local s x st).active
    obtain ⟨state, hands⟩ := moveSeq_hands s x st
    unfold Retunes
    rw [state, active]
    rcases hands with ⟨live, off, retune, wanted, verified⟩ | ⟨stays, retune, synth⟩
    · refine .inr ⟨wanted, retune, fun other => ⟨off, verified ?_⟩⟩
      rcases k with ⟨-, before, -⟩ | ⟨-, -, rests⟩
      · exact before ▸ other
      · exact absurd (rests other).1 (by rw [live]; exact nofun)
    · rw [retune, synth, State.isVerified, synth]
      rcases k with ⟨live, before⟩ | ⟨wanted, none, rests⟩
      · exact .inl ⟨stays live, before⟩
      · refine .inr ⟨wanted, none, fun other => ?_⟩
        obtain ⟨off, unverified⟩ := rests other
        exact ⟨nextSeq_dark off (untuned_of_unverified unverified) next, unverified⟩
  hand s off k := by
    have active : (s.handOver x).pe.active = s.pe.active := (handOver_local s x).active
    have seq := handOver_seq s x x
    rw [if_pos rfl] at seq
    unfold Retunes
    rw [active, seq, handOver_wanted]
    refine .inr ⟨rfl, rfl, fun other => ⟨off, ?_⟩⟩
    rcases k with ⟨live, -⟩ | ⟨wanted, -, rests⟩
    · exact absurd (off.symm.trans live) nofun
    · have unverified := (rests other).2
      have same : s.handOver x = s.setSeq x { s.seq x with
          handedOver := s.pe.active.tuningLo x, retunePending := false } := if_pos wanted.symm
      rw [same]
      exact unverified

/-- A sequencer that has no retune pending, and the plan's LO unless it is off. -/
def AwaitsLo (x : Tx) (s : State) : Prop :=
  (s.seq x).retunePending = false ∧
    ((s.synth (.tx x)).wanted = s.pe.active.tuningLo x ∨ (s.seq x).state.live = false)

/-- A sequencer whose synthesizer has the plan's LO. -/
def HasLo (x : Tx) (s : State) : Prop :=
  (s.seq x).retunePending = false ∧ (s.synth (.tx x)).wanted = s.pe.active.tuningLo x

theorem handOver_hasLo (s : State) (x : Tx) : HasLo x (s.handOver x) := by
  have seq := handOver_seq s x x
  rw [if_pos rfl] at seq
  exact ⟨seq ▸ rfl, (handOver_wanted s x).trans (by rw [(handOver_local s x).active])⟩

theorem hasLo_invariant (x : Tx) : SeqInvariant x (HasLo x) where
  beside h k := by
    unfold HasLo at k ⊢
    rwa [h.active, h.seq, h.wanted]
  move s st _ k := by
    have active : (s.moveSeq x st).pe.active = s.pe.active := (moveSeq_local s x st).active
    obtain ⟨-, hands⟩ := moveSeq_hands s x st
    unfold HasLo
    rw [active]
    rcases hands with ⟨-, -, retune, wanted, -⟩ | ⟨-, retune, synth⟩
    · exact ⟨retune, wanted⟩
    · rw [retune, synth]
      exact k
  hand s _ _ := handOver_hasLo s x

theorem awaitsLo_invariant (x : Tx) : SeqInvariant x (AwaitsLo x) where
  beside h k := by
    unfold AwaitsLo at k ⊢
    rwa [h.active, h.seq, h.wanted]
  move s st next k := by
    have active : (s.moveSeq x st).pe.active = s.pe.active := (moveSeq_local s x st).active
    obtain ⟨state, hands⟩ := moveSeq_hands s x st
    unfold AwaitsLo
    rw [active, state]
    rcases hands with ⟨-, -, retune, wanted, -⟩ | ⟨-, retune, synth⟩
    · exact ⟨retune, .inl wanted⟩
    · rw [retune, synth]
      refine ⟨k.1, ?_⟩
      by_cases wanted : (s.synth (.tx x)).wanted = s.pe.active.tuningLo x
      · exact .inl wanted
      · refine .inr (nextSeq_dark (k.2.resolve_left wanted) ?_ next)
        have other : ((s.synth (.tx x)).wanted == s.pe.active.tuningLo x) = false := beq_eq_false_iff_ne.mpr wanted
        rw [State.tuned, State.verifiedFor, other, Bool.and_false]
  hand s _ _ := by
    obtain ⟨retune, wanted⟩ := handOver_hasLo s x
    exact ⟨retune, .inl wanted⟩

theorem applySeq_hasLo {s : State} {x : Tx} (k : AwaitsLo x s) : HasLo x (s.applySeq x) := by
  unfold State.applySeq
  split
  · next live =>
    have lo := k.2.resolve_right (by rw [live]; exact nofun)
    exact (hasLo_invariant x).decide s x ⟨k.1, lo⟩
  · exact (hasLo_invariant x).decide _ x (handOver_hasLo s x)

/-- A sequencer in an off state takes the plan's LO at its own turn (R124). -/
theorem applySeqs_hasLo {s : State} {x : Tx} (k : AwaitsLo x s) : HasLo x (allTx.foldl State.applySeq s) := by
  have turn (l : List Tx) (mem : x ∈ l) (s : State) (k : AwaitsLo x s) : HasLo x (l.foldl State.applySeq s) := by
    induction l generalizing s with
    | nil => exact nomatch mem
    | cons y l ih =>
      by_cases own : y = x
      · subst own
        exact foldl_related (f := State.applySeq) (R := fun s t => HasLo y s → HasLo y t) (fun _ => id)
          (fun a b => b ∘ a) (hasLo_invariant y).steps.applySeq l _ (applySeq_hasLo k)
      · exact ih ((List.mem_cons.mp mem).resolve_left (Ne.symm own)) _
          ((awaitsLo_invariant x).steps.applySeq s y k)
  exact turn allTx (mem_allTx x) s k

end Handed

end Sys2Proof.Machine
end

section
/-! PROOFS. The receive synthesizers and the reference across a hand-over (R64, R73). -/

namespace Sys2Proof.Machine

/-! ## What an apply makes of sequencers, synthesizers and the reference (R64, R73, R84, R124, R132) -/

section Rest
variable {s t u v : State} {p plan : Plan} {x : Tx}

theorem cutAll_beside (s : State) (x : Tx) : Beside x s s.cutAll := by
  rw [cutAll_same]
  exact .of_same rfl rfl rfl

theorem handRest_retunes {w : Option Nat} (k : Retunes x w s) (p : Plan) : Retunes x w (s.handRest p) :=
  (retunes_invariant x w).steps.handRest s p ((retunes_invariant x w).beside (cutAll_beside s x) k)

theorem handRest_hasLo (k : AwaitsLo x s) (p : Plan) : HasLo x (s.handRest p) := by
  have before := (awaitsLo_invariant x).steps
  have after := (hasLo_invariant x).steps
  have k := (awaitsLo_invariant x).beside (cutAll_beside s x) k
  have k := before.severitiesTaken s.cutAll p k
  have k := before.receive _ .rx1 (before.receive _ .rx0 k)
  rw [handRest_eq]
  exact after.ports _ (after.applyReference _ p (after.applySynths _ p (applySeqs_hasLo k)))

theorem sameReceive_reference : ReferenceSteps SameReceive where
  refl := .refl
  trans := .trans
  ref _ _ := .of_syn rfl
  notify _ _ := .of_syn rfl
  ports _ := .of_syn rfl
  spoil _ := .of_syn rfl
  device _ _ := .of_syn rfl
  start s _ := (startMeasurement_sameLo s).wanted _
  protect s x := (protect_local s x).sameReceive

theorem applySeq_local (s : State) (x : Tx) : Local x s (s.applySeq x) := by
  unfold State.applySeq
  split
  · exact decideSeq_local s x
  · exact (handOver_local s x).trans (decideSeq_local ..)

/-- The receive synthesizers have the LOs of the active plan after a hand-over (R73). -/
theorem handRest_receive (s : State) (p : Plan) (r : Rx) :
    ((s.handRest p).synth (.rx r)).wanted = s.pe.active.rx.get r := by
  have active : (s.cutAll.severitiesTaken p).pe.active = s.pe.active :=
    (keepsFields_steps.severitiesTaken s.cutAll p).active.trans (congrArg PlanEngine.active (cutAll_frame s).pe)
  have los := takeRxLos_wanted (s.cutAll.severitiesTaken p) r
  have seqs (v : State) : SameReceive v (allTx.foldl State.applySeq v) :=
    foldl_related (R := SameReceive) .refl .trans (fun s x => (applySeq_local s x).sameReceive) allTx v
  have audits (v : State) : SameReceive v (v.applySynths p) := fun r => by rw [applySynths_synth]
  have rest (v : State) : SameReceive v (v.applyReference p).applyPorts :=
    .trans (sameReceive_reference.applyReference v p) (sameReceive_reference.ports _)
  rw [handRest_eq, rest, audits, State.handFirst, seqs, los, active]

/-! ## The reference of an apply (R64) -/

/-- What a changed profile makes of a reference monitor (R64). -/
structure RefTaken (r a : RefMonitor) (old new : Limits) (now : Nat) : Prop where
  qualifying : r.state = .qualifying → old.qualifyTime ≠ new.qualifyTime →
    (now < r.enteredAt + 100 * new.qualifyTime → a = { r with qualify := some (r.enteredAt + 100 * new.qualifyTime) }) ∧
    (r.enteredAt + 100 * new.qualifyTime ≤ now →
      a.state = (if r.disciplined = true then .locked else .holdover) ∧ a.enteredAt = now)
  holdover : r.state = .holdover → old.holdoverAllowance ≠ new.holdoverAllowance →
    (new.holdoverAllowance = 0 → a = { r with holdover := none }) ∧
    (0 < new.holdoverAllowance → now < r.enteredAt + 6000 * new.holdoverAllowance →
      a = { r with holdover := some (r.enteredAt + 6000 * new.holdoverAllowance) }) ∧
    (0 < new.holdoverAllowance → r.enteredAt + 6000 * new.holdoverAllowance ≤ now →
      a.state = .expired ∧ a.enteredAt = now)
  kept : (r.state = .qualifying → old.qualifyTime = new.qualifyTime) →
    (r.state = .holdover → old.holdoverAllowance = new.holdoverAllowance) → a = r

theorem applyReference_still (still : (s.applyReference p).ref = s.ref)
    (qualify : s.ref.state = .qualifying → p.limits.qualifyTime = s.limits.qualifyTime)
    (holdover : s.ref.state = .holdover → p.limits.holdoverAllowance = s.limits.holdoverAllowance) :
    RefTaken s.ref (s.applyReference p).ref p.limits s.limits s.time.steps :=
  ⟨fun is other => absurd (qualify is) other, fun is other => absurd (holdover is) other, fun _ _ => still⟩

theorem applyReference_taken (s : State) (p : Plan) :
    RefTaken s.ref (s.applyReference p).ref p.limits s.limits s.time.steps := by
  cases state : s.ref.state with
  | qualifying =>
    have eq : s.applyReference p = if p.limits.qualifyTime = s.limits.qualifyTime then s
        else if s.ref.enteredAt + 100 * s.limits.qualifyTime ≤ s.time.steps then s.setReference s.ref.qualified
        else { s with ref := { s.ref with qualify := some (s.ref.enteredAt + 100 * s.limits.qualifyTime) } } := by
      simp only [State.applyReference, state]
    by_cases same : p.limits.qualifyTime = s.limits.qualifyTime
    · refine applyReference_still ?_ (fun _ => same) fun is => nomatch state.symm.trans is
      rw [eq, if_pos same]
    · refine ⟨fun _ _ => ?_, fun is => (nomatch state.symm.trans is), fun none _ => absurd (none state) same⟩
      rw [eq, if_neg same]
      split
      · next past =>
        rw [(setReference_frame ..).2]
        exact ⟨fun early => absurd past (Nat.not_le.mpr early), fun _ => ⟨rfl, rfl⟩⟩
      · next early => exact ⟨fun _ => rfl, fun past => absurd past early⟩
  | holdover =>
    have eq : s.applyReference p = if p.limits.holdoverAllowance = s.limits.holdoverAllowance then s
        else if s.limits.holdoverAllowance = 0 then { s with ref := { s.ref with holdover := none } }
        else if s.ref.enteredAt + 6000 * s.limits.holdoverAllowance ≤ s.time.steps then s.setReference .expired
        else { s with ref := { s.ref with
          holdover := some (s.ref.enteredAt + 6000 * s.limits.holdoverAllowance) } } := by
      simp only [State.applyReference, state]
    by_cases same : p.limits.holdoverAllowance = s.limits.holdoverAllowance
    · refine applyReference_still ?_ (fun is => nomatch state.symm.trans is) fun _ => same
      rw [eq, if_pos same]
    · refine ⟨fun is => (nomatch state.symm.trans is), fun _ _ => ?_, fun _ none => absurd (none state) same⟩
      rw [eq, if_neg same]
      split
      · next zero => exact ⟨fun _ => rfl, fun some => absurd zero (by omega), fun some => absurd zero (by omega)⟩
      · next some =>
        split
        · next past =>
          rw [(setReference_frame ..).2]
          exact ⟨fun zero => absurd zero some, fun _ early => absurd past (Nat.not_le.mpr early), fun _ _ => ⟨rfl, rfl⟩⟩
        · next early => exact ⟨fun zero => absurd zero some, fun _ _ => rfl, fun _ past => absurd past early⟩
  | absent | locked | expired =>
    refine applyReference_still ?_ (fun is => nomatch state.symm.trans is) fun is => nomatch state.symm.trans is
    simp only [State.applyReference, state]

theorem handRest_ref (s : State) (p : Plan) : RefTaken s.ref (s.handRest p).ref p.limits s.pe.active.limits s.time.steps := by
  have first := handFirst_frame s p
  have audits := applySynths_frame (s.handFirst p) p
  have active : ((s.handFirst p).applySynths p).limits = s.pe.active.limits := by
    have plans := first.plans
    rw [State.limits, audits.pe, plans.1]
  have taken := applyReference_taken ((s.handFirst p).applySynths p) p
  rwa [active, audits.ref, audits.time, first.ref, first.time] at taken

/-! ## The other blocks of an apply -/

/-- The change that an apply takes: either kind gives the machine the plan (R46 to R48). -/
theorem exec_apply {c : Instr} {p : PendingApply} (mark : MakesMark c s u) (pending : s.pe.pendingApply = some p)
    (change : p.change = .commit plan ∨ (p.change = .revert ∧ s.pe.entry 0 = some plan)) :
    ∃ e n, e.active = plan ∧ exec c s = .next ((u.replanned e).applied s.pe.active n) := by
  rcases change with commit | ⟨revert, entry⟩
  · exact ⟨_, _, rfl, exec_commit mark pending commit⟩
  · exact ⟨_, _, rfl, exec_revert mark pending revert entry⟩

end Rest

end Sys2Proof.Machine
end

section
/-! PROOFS. What an apply does in the other blocks (O37). -/

namespace Sys2Proof.Machine

/-! ## The other blocks of an apply (O37) -/

section Blocks
variable {s u v t : State} {x : Tx} {plan : Plan}

/-- What the sequencers and their synthesizers have after an apply (R124, R132). -/
theorem placed_retunes (h : Replans s v) (live : (s.seq x).state.live = true) (p : Plan) :
    Retunes x (s.synth (.tx x)).wanted (v.placed p) := by
  have frame := placed_frame v p
  refine .inl ⟨?_, ?_, ?_⟩
  · rw [placed_seq, State.fieldsTaken, h.seq_eq]
    exact live
  · rw [frame.synth_eq, h.synth_eq]
  · rw [placed_seq, State.fieldsTaken, h.seq_eq, if_pos live, frame.pe, h.synth_eq]
    exact Bool.eq_iff_iff.mpr (by rw [bne_iff_ne, decide_eq_true_iff])

theorem placed_awaitsLo (h : Replans s v) (sound : (s.seq x).Sound) (off : (s.seq x).state.live = false) (p : Plan) :
    AwaitsLo x (v.placed p) := by
  have still : (s.seq x).retunePending = false :=
    Bool.eq_false_iff.mpr fun pending => Bool.false_ne_true (off.symm.trans (sound.retune pending))
  refine ⟨?_, .inr ?_⟩
  · rw [placed_seq, State.fieldsTaken, h.seq_eq, if_neg (by rw [off]; exact Bool.false_ne_true)]
    exact still
  · rw [placed_seq, State.fieldsTaken, h.seq_eq]
    exact off

theorem applied_sequencer (h : Replans s v) (active : v.pe.active = plan) (sound : s.SequencersSound) (p : Plan) (x : Tx) :
    let t := (v.placed p).handRest p
    let q := t.seq x
    ((s.seq x).state.live = false →
      q.handedOver = plan.tuningLo x ∧ q.retunePending = false ∧ (t.synth (.tx x)).wanted = plan.tuningLo x) ∧
    ((s.seq x).state.live = true → q.state.live = true →
      q.retunePending = decide (plan.tuningLo x ≠ (s.synth (.tx x)).wanted) ∧
      q.handedOver = (s.seq x).handedOver ∧ (t.synth (.tx x)).wanted = (s.synth (.tx x)).wanted) ∧
    ((s.seq x).state.live = true → q.state.live = false →
      q.handedOver = plan.tuningLo x ∧ q.retunePending = false ∧ (t.synth (.tx x)).wanted = plan.tuningLo x) := by
  intro t q
  have eq : v.handPlan p = t := handPlan_placed v p
  have chains : KeepsChains v t := eq ▸ handPlan_keepsChains v p
  have before : v.SequencerOk x := by
    rw [State.SequencerOk, h.seq_eq, h.synth_eq]
    exact sound x
  have handed : q.handedOver = (t.synth (.tx x)).wanted := (chains.sequencer x before).2
  have lo : t.pe.active.tuningLo x = plan.tuningLo x := by rw [chains.active, active]
  have retunes (live : (s.seq x).state.live = true) := handRest_retunes (placed_retunes h live p) p
  have hasLo (off : (s.seq x).state.live = false) := handRest_hasLo (placed_awaitsLo h (sound x).1 off p) p
  change _ → Retunes x _ t at retunes
  change _ → HasLo x t at hasLo
  unfold Retunes at retunes
  unfold HasLo at hasLo
  rw [lo] at retunes hasLo
  refine ⟨fun off => ?_, fun live still => ?_, fun live off => ?_⟩
  · obtain ⟨retune, wanted⟩ := hasLo off
    exact ⟨handed.trans wanted, retune, wanted⟩
  · rcases retunes live with ⟨-, wanted, retune⟩ | ⟨wanted, retune, rests⟩
    · exact ⟨retune, handed.trans (wanted.trans (sound x).2.symm), wanted⟩
    · have same : plan.tuningLo x = (s.synth (.tx x)).wanted := by
        by_contra other
        exact Bool.false_ne_true ((rests other).1.symm.trans still)
      exact ⟨retune.trans (decide_eq_false (not_not.mpr same)).symm,
        handed.trans (wanted.trans (same.trans (sound x).2.symm)), wanted.trans same⟩
  · rcases retunes live with ⟨on, -⟩ | ⟨wanted, retune, -⟩
    · exact absurd (off.symm.trans on) Bool.false_ne_true
    · exact ⟨handed.trans wanted, retune, wanted⟩

theorem announcing_frame (v : State) (n : Notice) : ProtFrame v (v.announcing n) :=
  (notifyBoth_frame v n).toProt.trans (requestWrite_frame ..)

/-- What a controller is after an apply, as the statement has it. -/
theorem Evolves.spec {lo : Option Nat} {old new now : Nat} {x y : SynContext}
    (h : Evolves lo (x.auditTaken now old new) x y) :
    (y.wanted = x.wanted → y.programmed = x.programmed ∧ y.attempts = x.attempts ∧ y.transfer = x.transfer ∧
      y.lost = x.lost ∧ y.audit = x.auditTaken now old new) ∧
    (∀ l, y.wanted = some l → y.wanted ≠ x.wanted → x.transfer ≠ .powerDown →
      y.state = .programming ∧
      (x.state ≠ .programming →
        y.attempts = 1 ∧ y.transfer = .programming (dividerWords l) ∧ y.output = .disabled ∧
        (x.state ≠ .idle → y.audit = none ∧ y.settle = none ∧ y.retry = none)) ∧
      (x.state = .programming → y.attempts = 0 ∧ y.restartPending = true ∧ y.transfer = x.transfer)) ∧
    (y.wanted = none → y.wanted ≠ x.wanted → x.state ≠ .idle → x.state ≠ .programming →
      y.state = .idle ∧ y.programmed = none ∧ y.attempts = 0 ∧ y.lost = false ∧ y.transfer = .powerDown) := by
  rcases h with waits | given
  · refine ⟨fun _ => ?_, fun _ _ other => absurd waits.wanted other, fun _ other => absurd waits.wanted other⟩
    rw [waits.same]
    exact ⟨rfl, rfl, rfl, rfl, rfl⟩
  · exact ⟨fun same => absurd (given.wanted.symm.trans same) given.changed,
      fun l is _ => given.programs l (given.wanted.symm.trans is), fun is _ => given.rests (given.wanted.symm.trans is)⟩

theorem applied_protection (h : Replans s v) (active : v.pe.active = plan) (level : s.LevelSound) (x : Tx) :
    let t := (v.placed s.pe.active).handRest s.pe.active
    let b := s.protection x
    let a := t.protection x
    a.highest = highestSeverity plan.severities t.pu.device a.present ∧ a.highest ≤ a.level ∧
      b.level ≤ a.level ∧ a.trips.length ≤ max b.trips.length plan.limits.tripLimit ∧
      (b.lockedOut = true → a.lockedOut = true) ∧
      (b.level = a.level →
        a.lockedOut = b.lockedOut ∧ a.trips = b.trips.drop (b.trips.length - plan.limits.tripLimit)) := by
  intro t b a
  have eq : v.handPlan s.pe.active = t := handPlan_placed ..
  have chains : KeepsChains v t := eq ▸ handPlan_keepsChains v _
  obtain ⟨trips, levels, -⟩ := handPlan_sound (s := v) (p := s.pe.active)
  rw [eq] at trips levels
  have frame := placed_frame v s.pe.active
  have guards : Guards (v.placed s.pe.active).cutAll t := guards_steps.handRest ..
  have cut : (v.placed s.pe.active).cutAll.protection x = b.cut plan.limits := by
    rw [cutAll_protection, frame.protection_eq, h.protection_eq, State.limits, frame.pe, active]
  have own := levels x fun same => by
    rw [State.LevelOk, ← same, h.protection_eq, h.pu]
    exact level x
  have limit : a.trips.length ≤ plan.limits.tripLimit := by
    have ok := trips x
    rwa [State.TripsOk, State.limits, chains.active, active] at ok
  rw [State.LevelOk, State.severities, chains.active, active] at own
  have rises := guards.rises x
  have locked := guards.locked x
  have still := guards.still x
  rw [cut] at rises locked still
  exact ⟨own.1, own.2, rises, limit.trans (le_max_right ..), locked, fun same => (still same.symm).symm⟩

/-- Settles O37, block by block: `applied_sequencer`, `handRest_receive`, `handRest_evolves`, `applied_protection`
and `handRest_ref`. -/
theorem applyHandsBlocks : Obligations.ApplyHandsBlocks := by
  intro c s u p plan mark pending change level counter sequencers
  obtain ⟨-, time⟩ := exec_of_makesMark mark
  obtain ⟨e, n, plans, run⟩ := exec_apply mark pending change
  have replans : Replans s ((u.replanned e).announcing n) := announcing_replans (Replans.of_time time e) n
  have outside := announcing_outside (u.replanned e) n
  have active : ((u.replanned e).announcing n).pe.active = plan := (congrArg _ outside.pe).trans plans
  have told := announcing_frame (u.replanned e) n
  have steps : ((u.replanned e).announcing n).time.steps = u.time.steps := by
    rw [told.time]
    rfl
  have ref : ((u.replanned e).announcing n).ref = s.ref := told.ref.trans time.ref
  rw [applied_eq, handPlan_placed] at run
  generalize (u.replanned e).announcing n = v at run replans active steps ref
  have frame := placed_frame v s.pe.active
  have after := handPlan_frame v s.pe.active
  rw [handPlan_placed] at after
  refine ⟨_, run, ?_, applied_sequencer replans active sequencers _, fun r => ?_, fun chain => ?_,
    applied_protection replans active level, ?_⟩
  · rw [after.time, steps]
  · rw [handRest_receive, frame.pe, active]
  · have evolves := handRest_evolves (v.placed s.pe.active) s.pe.active
      ((placed_keepsChains v _).counter (replans.counter counter)) chain
    rw [frame.synth_eq, replans.synth_eq, frame.time, steps, State.limits, frame.pe, active] at evolves
    exact evolves.spec
  · have taken := handRest_ref (v.placed s.pe.active) s.pe.active
    rw [frame.ref, ref, frame.pe, active, frame.time, steps] at taken
    exact ⟨taken.qualifying, taken.holdover, taken.kept⟩

end Blocks

end Sys2Proof.Machine
end

section
/-! PROOFS. The words of a lane while a controller takes its LO. -/

namespace Sys2Proof.Machine

/-! ## The words of a lane while a controller takes its LO (R97) -/

section Words
variable {s t u : State} {n : Slot} {e : SlotEntry} {c : Chain}

/-- A word of a chain: it stands with the chain's programmed words, or both are made none. -/
def WordKept (p q : Option DividerWords) (old new : Option Word) : Prop := (q = p ∧ new = old) ∨ (q = none ∧ new = none)

theorem WordKept.trans {p q r : Option DividerWords} {a b c : Option Word} (h : WordKept p q a b)
    (k : WordKept q r b c) : WordKept p r a c := by
  rcases k with ⟨rfl, rfl⟩ | none
  · exact h
  · exact .inr none

/-- The words of a lane with entry `e`, each with its own chain. -/
structure WordsKept (e : SlotEntry) (n : Slot) (s t : State) : Prop where
  primary : WordKept (s.synth (.rx e.inputChain)).programmed (t.synth (.rx e.inputChain)).programmed
    (s.lane n).primaryWord (t.lane n).primaryWord
  single : e.fallback = none → (t.lane n).fallbackWord = (s.lane n).fallbackWord
  fallback : ∀ fb, e.fallback = some fb → WordKept (s.synth (.rx fb.chain)).programmed
    (t.synth (.rx fb.chain)).programmed (s.lane n).fallbackWord (t.lane n).fallbackWord
  transmit : WordKept (s.synth (.tx e.outputChain)).programmed (t.synth (.tx e.outputChain)).programmed
    (s.lane n).transmitWord (t.lane n).transmitWord

theorem WordsKept.trans (a : WordsKept e n s t) (b : WordsKept e n t u) : WordsKept e n s u :=
  ⟨a.primary.trans b.primary, fun none => (b.single none).trans (a.single none),
    fun fb is => (a.fallback fb is).trans (b.fallback fb is), a.transmit.trans b.transmit⟩

theorem WordsKept.of_same (programmed : ∀ c, (t.synth c).programmed = (s.synth c).programmed)
    (primary : (t.lane n).primaryWord = (s.lane n).primaryWord)
    (fallback : (t.lane n).fallbackWord = (s.lane n).fallbackWord)
    (transmit : (t.lane n).transmitWord = (s.lane n).transmitWord) : WordsKept e n s t :=
  ⟨.inl ⟨programmed _, primary⟩, fun _ => fallback, fun _ _ => .inl ⟨programmed _, fallback⟩, .inl ⟨programmed _, transmit⟩⟩

/-- The programmed words of a controller that has waited are what they were. -/
theorem programmed_of_waited {d : Chain} (synth : t.synth d = s.synth d ∨
    ((s.CounterSound → (s.synth d).state = .queued) ∧ t.synth d = { s.synth d with state := .measuring })) :
    (t.synth d).programmed = (s.synth d).programmed := by
  rcases synth with eq | ⟨-, eq⟩ <;> rw [eq]

theorem goIdle_bare (s : State) (c : Chain) (bare : (s.lane n).slot = none) : (s.goIdle c).lane n = s.lane n := by
  rw [goIdle_eq, State.lane, withdrawSynth_lanes]
  exact (refreshWords_lane ..).trans (refreshed_absent c (s := s.setSynth c _) bare)

/-- A new wanted LO leaves words and programmed words, or makes those of its chain none with the words that use it. -/
theorem takeWanted_words (s : State) (c : Chain) (lo : Option Nat) :
    (((s.takeWanted c lo).synth c).programmed = (s.synth c).programmed ∧
      ∀ n, (s.takeWanted c lo).lane n = s.lane n) ∨
    (((s.takeWanted c lo).synth c).programmed = none ∧
      (∀ n, (s.lane n).slot = none → (s.takeWanted c lo).lane n = s.lane n) ∧
      ∀ n e, (s.lane n).slot = some e → (s.takeWanted c lo).lane n = { s.lane n with
        primaryWord := if .rx e.inputChain = c then none else (s.lane n).primaryWord
        fallbackWord :=
          match e.fallback with
          | none => (s.lane n).fallbackWord
          | some fb => if .rx fb.chain = c then none else (s.lane n).fallbackWord
        transmitWord := if .tx e.outputChain = c then none else (s.lane n).transmitWord }) := by
  have set (v : State) (z : SynContext) (same : z.programmed = (v.synth c).programmed) :
      ((v.setSynth c z).synth c).programmed = (v.synth c).programmed ∧ ∀ n, (v.setSynth c z).lane n = v.lane n :=
    ⟨by rw [State.synth_setSynth_same, same], fun _ => rfl⟩
  unfold State.takeWanted
  split
  · exact .inl ⟨rfl, fun _ => rfl⟩
  · split
    · next l _ =>
      rcases takeLo_cases s c l with ⟨-, eq⟩ | ⟨-, eq⟩ | ⟨-, -, eq⟩ <;> rw [eq]
      · dsimp only
        split
        · exact .inl (set _ _ rfl)
        · refine .inl ⟨?_, fun _ => rfl⟩
          rw [startProgramming_eq, State.synth_setSynth_same, State.synth_setSynth_same]
          rfl
      · split <;> exact .inl (set _ _ rfl)
      · refine .inl ⟨?_, fun n => ?_⟩
        · rw [(startMeasurement_aside _ c (reprogrammed_absent s c _)).2, withdrawSynth_synth, startProgramming_eq,
            State.synth_setSynth_same, State.synth_setSynth_same, dropCycle_synth]
          rfl
        · rw [startMeasurement_lane, withdrawSynth_lane]
          rfl
    · rcases takeNone_cases s c with ⟨-, eq⟩ | ⟨-, eq⟩ | ⟨-, -, eq⟩ <;> rw [eq]
      · exact .inl (set _ _ rfl)
      · split <;> exact .inl (set _ _ rfl)
      · have absent : ((s.dropCycle c).goIdle c).Absent c := by
          rw [State.Absent, goIdle_fc]
          exact dropCycle_absent s c
        refine .inr ⟨?_, fun n bare => ?_, fun n e slot => ?_⟩
        · rw [(startMeasurement_aside _ c absent).2, goIdle_synth]
          rfl
        · exact (startMeasurement_lane ..).trans (goIdle_bare (s.dropCycle c) c bare)
        · rw [startMeasurement_lane, goIdle_lane c (s := s.dropCycle c) slot]
          rfl

theorem takeWanted_bare (s : State) (c : Chain) (lo : Option Nat) (bare : (s.lane n).slot = none) :
    (s.takeWanted c lo).lane n = s.lane n := by
  rcases takeWanted_words s c lo with ⟨-, lanes⟩ | ⟨-, lanes, -⟩
  · exact lanes n
  · exact lanes n bare

theorem takeWanted_wordsKept (s : State) (c : Chain) (lo : Option Nat) (slot : (s.lane n).slot = some e) :
    WordsKept e n s (s.takeWanted c lo) := by
  have other (d : Chain) (apart : d ≠ c) : ((s.takeWanted c lo).synth d).programmed = (s.synth d).programmed :=
    programmed_of_waited (takeWanted_other apart)
  rcases takeWanted_words s c lo with ⟨same, lanes⟩ | ⟨none, -, lanes⟩
  · refine .of_same (fun d => ?_) ?_ ?_ ?_
    · by_cases own : d = c
      · exact own ▸ same
      · exact other d own
    all_goals rw [lanes]
  · have lane := lanes n e slot
    have kept (d : Chain) (old : Option Word) : WordKept (s.synth d).programmed ((s.takeWanted c lo).synth d).programmed
        old (if d = c then Option.none else old) := by
      by_cases own : d = c
      · exact .inr ⟨own ▸ none, if_pos own⟩
      · exact .inl ⟨other d own, if_neg own⟩
    refine ⟨?_, fun single => ?_, fun fb is => ?_, ?_⟩ <;> rw [lane]
    · exact kept ..
    · rw [single]
    · rw [is]
      exact kept ..
    · exact kept ..

end Words

end Sys2Proof.Machine
end

section
/-! PROOFS. What a hand-over may do to a lane once the slots are placed. -/

namespace Sys2Proof.Machine

/-! ## What a hand-over may do to a lane, once the slots have been taken (R97, R98, R104, R110, R116) -/

section Hands
variable {s t u : State} {n : Slot} {e : SlotEntry} {x y : Tx}

/-- The synthesizer of the lane's source is VERIFIED. -/
def State.drawsVerified (s : State) (n : Slot) (e : SlotEntry) : Bool :=
  s.isVerified (.rx (e.sourceChain (s.input n).source))

/-- The lane cannot be measured again at this event: its chain discharges or is not enabled, or its source is not
VERIFIED (R95). -/
def State.Barred (s : State) (n : Slot) (e : SlotEntry) : Prop :=
  (s.seq e.outputChain).state = .paDischarge ∨ (s.pe.active.tx.get e.outputChain).enabled = false ∨
    s.drawsVerified n e = false

/-- What a change makes of the window in progress (R110). -/
def State.voidNow (s : State) (n : Slot) : Bool :=
  !(decide (s.time.lastWindow = s.time.steps) && (s.lane n).state.measured)

/-- One lane with entry `e`. -/
structure LaneHands (n : Slot) (e : SlotEntry) (s t : State) : Prop extends WordsKept e n s t where
  start : (t.lane n).start = (t.lane n).current ∨
    ((t.lane n).start = (s.lane n).start ∧ (t.lane n).current = (s.lane n).current)
  draws : t.drawsVerified n e = true → s.drawsVerified n e = true
  current : (t.lane n).current = (s.lane n).current ∨ ((t.lane n).current = 0 ∧ t.drawsVerified n e = false)
  muted : s.drawsVerified n e = true → t.drawsVerified n e = false → (t.lane n).current = 0
  phase : ((t.lane n).phaseReset = (s.lane n).phaseReset ∧ t.phaseOf n = s.phaseOf n) ∨
    ((s.lane n).phaseReset = true ∧ (t.lane n).phaseReset = false ∧ t.phaseOf n = ⟨0, 0⟩)
  window : ((t.input n).windowVoid = (s.input n).windowVoid ∧ (t.lane n).state.measured = (s.lane n).state.measured) ∨
    (t.input n).windowVoid = t.voidNow n
  barred : s.Barred n e → t.Barred n e
  leaves : (s.lane n).state.measured = true → (t.lane n).state.measured = true ∨ t.Barred n e
  stays : (s.lane n).state.measured = true → (t.lane n).state.measured = true →
    (t.input n).windowVoid = (s.input n).windowVoid

/-- Every lane, mixer and input record, and the probe. -/
structure HandsLanes (s t : State) : Prop where
  time : t.time = s.time
  active : t.pe.active = s.pe.active
  slots : ∀ n, (t.lane n).slot = (s.lane n).slot
  inputs : ∀ n, { t.input n with windowVoid := true } = { s.input n with windowVoid := true }
  verified : ∀ r, t.isVerified (.rx r) = true → s.isVerified (.rx r) = true
  mixer : ∀ x, t.mixer x = s.mixer x ∨ t.mixer x = s.restarted x
  bare : ∀ n, (s.lane n).slot = none → t.lane n = s.lane n ∧ t.input n = s.input n ∧ t.phaseOf n = s.phaseOf n
  lanes : ∀ n e, (s.lane n).slot = some e → LaneHands n e s t
  visit : t.probe.visit = s.probe.visit
  probe : ∀ n e, s.probe.visit = some n → (s.lane n).slot = some e →
    t.probe = { s.probe with
      clean := s.probe.clean && (!s.isVerified (.rx e.inputChain) || t.isVerified (.rx e.inputChain)) }

/-- The counter is sound and every lane has the state of its table (R95). -/
structure Standing (s : State) : Prop where
  counter : s.CounterSound
  lanes : ∀ n, (s.lane n).state = s.laneStateOf n

theorem Standing.barred (h : Standing s) (slot : (s.lane n).slot = some e) (barred : s.Barred n e) :
    (s.lane n).state.measured = false := by
  have held : s.laneStateOf n = .held := by
    refine laneStateOf_held slot ?_
    rcases barred with down | off | unverified
    · exact .inl (down ▸ rfl)
    · exact .inr (.inl off)
    · exact .inr (.inr unverified)
  rw [h.lanes, held]
  rfl

theorem voidNow_congr (time : t.time = s.time) (measured : (t.lane n).state.measured = (s.lane n).state.measured) :
    t.voidNow n = s.voidNow n := by
  rw [State.voidNow, State.voidNow, time, measured]

theorem LaneHands.trans (settled : u.Barred n e → (u.lane n).state.measured = false) (time : u.time = t.time)
    (a : LaneHands n e s t) (b : LaneHands n e t u) : LaneHands n e s u where
  toWordsKept := a.toWordsKept.trans b.toWordsKept
  start := by
    rcases b.start with same | ⟨start, current⟩
    · exact .inl same
    · rw [start, current]
      exact a.start
  draws := a.draws ∘ b.draws
  current := by
    rcases b.current with same | none
    · rw [same]
      refine a.current.imp_right fun ⟨zero, off⟩ => ⟨zero, ?_⟩
      exact Bool.eq_false_iff.mpr fun on => Bool.false_ne_true (off.symm.trans (b.draws on))
    · exact .inr none
  muted on off := by
    by_cases middle : t.drawsVerified n e = true
    · exact b.muted middle off
    · have zero := a.muted on (Bool.eq_false_iff.mpr middle)
      rcases b.current with same | ⟨zero', -⟩
      · exact same.trans zero
      · exact zero'
  phase := by
    rcases b.phase with ⟨reset, phase⟩ | ⟨waits, cleared, phase⟩
    · rw [reset, phase]
      exact a.phase
    · rcases a.phase with ⟨reset, -⟩ | ⟨-, reset, -⟩
      · exact .inr ⟨reset.symm.trans waits, cleared, phase⟩
      · exact absurd (reset.symm.trans waits) Bool.false_ne_true
  window := by
    rcases b.window with ⟨void, measured⟩ | now
    · rw [void, measured, voidNow_congr time measured]
      exact a.window
    · exact .inr now
  barred := b.barred ∘ a.barred
  leaves on := by
    rcases a.leaves on with middle | barred
    · exact b.leaves middle
    · exact .inr (b.barred barred)
  stays on after := by
    rcases a.leaves on with middle | barred
    · exact (b.stays middle after).trans (a.stays on middle)
    · exact absurd ((settled (b.barred barred)).symm.trans after) Bool.false_ne_true

theorem HandsLanes.trans (standing : Standing u) (a : HandsLanes s t) (b : HandsLanes t u) : HandsLanes s u where
  time := b.time.trans a.time
  active := b.active.trans a.active
  slots n := (b.slots n).trans (a.slots n)
  inputs n := (b.inputs n).trans (a.inputs n)
  verified r := a.verified r ∘ b.verified r
  mixer x := by
    rcases b.mixer x with same | restarted
    · exact same ▸ a.mixer x
    · refine .inr (restarted.trans ?_)
      rcases a.mixer x with same | before
      · rw [State.restarted, State.restarted, same, a.time]
      · rw [State.restarted, before, a.time]
        rfl
  bare n none := by
    obtain ⟨lane, input, phase⟩ := a.bare n none
    obtain ⟨lane', input', phase'⟩ := b.bare n ((a.slots n).trans none)
    exact ⟨lane'.trans lane, input'.trans input, phase'.trans phase⟩
  lanes n e slot := by
    have slot' := (a.slots n).trans slot
    exact (a.lanes n e slot).trans (standing.barred ((b.slots n).trans slot')) b.time (b.lanes n e slot')
  visit := b.visit.trans a.visit
  probe n e visit slot := by
    have first := a.probe n e visit slot
    have second := b.probe n e (a.visit.trans visit) ((a.slots n).trans slot)
    have down := a.verified e.inputChain
    have down' := b.verified e.inputChain
    rw [second, first]
    refine congrArg (fun b => { s.probe with clean := b }) ?_
    dsimp only
    revert down down'
    cases s.isVerified (.rx e.inputChain) <;> cases t.isVerified (.rx e.inputChain) <;>
      cases u.isVerified (.rx e.inputChain) <;> simp

/-- A step of a hand-over from a standing state. -/
def HandStep (s t : State) : Prop := Standing s → Standing t ∧ HandsLanes s t

theorem HandStep.trans (a : HandStep s t) (b : HandStep t u) : HandStep s u := fun k => by
  obtain ⟨middle, first⟩ := a k
  obtain ⟨last, second⟩ := b middle
  exact ⟨last, first.trans last second⟩

/-! ### Steps that leave lanes as they are -/

/-- No receive synthesizer has entered or left VERIFIED. -/
structure SameVerified (s t : State) : Prop where
  time : t.time = s.time
  active : t.pe.active = s.pe.active
  verified : ∀ r, t.isVerified (.rx r) = s.isVerified (.rx r)

/-- And no programmed words have changed. -/
structure Unlaned (s t : State) : Prop extends SameVerified s t where
  programmed : ∀ c, (t.synth c).programmed = (s.synth c).programmed

/-- A lane that has not moved, its input record and its phases neither. -/
theorem LaneHands.of_lane (h : SameVerified s t) (words : WordsKept e n s t) (lane : (t.lane n).wordless = (s.lane n).wordless)
    (input : t.input n = s.input n) (phase : t.phaseOf n = s.phaseOf n)
    (down : (s.seq e.outputChain).state = .paDischarge → (t.seq e.outputChain).state = .paDischarge) :
    LaneHands n e s t := by
  have draws : t.drawsVerified n e = s.drawsVerified n e := by
    rw [State.drawsVerified, input, h.verified]
    rfl
  have state : (t.lane n).state = (s.lane n).state := (congrArg Lane.state lane :)
  have current : (t.lane n).current = (s.lane n).current := (congrArg Lane.current lane :)
  refine ⟨words, .inr ⟨(congrArg Lane.start lane :), current⟩,
    by rw [draws]; exact id, .inl current, fun on off => absurd (on.symm.trans (draws.symm.trans off)) nofun,
    .inl ⟨(congrArg Lane.phaseReset lane :), phase⟩, .inl ⟨by rw [input], by rw [state]⟩, ?_,
    fun on => .inl (by rw [state]; exact on), fun _ _ => by rw [input]⟩
  rintro (is | off | unverified)
  · exact .inl (down is)
  · exact .inr (.inl (h.active ▸ off))
  · exact .inr (.inr (draws.trans unverified))

theorem clean_kept (clean verified : Bool) : (clean && (!verified || verified)) = clean := by
  cases clean <;> cases verified <;> rfl

/-- The probe stands where it does and no receive synthesizer has left VERIFIED. -/
theorem probe_kept (h : SameVerified s t) (probe : t.probe = s.probe) (e : SlotEntry) : t.probe = { s.probe with
    clean := s.probe.clean && (!s.isVerified (.rx e.inputChain) || t.isVerified (.rx e.inputChain)) } := by
  rw [probe, h.verified, clean_kept]

/-- Nothing of the lanes has moved but words. -/
theorem HandsLanes.of_words (h : SameVerified s t) (words : ∀ n e, (s.lane n).slot = some e → WordsKept e n s t)
    (lane : ∀ n, (t.lane n).wordless = (s.lane n).wordless) (bare : ∀ n, (s.lane n).slot = none → t.lane n = s.lane n)
    (inputs : t.inputs = s.inputs) (phases : t.phases = s.phases) (mixers : t.mixers = s.mixers) (probe : t.probe = s.probe)
    (down : ∀ x, (s.seq x).state = .paDischarge → (t.seq x).state = .paDischarge) : HandsLanes s t := by
  have input (n : Slot) : t.input n = s.input n := by rw [State.input, inputs]; rfl
  have phase (n : Slot) : t.phaseOf n = s.phaseOf n := by rw [State.phaseOf, phases]; rfl
  have mixer (x : Tx) : t.mixer x = s.mixer x := by rw [State.mixer, mixers]; rfl
  exact ⟨h.time, h.active, fun n => (congrArg Lane.slot (lane n) :), fun n => by rw [input],
    fun r => by rw [h.verified]; exact id, fun x => .inl (mixer x), fun n none => ⟨bare n none, input n, phase n⟩,
    fun n e slot => .of_lane h (words n e slot) (lane n) (input n) (phase n) (down _), by rw [probe],
    fun _ e _ _ => probe_kept h probe e⟩

theorem HandsLanes.of_lanes (h : Unlaned s t) (lanes : t.lanes = s.lanes) (inputs : t.inputs = s.inputs)
    (phases : t.phases = s.phases) (mixers : t.mixers = s.mixers) (probe : t.probe = s.probe)
    (down : ∀ x, (s.seq x).state = .paDischarge → (t.seq x).state = .paDischarge) : HandsLanes s t := by
  have lane (n : Slot) : t.lane n = s.lane n := by rw [State.lane, lanes]; rfl
  exact .of_words h.toSameVerified
    (fun n e _ => .of_same h.programmed (by rw [lane]) (by rw [lane]) (by rw [lane])) (fun n => by rw [lane])
    (fun n _ => lane n) inputs phases mixers probe down

/-- The lanes of a state of which nothing that a lane's state depends on has moved stand as they stood. -/
theorem Standing.congr (k : Standing s) (h : SameVerified s t)
    (lane : ∀ n, (t.lane n).wordless = (s.lane n).wordless) (inputs : t.inputs = s.inputs)
    (os : t.os = s.os) (counter : t.CounterSound) : Standing t := by
  have input (n : Slot) : t.input n = s.input n := by rw [State.input, inputs]; rfl
  have seq (x : Tx) : t.seq x = s.seq x := by rw [State.seq, os]; rfl
  refine ⟨counter, fun n => ?_⟩
  have state : (t.lane n).state = (s.lane n).state := (congrArg Lane.state (lane n) :)
  rw [state, k.lanes, laneStateOf_congr (congrArg Lane.slot (lane n) :) h.active (by rw [input]) (by rw [input])
    (fun _ _ => by rw [seq]) h.verified]

theorem HandStep.of_still (h : s.CounterSound → Unlaned s t) (lanes : t.lanes = s.lanes) (inputs : t.inputs = s.inputs)
    (phases : t.phases = s.phases) (mixers : t.mixers = s.mixers) (probe : t.probe = s.probe) (os : t.os = s.os)
    (counter : s.CounterSound → t.CounterSound) : HandStep s t := fun k =>
  ⟨k.congr (h k.counter).toSameVerified (fun n => by rw [State.lane, lanes]; rfl) inputs os (counter k.counter),
    .of_lanes (h k.counter) lanes inputs phases mixers probe fun x is => by
      rw [State.seq, os]
      exact is⟩

/-- A synthesizer that has only begun to be measured is no more and no less VERIFIED. -/
theorem isVerified_of_waited {c : Chain} (k : s.CounterSound) (synth : t.synth c = s.synth c ∨
    ((s.CounterSound → (s.synth c).state = .queued) ∧ t.synth c = { s.synth c with state := .measuring })) :
    t.isVerified c = s.isVerified c := by
  rcases synth with eq | ⟨queued, eq⟩
  · rw [State.isVerified, eq]
    rfl
  · rw [State.isVerified, State.isVerified, eq, queued k]
    rfl

theorem Unlaned.of_waits (k : s.CounterSound) (time : t.time = s.time) (active : t.pe.active = s.pe.active)
    (synth : ∀ c, t.synth c = s.synth c ∨
      ((s.CounterSound → (s.synth c).state = .queued) ∧ t.synth c = { s.synth c with state := .measuring })) :
    Unlaned s t :=
  ⟨⟨time, active, fun _ => isVerified_of_waited k (synth _)⟩, fun c => programmed_of_waited (synth c)⟩

theorem Unlaned.of_syn (time : t.time = s.time) (active : t.pe.active = s.pe.active) (syn : t.syn = s.syn) :
    Unlaned s t := by
  have synth (c : Chain) : t.synth c = s.synth c := by rw [State.synth, syn]; rfl
  exact ⟨⟨time, active, fun r => by rw [State.isVerified, synth]; rfl⟩, fun c => by rw [synth]⟩

end Hands

end Sys2Proof.Machine
end

section
/-! PROOFS. Sequencers, protection and reference through that relation. -/

namespace Sys2Proof.Machine

/-! ## The moves of a sequencer (R99, R103, R122) -/

section Own
variable {s t : State} {n : Slot} {e : SlotEntry} {x y : Tx}

/-- The phases of a lane stand, or a reset that waited has been made (R99). -/
def PhaseKept (n : Slot) (s t : State) : Prop :=
  ((t.lane n).phaseReset = (s.lane n).phaseReset ∧ t.phaseOf n = s.phaseOf n) ∨
    ((s.lane n).phaseReset = true ∧ (t.lane n).phaseReset = false ∧ t.phaseOf n = ⟨0, 0⟩)

/-- The window in progress of a lane stands as long as the lane is measured as before (R110). -/
structure WindowKept (n : Slot) (e : SlotEntry) (s t : State) : Prop where
  window : ((t.input n).windowVoid = (s.input n).windowVoid ∧ (t.lane n).state.measured = (s.lane n).state.measured) ∨
    (t.input n).windowVoid = t.voidNow n
  leaves : (s.lane n).state.measured = true → (t.lane n).state.measured = true ∨ t.Barred n e
  stays : (s.lane n).state.measured = true → (t.lane n).state.measured = true →
    (t.input n).windowVoid = (s.input n).windowVoid

theorem WindowKept.of_same (input : t.input n = s.input n) (state : (t.lane n).state = (s.lane n).state) :
    WindowKept n e s t :=
  ⟨.inl ⟨by rw [input], by rw [state]⟩, fun on => .inl (by rw [state]; exact on), fun _ _ => by rw [input]⟩

theorem WindowKept.of_start {u : State} (input : u.input n = s.input n) (state : (u.lane n).state = (s.lane n).state)
    (h : WindowKept n e u t) : WindowKept n e s t := by
  obtain ⟨window, leaves, stays⟩ := h
  rw [input, state] at window
  rw [state] at leaves stays
  exact ⟨window, leaves, input ▸ stays⟩

/-- A step of chain `y`: of its sequencer, its synthesizer and its lanes. -/
structure ChainMoves (y : Tx) (s t : State) : Prop where
  own : Local y s t
  moves : LaneMoves s t
  down : (s.seq y).state = .paDischarge → (t.seq y).state = .paDischarge
  transmit : ∀ n, s.laneOn y n = true → WordKept (s.synth (.tx y)).programmed (t.synth (.tx y)).programmed
    (s.lane n).transmitWord (t.lane n).transmitWord
  phase : ∀ n, s.laneOn y n = true → PhaseKept n s t
  window : ∀ n e, (s.lane n).slot = some e → e.outputChain = y → WindowKept n e s t

theorem Local.sameVerified (h : Local y s t) (k : s.CounterSound) : SameVerified s t :=
  ⟨h.time, h.active, fun _ => isVerified_of_waited k (h.synth _ nofun)⟩

theorem LaneMoves.drawsVerified (h : LaneMoves s t) (same : SameVerified s t) (n : Slot) (e : SlotEntry) :
    t.drawsVerified n e = s.drawsVerified n e := by
  rw [State.drawsVerified, h.input_source, same.verified]
  rfl

theorem ChainMoves.wordsKept (h : ChainMoves y s t) (slot : (s.lane n).slot = some e) : WordsKept e n s t := by
  have programmed (c : Chain) (apart : c ≠ .tx y) := programmed_of_waited (h.own.synth c apart)
  obtain ⟨primary, fallback⟩ := h.moves.words n
  refine ⟨.inl ⟨programmed _ nofun, primary⟩, fun _ => fallback, fun _ _ => .inl ⟨programmed _ nofun, fallback⟩, ?_⟩
  by_cases on : e.outputChain = y
  · exact on ▸ h.transmit n ((laneOn_iff ..).mpr ⟨e, slot, on⟩)
  · have off : s.laneOn y n = false := by
      refine Bool.eq_false_iff.mpr fun is => on ?_
      obtain ⟨e', slot', chain⟩ := (laneOn_iff ..).mp is
      exact Option.some.inj (slot.symm.trans slot') ▸ chain
    exact .inl ⟨programmed _ fun eq => on (Chain.tx.inj eq), by rw [(h.own.lane n off).1]⟩

theorem ChainMoves.laneHands (h : ChainMoves y s t) (k : s.CounterSound) (slot : (s.lane n).slot = some e)
    (on : e.outputChain = y) : LaneHands n e s t := by
  have is : s.laneOn y n = true := (laneOn_iff ..).mpr ⟨e, slot, on⟩
  have same := h.own.sameVerified k
  have draws := h.moves.drawsVerified same n e
  have window := h.window n e slot on
  refine ⟨h.wordsKept slot, ?_, by rw [draws]; exact id, .inl (h.moves.current n),
    fun on off => absurd (on.symm.trans (draws.symm.trans off)) nofun, h.phase n is, window.window, ?_,
    window.leaves, window.stays⟩
  · rcases h.moves.ramped y with ⟨-, kept⟩ | ⟨-, starts⟩
    · exact .inr ⟨(kept n is).1, h.moves.current n⟩
    · exact .inl ((starts n is).trans (h.moves.current n).symm)
  · rintro (is | off | unverified)
    · exact .inl (on ▸ h.down (on ▸ is))
    · exact .inr (.inl (same.active ▸ off))
    · exact .inr (.inr (draws.trans unverified))

theorem ChainMoves.hands (h : ChainMoves y s t) (k : s.CounterSound) : HandsLanes s t := by
  have same := h.own.sameVerified k
  have away (n : Slot) (off : ∀ e, (s.lane n).slot = some e → e.outputChain ≠ y) : s.laneOn y n = false := by
    refine Bool.eq_false_iff.mpr fun is => ?_
    obtain ⟨e, slot, chain⟩ := (laneOn_iff ..).mp is
    exact off e slot chain
  refine ⟨h.own.time, h.own.active, h.own.slots, h.moves.inputs, fun r => by rw [same.verified]; exact id,
    fun x => ?_, fun n none => ?_, fun n e slot => ?_, by rw [h.own.probe],
    fun _ e _ _ => probe_kept same h.own.probe e⟩
  · exact (h.moves.ramped x).imp And.left And.left
  · exact h.own.lane n (away n fun e slot => nomatch none.symm.trans slot)
  · by_cases on : e.outputChain = y
    · exact h.laneHands k slot on
    · have off := away n fun e' slot' => Option.some.inj (slot.symm.trans slot') ▸ on
      obtain ⟨lane, input, phase⟩ := h.own.lane n off
      exact .of_lane same (h.wordsKept slot) (congrArg _ lane) input phase fun is => by
        rw [h.own.seq _ on]
        exact is

/-! ### Each kind of move -/

theorem decideLanes_unlaned (s : State) (ns : List Slot) : Unlaned s (s.decideLanes ns) :=
  have frame : LaneFrame s (s.decideLanes ns) := decideLanes_frame ..
  .of_syn frame.time (congrArg _ frame.pe) frame.syn

theorem decideLanes_phase (s : State) (ns : List Slot) (n : Slot) :
    ((s.decideLanes ns).lane n).phaseReset = (s.lane n).phaseReset ∧ (s.decideLanes ns).phaseOf n = s.phaseOf n := by
  refine ⟨(congrArg Lane.phaseReset (decideLanes_lane s ns n) :).trans ?_, ?_⟩
  · unfold State.redecided
    split <;> rfl
  · rw [State.phaseOf, decideLanes_phases]
    rfl

theorem decideLanes_words (s : State) (ns : List Slot) (n : Slot) :
    ((s.decideLanes ns).lane n).transmitWord = (s.lane n).transmitWord := by
  refine (congrArg Lane.transmitWord (decideLanes_lane s ns n) :).trans ?_
  unfold State.redecided
  split <;> rfl

/-- The window of a lane that decides, where a lane that ceases to be measured is barred from it. -/
theorem decideLanes_window {ns : List Slot} (mem : n ∈ ns) (leaves : (s.lane n).state.measured = true →
    ((s.decideLanes ns).lane n).state.measured = true ∨ (s.decideLanes ns).Barred n e) :
    WindowKept n e s (s.decideLanes ns) := by
  have after : ((s.decideLanes ns).lane n).state = s.laneStateOf n := by
    rw [decideLanes_state, State.redecided, if_pos mem]
    rfl
  have window := decideLanes_input s ns n
  by_cases same : (s.laneStateOf n).measured = (s.lane n).state.measured
  · rw [if_neg fun changed => changed.2 same] at window
    exact ⟨.inl ⟨by rw [window], by rw [after, same]⟩, leaves, fun _ _ => by rw [window]⟩
  · rw [if_pos ⟨mem, same⟩] at window
    refine ⟨.inr ?_, leaves, fun on off => absurd ?_ same⟩
    · rw [window, State.voidNow, after, (decideLanes_reads s ns).time]
      dsimp only
      split
      · next boundary => rw [decide_eq_true boundary, Bool.true_and]
      · next apart => rw [decide_eq_false apart, Bool.false_and, Bool.not_false]
    · rw [← after, off, on]

theorem decideLanes_barred (s : State) (ns : List Slot) : (s.decideLanes ns).Barred n e ↔ s.Barred n e := by
  have reads := decideLanes_reads s ns
  have draws := (decideLanes_moves s ns).drawsVerified (decideLanes_unlaned s ns).toSameVerified n e
  rw [State.Barred, State.Barred, draws, reads.pe, reads.untouched.seq_eq]

/-- A decision of lanes with a slot, each of which is barred or stands as its table says. -/
theorem decideLanes_hands {ns : List Slot} (slotted : ∀ n ∈ ns, (s.lane n).slot ≠ none)
    (calm : ∀ n ∈ ns, ∀ e, (s.lane n).slot = some e → s.Barred n e ∨ (s.lane n).state = s.laneStateOf n) :
    HandsLanes s (s.decideLanes ns) := by
  have reads := decideLanes_reads s ns
  have moves := decideLanes_moves s ns
  obtain ⟨same, programmed⟩ := decideLanes_unlaned s ns
  refine ⟨reads.time, same.active, reads.slots, reads.inputs, fun r => by rw [same.verified]; exact id,
    fun x => (moves.ramped x).imp And.left And.left, fun n bare => ?_, fun n e slot => ?_, by rw [reads.probe],
    fun _ e _ _ => probe_kept same reads.probe e⟩
  · have out : n ∉ ns := fun mem => slotted n mem bare
    refine ⟨?_, decideLanes_input_other out, (decideLanes_phase ..).2⟩
    rw [(decideLanes_spec s ns).1, if_neg, State.redecided, if_neg out]
    rintro ⟨x, -, on⟩
    obtain ⟨e, slot, -⟩ := (laneOn_iff ..).mp on
    exact nomatch bare.symm.trans slot
  · have draws := moves.drawsVerified same n e
    have window : WindowKept n e s (s.decideLanes ns) := by
      by_cases mem : n ∈ ns
      · refine decideLanes_window mem fun on => ?_
        rcases calm n mem e slot with barred | stands
        · exact .inr ((decideLanes_barred ..).mpr barred)
        · rw [decideLanes_state, State.redecided, if_pos mem]
          exact .inl (by rw [State.decided, ← stands]; exact on)
      · refine .of_same (decideLanes_input_other mem) ?_
        rw [decideLanes_state, State.redecided, if_neg mem]
    refine ⟨.of_same programmed (moves.words n).1 (moves.words n).2 (decideLanes_words ..), ?_, by rw [draws]; exact id,
      .inl (moves.current n), fun on off => absurd (on.symm.trans (draws.symm.trans off)) nofun, .inl (decideLanes_phase ..),
      window.window, (decideLanes_barred ..).mpr, window.leaves, window.stays⟩
    rcases moves.ramped e.outputChain with ⟨-, kept⟩ | ⟨-, starts⟩
    · exact .inr ⟨(kept n ((laneOn_iff ..).mpr ⟨e, slot, rfl⟩)).1, moves.current n⟩
    · exact .inl ((starts n ((laneOn_iff ..).mpr ⟨e, slot, rfl⟩)).trans (moves.current n).symm)

theorem decideLanes_keepsStanding (k : Standing s) (ns : List Slot) : Standing (s.decideLanes ns) := by
  have reads := decideLanes_reads s ns
  refine ⟨k.counter.congr reads.syn reads.fc, fun n => ?_⟩
  rw [decideLanes_state, reads.laneStateOf, State.redecided]
  split
  · rfl
  · exact k.lanes n

theorem decideOn_handStep (s : State) (y : Tx) : HandStep s (s.decideLanes (s.lanesOn y)) := fun k =>
  ⟨decideLanes_keepsStanding k _, decideLanes_hands
    (fun n mem bare => by
      obtain ⟨e, slot, -⟩ := (laneOn_iff ..).mp ((mem_lanesOn ..).mp mem)
      exact nomatch bare.symm.trans slot)
    fun n _ _ _ => .inr (k.lanes n)⟩

/-- The lanes of chain `y` when its synthesizer takes an LO: their words alone may go. -/
theorem takeWanted_laneKept (s : State) (y : Tx) (lo : Option Nat) (n : Slot) :
    let t := s.takeWanted (.tx y) lo
    (t.lane n).wordless = (s.lane n).wordless ∧ t.input n = s.input n ∧ t.phaseOf n = s.phaseOf n ∧
      (s.laneOn y n = true → WordKept (s.synth (.tx y)).programmed (t.synth (.tx y)).programmed
        (s.lane n).transmitWord (t.lane n).transmitWord) := by
  have frame := takeWanted_frame s (.tx y) lo
  refine ⟨takeWanted_wordless .., ?_, ?_, fun on => ?_⟩
  · rw [State.input, frame.inputs]
    rfl
  · rw [State.phaseOf, frame.phases]
    rfl
  · obtain ⟨e, slot, rfl⟩ := (laneOn_iff ..).mp on
    exact (takeWanted_wordsKept s _ lo slot).transmit

theorem handOver_chainMoves (s : State) (y : Tx) : ChainMoves y s (s.handOver y) := by
  have seq := handOver_seq s y y
  rw [if_pos rfl] at seq
  have kept (n : Slot) := takeWanted_laneKept
    (s.setSeq y { s.seq y with handedOver := s.pe.active.tuningLo y, retunePending := false }) y (s.pe.active.tuningLo y) n
  refine ⟨handOver_local s y, handOver_moves s y, by rw [seq]; exact id, fun n on => (kept n).2.2.2 on,
    fun n _ => .inl ⟨?_, (kept n).2.2.1⟩, fun n _ _ _ => .of_same (kept n).2.1 ?_⟩
  · exact (congrArg Lane.phaseReset (kept n).1 :)
  · exact (congrArg Lane.state (kept n).1 :)

/-- What holds of the lanes of a state that a sequencer has entered. -/
theorem entered_laneKept (s : State) (y : Tx) (st : SeqState) (n : Slot) :
    let t := s.entered y st
    (t.lane n).wordless = (s.lane n).wordless ∧ t.input n = s.input n ∧ t.phaseOf n = s.phaseOf n ∧
      (s.laneOn y n = true → WordKept (s.synth (.tx y)).programmed (t.synth (.tx y)).programmed
        (s.lane n).transmitWord (t.lane n).transmitWord) := by
  intro t
  rcases entered_cases s y st with ⟨-, -, eq⟩ | ⟨-, eq⟩
  · have kept := takeWanted_laneKept ((s.written y st).setSeq y { (s.written y st).seq y with
      handedOver := (s.written y st).pe.active.tuningLo y, retunePending := false }) y
        ((s.written y st).pe.active.tuningLo y) n
    rw [show t = _ from eq]
    exact kept
  · rw [show t = _ from eq]
    exact ⟨rfl, rfl, rfl, fun _ => .inl ⟨rfl, rfl⟩⟩

/-- A phase reset that waits is made on entry into RAMP_UP (R99). -/
theorem cleared_laneKept (s : State) (y : Tx) (st : SeqState) (n : Slot) :
    let t := s.cleared y st
    PhaseKept n s t ∧ (t.lane n).transmitWord = (s.lane n).transmitWord ∧ (t.lane n).state = (s.lane n).state ∧
      t.input n = s.input n ∧ t.syn = s.syn := by
  intro t
  by_cases up : st = .rampUp
  · have eq : t = s.clearPhases y := if_pos up
    obtain ⟨lane, phase, inputs, -⟩ := clearPhases_spec s y
    rw [eq, State.input, inputs, lane, PhaseKept, lane, phase]
    refine ⟨?_, ?_, ?_, rfl, (clearPhases_frame s y).syn⟩
    · split
      · next waits => exact .inr ⟨waits.2, rfl, rfl⟩
      · exact .inl ⟨rfl, rfl⟩
    · split <;> rfl
    · split <;> rfl
  · have eq : t = s := if_neg up
    rw [eq]
    exact ⟨.inl ⟨rfl, rfl⟩, rfl, rfl, rfl, rfl⟩

/-- A chain that leaves the air in one move discharges (R129, R130). -/
theorem nextSeq_leaves {st : SeqState} (next : s.nextSeq y = some st) (air : (s.seq y).state.carriesLanes = true) :
    st.carriesLanes = true ∨ st = .paDischarge := by
  cases state : (s.seq y).state with
  | rampUp =>
    rw [nextSeq_rampUp state] at next
    split at next
    · exact .inl (Option.some.inj next ▸ rfl)
    · split at next
      · exact nomatch next
      · exact .inl (Option.some.inj next ▸ rfl)
  | onAir =>
    rw [nextSeq_onAir state] at next
    split at next
    · exact .inl (Option.some.inj next ▸ rfl)
    · exact nomatch next
  | muted =>
    rw [nextSeq_muted state] at next
    split at next
    · exact .inr (Option.some.inj next).symm
    · split at next
      · exact .inl (Option.some.inj next ▸ rfl)
      · exact nomatch next
  | rampDown =>
    rw [nextSeq_rampDown state] at next
    split at next
    · exact .inl (Option.some.inj next ▸ rfl)
    · split at next
      · split at next
        · exact .inl (Option.some.inj next ▸ rfl)
        · exact .inr (Option.some.inj next).symm
      · exact nomatch next
  | off | tuning | driveSettle | paDischarge | lockedOut => exact nomatch (state ▸ air)

theorem Standing.air (k : Standing s) (slot : (s.lane n).slot = some e) (measured : (s.lane n).state.measured = true) :
    (s.seq e.outputChain).state.carriesLanes = true := by
  by_contra off
  have held := laneStateOf_held slot (.inl (Bool.eq_false_iff.mpr off))
  rw [k.lanes, held] at measured
  exact Bool.false_ne_true measured

/-- A change of sequencer state takes a lane out of its windows only for good (R110). -/
theorem moveSeq_leaves {st : SeqState} (k : Standing s) (next : s.nextSeq y = some st)
    (slot : (s.lane n).slot = some e) (on : e.outputChain = y) (measured : (s.lane n).state.measured = true) :
    ((s.moveSeq y st).lane n).state.measured = true ∨ (s.moveSeq y st).Barred n e := by
  have is : s.laneOn y n = true := (laneOn_iff ..).mpr ⟨e, slot, on⟩
  have air := k.air slot measured
  have state := (moveSeq_seq_state s y st).1
  rcases nextSeq_leaves next (on ▸ air) with carries | discharges
  · have own := moveSeq_local s y st
    have moves := moveSeq_moves s y st
    have same : (s.moveSeq y st).laneStateOf n = s.laneStateOf n := by
      refine laneStateOf_congr (own.slots n) own.active (moves.input_source n)
        (congrArg InputRecord.inputState (moves.inputs n) :) (fun e' slot' => ?_) (own.sameVerified k.counter).verified
      cases slot.symm.trans slot'
      rw [air, on, state, carries]
    refine .inl ?_
    rw [(moveSeq_agrees_on st is).1, same, ← k.lanes]
    exact measured
  · exact .inr (.inl (on ▸ state.trans discharges))

theorem moveSeq_window {st : SeqState} (k : Standing s) (next : s.nextSeq y = some st)
    (slot : (s.lane n).slot = some e) (on : e.outputChain = y) : WindowKept n e s (s.moveSeq y st) := by
  have is : s.laneOn y n = true := (laneOn_iff ..).mpr ⟨e, slot, on⟩
  have leaves := moveSeq_leaves k next slot on
  have first := entered_laneKept s y st n
  have second := cleared_laneKept (s.entered y st) y st n
  have before : (((s.entered y st).cleared y st).lane n).state = (s.lane n).state :=
    second.2.2.1.trans (congrArg Lane.state first.1 :)
  have input : ((s.entered y st).cleared y st).input n = s.input n := second.2.2.2.1.trans first.2.1
  have mem : n ∈ ((s.entered y st).cleared y st).lanesOn y := by
    rw [mem_lanesOn, ← is]
    refine laneOn_congr ?_ y
    have slot' : (((s.entered y st).cleared y st).lane n).slot = ((s.moveSeq y st).lane n).slot := by
      rw [moveSeq_eq]
      exact ((decideLanes_laneKeeps ..).slots n).symm
    exact slot'.trans ((moveSeq_local s y st).slots n)
  rw [moveSeq_eq] at leaves ⊢
  exact .of_start input before (decideLanes_window mem (before ▸ leaves))

theorem moveSeq_chainMoves {st : SeqState} (k : Standing s) (next : s.nextSeq y = some st) :
    ChainMoves y s (s.moveSeq y st) where
  own := moveSeq_local ..
  moves := moveSeq_moves ..
  down is := nomatch (nextSeq_paDischarge is).symm.trans next
  transmit n on := by
    have first := entered_laneKept s y st n
    have second := cleared_laneKept (s.entered y st) y st n
    have synth (v : State) (syn : v.syn = (s.entered y st).syn) : v.synth (.tx y) = (s.entered y st).synth (.tx y) := by
      rw [State.synth, syn]
      rfl
    rw [moveSeq_eq, decideLanes_words, second.2.1, (decideLanes_unlaned ..).programmed, synth _ second.2.2.2.2]
    exact first.2.2.2 on
  phase n _ := by
    have first := entered_laneKept s y st n
    have reset : ((s.entered y st).lane n).phaseReset = (s.lane n).phaseReset := (congrArg Lane.phaseReset first.1 :)
    have second := (cleared_laneKept (s.entered y st) y st n).1
    rw [PhaseKept, reset, first.2.2.1] at second
    rw [moveSeq_eq]
    obtain ⟨reset', phase'⟩ := decideLanes_phase ((s.entered y st).cleared y st)
      (((s.entered y st).cleared y st).lanesOn y) n
    rw [PhaseKept, reset', phase']
    exact second
  window n e slot on := moveSeq_window k next slot on

/-- The lanes of the other chains stand as they stood. -/
theorem Local.standing (h : Local y s t) (k : Standing s)
    (own : ∀ n, s.laneOn y n = true → (t.lane n).state = t.laneStateOf n) : Standing t := by
  refine ⟨h.counter k.counter, fun n => ?_⟩
  by_cases on : s.laneOn y n = true
  · exact own n on
  · obtain ⟨lane, input, -⟩ := h.lane n (Bool.eq_false_iff.mpr on)
    rw [lane, k.lanes, laneStateOf_congr (h.slots n) h.active (by rw [input]) (by rw [input]) (fun e slot => ?_)
      (h.sameVerified k.counter).verified]
    rw [h.seq]
    rintro rfl
    exact on ((laneOn_iff ..).mpr ⟨e, slot, rfl⟩)

theorem moveSeq_handStep {st : SeqState} (next : s.nextSeq y = some st) : HandStep s (s.moveSeq y st) := fun k =>
  ⟨(moveSeq_local s y st).standing k fun _ on => (moveSeq_agrees_on st on).1,
    (moveSeq_chainMoves k next).hands k.counter⟩

theorem HandStep.refl (s : State) : HandStep s s := .of_still (fun _ => .of_syn rfl rfl rfl) rfl rfl rfl rfl rfl rfl id

theorem decideSeq_handStep (s : State) (y : Tx) : HandStep s (s.decideSeq y) :=
  decideSeq_related (R := HandStep) .refl .trans (fun _ _ => moveSeq_handStep) s

/-- A hand-over in an off state leaves the state of the chain's lanes. -/
theorem handOver_handStep (s : State) (y : Tx) : HandStep s (s.handOver y) := fun k => by
  have moves := handOver_chainMoves s y
  have seq := handOver_seq s y y
  rw [if_pos rfl] at seq
  refine ⟨moves.own.standing k fun n on => ?_, moves.hands k.counter⟩
  have lane := (takeWanted_laneKept
    (s.setSeq y { s.seq y with handedOver := s.pe.active.tuningLo y, retunePending := false }) y
      (s.pe.active.tuningLo y) n).1
  have state : ((s.handOver y).lane n).state = (s.lane n).state := (congrArg Lane.state lane :)
  rw [state, k.lanes, laneStateOf_congr (moves.own.slots n) moves.own.active (moves.moves.input_source n)
    (congrArg InputRecord.inputState (moves.moves.inputs n) :) (fun e slot => ?_) (moves.own.sameVerified k.counter).verified]
  obtain ⟨e', slot', chain⟩ := (laneOn_iff ..).mp on
  cases slot.symm.trans slot'
  rw [chain, seq]

theorem protect_handStep (s : State) (x : Tx) : HandStep s (s.protect x) :=
  protect_related (R := HandStep) .trans
    (.of_still (fun _ => .of_syn rfl rfl rfl) rfl rfl rfl rfl rfl rfl fun k => k.congr rfl rfl)
    (fun told => by
      obtain ⟨-, time, syn, fc, os, -, lanes, mixers, inputs, phases, -, probe⟩ := told.field
      exact .of_still (fun _ => .of_syn time told.active syn) lanes inputs phases mixers probe os fun k => k.congr syn fc)
    (decideOn_handStep · x) (decideSeq_handStep · x)

theorem handStep_reference : ReferenceSteps HandStep where
  refl := .refl
  trans := .trans
  ref _ _ := .of_still (fun _ => .of_syn rfl rfl rfl) rfl rfl rfl rfl rfl rfl fun k => k.congr rfl rfl
  notify _ _ := .of_still (fun _ => .of_syn rfl rfl rfl) rfl rfl rfl rfl rfl rfl fun k => k.congr rfl rfl
  ports _ := .of_still (fun _ => .of_syn rfl rfl rfl) rfl rfl rfl rfl rfl rfl fun k => k.congr rfl rfl
  spoil s := .of_still (fun _ => .of_syn rfl rfl rfl) rfl rfl rfl rfl rfl rfl (spoilMeasurement_keeps s).counter
  device _ _ := .of_still (fun _ => .of_syn rfl rfl rfl) rfl rfl rfl rfl rfl rfl fun k => k.congr rfl rfl
  start s := by
    have frame := startMeasurement_frame s
    have lanes := startMeasurement_lanes s
    exact .of_still (fun k => .of_waits k frame.time (congrArg _ frame.pe) (startMeasurement_synth s)) lanes frame.inputs
      frame.phases frame.mixers frame.probe frame.os startMeasurement_counter
  protect := protect_handStep

end Own

end Sys2Proof.Machine
end

section
/-! PROOFS. A receive synthesizer that takes its LO, and the whole of the hand-over after the slots. -/

namespace Sys2Proof.Machine

/-! ## A receive synthesizer that takes its LO (R73, R98) -/

section Receive
variable {s t : State} {n : Slot} {e : SlotEntry} {r : Rx} {lo : Option Nat}

/-- The other receive synthesizers are as VERIFIED as they were. -/
theorem takeWanted_verified_other (k : s.CounterSound) {c d : Chain} (apart : d ≠ c) :
    (s.takeWanted c lo).isVerified d = s.isVerified d :=
  isVerified_of_waited k (takeWanted_other apart)

/-- No synthesizer becomes VERIFIED by taking an LO. -/
theorem takeWanted_verified (k : s.CounterSound) {c d : Chain} (on : (s.takeWanted c lo).isVerified d = true) :
    s.isVerified d = true := by
  by_cases own : d = c
  · subst own
    by_cases same : lo = (s.synth d).wanted
    · rwa [same, takeWanted_same] at on
    · exact absurd (takeWanted_unverified same) (by rw [on]; exact nofun)
  · rwa [takeWanted_verified_other k own] at on

theorem takeWanted_sameVerified (k : s.CounterSound)
    (stays : s.isVerified (.rx r) = true → (s.takeWanted (.rx r) lo).isVerified (.rx r) = true) :
    SameVerified s (s.takeWanted (.rx r) lo) := by
  have frame := takeWanted_frame s (.rx r) lo
  refine ⟨frame.time, congrArg _ frame.pe, fun q => ?_⟩
  by_cases own : q = r
  · subst own
    exact Bool.eq_iff_iff.mpr ⟨takeWanted_verified k, stays⟩
  · exact takeWanted_verified_other k fun eq => own (Chain.rx.inj eq)

/-- Where the receive synthesizer has not left VERIFIED, words alone have moved. -/
theorem takeWanted_kept (k : Standing s) (stays : s.isVerified (.rx r) = true → (s.takeWanted (.rx r) lo).isVerified (.rx r) = true) :
    Standing (s.takeWanted (.rx r) lo) ∧ HandsLanes s (s.takeWanted (.rx r) lo) := by
  have frame := takeWanted_frame s (.rx r) lo
  have same := takeWanted_sameVerified k.counter stays
  refine ⟨k.congr same (takeWanted_wordless s _ lo) frame.inputs frame.os ((takeWanted_rx_keeps ..).counter k.counter),
    .of_words same (fun n e slot => takeWanted_wordsKept s _ lo slot) (takeWanted_wordless s _ lo)
      (fun n bare => takeWanted_bare s _ lo bare) frame.inputs frame.phases frame.mixers frame.probe fun x is => ?_⟩
  rw [State.seq, frame.os]
  exact is

/-- What the loss of receive synthesizer `r` mutes, taken from the state before its LO is handed over. -/
structure MutedFrom (r : Rx) (s m : State) : Prop where
  time : m.time = s.time
  active : m.pe.active = s.pe.active
  inputs : m.inputs = s.inputs
  mixers : m.mixers = s.mixers
  phases : m.phases = s.phases
  os : m.os = s.os
  pu : m.pu = s.pu
  counter : m.CounterSound
  lost : m.isVerified (.rx r) = false
  others : ∀ q, q ≠ r → m.isVerified (.rx q) = s.isVerified (.rx q)
  words : ∀ n e, (s.lane n).slot = some e → WordsKept e n s m
  bare : ∀ n, (s.lane n).slot = none → m.lane n = s.lane n
  lane : ∀ n, (m.lane n).wordless = if n ∈ s.lanesFrom r then (s.lane n).muted.wordless else (s.lane n).wordless
  visit : m.probe.visit = s.probe.visit
  probe : ∀ n e, s.probe.visit = some n → (s.lane n).slot = some e →
    m.probe = if e.inputChain = r then { s.probe with clean := false } else s.probe

theorem takeWanted_lanesFrom (s : State) (c : Chain) : (s.takeWanted c lo).lanesFrom r = s.lanesFrom r := by
  have frame := takeWanted_frame s c lo
  unfold State.lanesFrom
  refine List.filter_congr fun n _ => ?_
  rw [show ((s.takeWanted c lo).lane n).slot = (s.lane n).slot from (congrArg Lane.slot (takeWanted_wordless s c lo n) :),
    State.input, State.input, frame.inputs]

theorem mutedFrom_muted (k : s.CounterSound) (lost : (s.takeWanted (.rx r) lo).isVerified (.rx r) = false) :
    MutedFrom r s ((s.takeWanted (.rx r) lo).mutedFrom r) := by
  have frame := takeWanted_frame s (.rx r) lo
  have counter : (s.takeWanted (.rx r) lo).CounterSound := (takeWanted_rx_keeps ..).counter k
  have units : (s.takeWanted (.rx r) lo).pu = s.pu := takeWanted_receive_pu ..
  have from_same : (s.takeWanted (.rx r) lo).lanesFrom r = s.lanesFrom r := takeWanted_lanesFrom ..
  have wordless := takeWanted_wordless s (.rx r) lo
  have words {n : Slot} {e : SlotEntry} := takeWanted_wordsKept (n := n) (e := e) s (.rx r) lo
  have bare {n : Slot} := takeWanted_bare (n := n) s (.rx r) lo
  have others (q : Rx) (apart : q ≠ r) : (s.takeWanted (.rx r) lo).isVerified (.rx q) = s.isVerified (.rx q) :=
    takeWanted_verified_other k fun eq => apart (Chain.rx.inj eq)
  generalize s.takeWanted (.rx r) lo = w at frame counter units from_same wordless words bare others lost ⊢
  obtain ⟨syn, fc, inputs, mixers, phases⟩ := mutedFrom_same w r
  have lane := mutedFrom_lane w r
  have verified (c : Chain) : (w.mutedFrom r).isVerified c = w.isVerified c := by
    rw [State.isVerified, State.synth, syn]
    rfl
  have muted : LaneFrame w ((w.lanesFrom r).foldl State.fastMute w) := foldl_related .refl .trans fastMute_frame _ w
  obtain ⟨same, idle, visited⟩ := soilProbe_probe ((w.lanesFrom r).foldl State.fastMute w) r
  change w.mutedFrom r = { (w.lanesFrom r).foldl State.fastMute w with probe := (w.mutedFrom r).probe } at same
  change _ → (w.mutedFrom r).probe = _ at idle
  change ∀ n e, _ → _ → (w.mutedFrom r).probe = _ at visited
  rw [muted.probe, frame.probe] at idle visited
  have soiled (n : Slot) (e : SlotEntry) (visit : s.probe.visit = some n) (slot : (s.lane n).slot = some e) :
      (w.mutedFrom r).probe = if e.inputChain = r then { s.probe with clean := false } else s.probe := by
    refine visited n e visit ?_
    have slot' : (w.lane n).slot = some e := (congrArg Lane.slot (wordless n) :).trans slot
    rw [foldl_fastMute_lane]
    split <;> exact slot'
  refine ⟨?_, ?_, inputs.trans frame.inputs, mixers.trans frame.mixers, phases.trans frame.phases, ?_, ?_,
    counter.congr syn fc, (verified _).trans lost, fun q apart => (verified _).trans (others q apart),
    fun n e slot => (words slot).trans (.of_same (fun c => ?_) ?_ ?_ ?_), fun n none => ?_, fun n => ?_, ?_, soiled⟩
  · rw [same]
    exact muted.time.trans frame.time
  · rw [same]
    exact congrArg _ (muted.pe.trans frame.pe)
  · rw [same]
    exact muted.os.trans frame.os
  · rw [same]
    exact muted.pu.trans units
  · rw [State.synth, syn]
    rfl
  · rw [lane]
    split <;> rfl
  · rw [lane]
    split <;> rfl
  · rw [lane]
    split <;> rfl
  · rw [lane, if_neg, bare none]
    rw [from_same, mem_lanesFrom]
    rintro ⟨e, slot, -⟩
    exact nomatch none.symm.trans slot
  · rw [lane, from_same]
    split
    · exact (congrArg Lane.muted (wordless n) :)
    · exact wordless n
  · unfold State.mutedFrom State.soilProbe
    rw [muted.probe, frame.probe]
    split
    · next none => rw [muted.probe, frame.probe]
    · next n is =>
      split
      · exact is ▸ rfl
      · rw [muted.probe, frame.probe]

namespace MutedFrom
variable {m : State}

theorem slot (h : MutedFrom r s m) (n : Slot) : (m.lane n).slot = (s.lane n).slot := by
  have wordless := h.lane n
  split at wordless <;> exact (congrArg Lane.slot wordless :)

theorem state (h : MutedFrom r s m) (n : Slot) : (m.lane n).state = (s.lane n).state := by
  have wordless := h.lane n
  split at wordless <;> exact (congrArg Lane.state wordless :)

theorem input (h : MutedFrom r s m) (n : Slot) : m.input n = s.input n := by
  rw [State.input, h.inputs]
  rfl

theorem seq (h : MutedFrom r s m) (x : Tx) : m.seq x = s.seq x := by
  rw [State.seq, h.os]
  rfl

theorem draws (h : MutedFrom r s m) (slot : (s.lane n).slot = some e) :
    m.drawsVerified n e = if n ∈ s.lanesFrom r then false else s.drawsVerified n e := by
  rw [State.drawsVerified, h.input]
  split
  · next mem =>
    obtain ⟨e', slot', chain⟩ := (mem_lanesFrom ..).mp mem
    cases slot.symm.trans slot'
    rw [chain, h.lost]
  · next out => exact h.others _ fun chain => out ((mem_lanesFrom ..).mpr ⟨e, slot, chain⟩)

theorem hands (h : MutedFrom r s m) (on : s.isVerified (.rx r) = true) : HandsLanes s m := by
  refine ⟨h.time, h.active, h.slot, fun n => by rw [h.input], fun q is => ?_,
    fun x => .inl (by rw [State.mixer, h.mixers]; rfl), fun n none => ⟨h.bare n none, h.input n, by rw [State.phaseOf, h.phases]; rfl⟩,
    fun n e slot => ?_, h.visit, fun n e visit slot => ?_⟩
  · by_cases own : q = r
    · exact own ▸ on
    · exact h.others q own ▸ is
  · have draws := h.draws slot
    have wordless := h.lane n
    refine ⟨h.words n e slot, ?_, fun is => ?_, ?_, fun was off => ?_, .inl ⟨?_, by rw [State.phaseOf, h.phases]; rfl⟩,
      .inl ⟨by rw [h.input], by rw [h.state]⟩, ?_, fun was => .inl (by rw [h.state]; exact was), fun _ _ => by rw [h.input]⟩
    · split at wordless
      · exact .inl ((congrArg Lane.start wordless :).trans (congrArg Lane.current wordless :).symm)
      · exact .inr ⟨(congrArg Lane.start wordless :), (congrArg Lane.current wordless :)⟩
    · rw [draws] at is
      split at is
      · exact nomatch is
      · exact is
    · split at wordless
      · next mem => exact .inr ⟨(congrArg Lane.current wordless :), by rw [draws, if_pos mem]⟩
      · exact .inl (congrArg Lane.current wordless :)
    · split at wordless
      · exact (congrArg Lane.current wordless :)
      · next out =>
        rw [draws, if_neg out, was] at off
        exact nomatch off
    · split at wordless <;> exact (congrArg Lane.phaseReset wordless :)
    · rintro (down | off | unverified)
      · exact .inl (by rw [h.seq]; exact down)
      · exact .inr (.inl (by rw [h.active]; exact off))
      · refine .inr (.inr (draws.trans ?_))
        split
        · rfl
        · exact unverified
  · rw [h.probe n e visit slot]
    split
    · next chain => rw [chain, on, h.lost, Bool.not_true, Bool.false_or, Bool.and_false]
    · next apart => rw [h.others _ apart, clean_kept]

/-- The muted lanes decide: each is held, and the others stand as they stood. -/
theorem decided (h : MutedFrom r s m) (k : Standing s) (on : s.isVerified (.rx r) = true) :
    Standing (m.decideLanes (s.lanesFrom r)) ∧ HandsLanes s (m.decideLanes (s.lanesFrom r)) := by
  have reads := decideLanes_reads m (s.lanesFrom r)
  have standing : Standing (m.decideLanes (s.lanesFrom r)) := by
    refine ⟨h.counter.congr reads.syn reads.fc, fun n => ?_⟩
    rw [decideLanes_state, reads.laneStateOf, State.redecided]
    split
    · rfl
    · next out =>
      rw [h.state, k.lanes, State.laneStateOf, State.laneStateOf, h.slot, h.input, h.active]
      cases slot : (s.lane n).slot with
      | none => rfl
      | some e =>
        dsimp only
        rw [h.others _ fun chain => out ((mem_lanesFrom ..).mpr ⟨e, slot, chain⟩), h.seq]
  refine ⟨standing, (h.hands on).trans standing (decideLanes_hands (fun n mem bare => ?_) fun n mem e slot => ?_)⟩
  · obtain ⟨e, slot, -⟩ := (mem_lanesFrom ..).mp mem
    exact nomatch ((h.slot n).symm.trans bare).symm.trans slot
  · exact .inl (.inr (.inr ((h.draws ((h.slot n).symm.trans slot)).trans (if_pos mem))))

end MutedFrom

theorem takeRxLo_handStep (s : State) (r : Rx) : HandStep s (s.takeRxLo r) := fun k => by
  unfold State.takeRxLo
  dsimp only
  split
  · next off =>
    simp only [Bool.and_eq_true, Bool.not_eq_true'] at off
    have muted := mutedFrom_muted k.counter off.2
    rw [leftVerified_eq, takeWanted_lanesFrom]
    obtain ⟨standing, hands⟩ := muted.decided k off.1
    exact HandStep.trans (fun _ => ⟨standing, hands⟩)
      (foldl_related (R := HandStep) .refl .trans decideSeq_handStep allTx _) k
  · next stays =>
    refine takeWanted_kept k fun on => ?_
    simpa [on] using stays

/-! ## The whole of what follows the slots -/

theorem handStep_steps : SeqSteps HandStep :=
  ⟨handStep_reference, takeRxLo_handStep, fun s x _ => handOver_handStep s x, decideSeq_handStep⟩

theorem applySynths_same (s : State) (p : Plan) : s.applySynths p = { s with syn := (s.applySynths p).syn } := by
  refine foldl_related (f := fun s c => s.applyAudit p.limits.auditInterval s.limits.auditInterval c)
    (R := fun s t : State => t = { s with syn := t.syn }) (fun _ => rfl) (fun a b => b.trans (by rw [a]))
    (fun s c => ?_) allChains s
  unfold State.applyAudit
  dsimp only
  split
  · rfl
  · split
    · rfl
    · split <;> rfl

theorem applySynths_handStep (s : State) (p : Plan) : HandStep s (s.applySynths p) := by
  have same := applySynths_same s p
  have synth := applySynths_synth s p
  refine .of_still (fun _ => ⟨⟨?_, ?_, fun r => ?_⟩, fun c => ?_⟩) ?_ ?_ ?_ ?_ ?_ ?_ (applySynths_keeps ..).counter
  · rw [same]
  · rw [same]
  · rw [State.isVerified, synth]
    rfl
  · rw [synth]
  all_goals rw [same]

/-- All of a hand-over but the slots, from a standing state. -/
theorem handRest_handStep (s : State) (p : Plan) : HandStep s (s.handRest p) := by
  have cut : HandStep s s.cutAll := by
    have same := cutAll_same s
    rw [same]
    exact .of_still (fun _ => .of_syn rfl rfl rfl) rfl rfl rfl rfl rfl rfl fun k => k.congr rfl rfl
  have steps := handStep_steps
  rw [handRest_eq]
  exact (((cut.trans (steps.handFirst s p)).trans (applySynths_handStep _ p)).trans
    (steps.toReferenceSteps.applyReference _ p)).trans (steps.ports _)

end Receive

end Sys2Proof.Machine
end

section
/-! PROOFS. Every lane as its tables say, through a hand-over. -/

namespace Sys2Proof.Machine

/-! ## Every lane stands as its tables say, through a hand-over (R95, R96) -/

section Agreed
variable {s t : State} {n : Slot} {r : Rx} {x : Tx}

/-- The counter is sound and every lane has the state and the target of its tables. -/
structure Agreed (s : State) : Prop where
  counter : s.CounterSound
  agrees : ∀ n, s.Agrees n

theorem Agreed.standing (k : Agreed s) : Standing s := ⟨k.counter, fun n => (k.agrees n).1⟩

/-- Nothing that the tables read has moved. -/
theorem Agreed.congr (k : Agreed s) (h : SameVerified s t) (lane : ∀ n, (t.lane n).wordless = (s.lane n).wordless)
    (inputs : t.inputs = s.inputs) (os : t.os = s.os) (level : ∀ x, (t.protection x).level = (s.protection x).level)
    (counter : t.CounterSound) : Agreed t := by
  refine ⟨counter, fun n => ⟨(k.standing.congr h lane inputs os counter).lanes n, ?_⟩⟩
  have target : (t.lane n).target = (s.lane n).target := (congrArg Lane.target (lane n) :)
  have state : (t.lane n).state = (s.lane n).state := (congrArg Lane.state (lane n) :)
  have seq (x : Tx) : t.seq x = s.seq x := by rw [State.seq, os]; rfl
  rw [target, (k.agrees n).2, state, targetOf_congr (congrArg Lane.slot (lane n) :) h.active (fun e _ => by rw [seq])
    fun e _ => level _]

theorem Agreed.of_still (k : Agreed s) (h : SameVerified s t) (lanes : t.lanes = s.lanes) (inputs : t.inputs = s.inputs)
    (os : t.os = s.os) (pu : t.pu.chains = s.pu.chains) (counter : t.CounterSound) : Agreed t :=
  k.congr h (fun n => by rw [State.lane, lanes]; rfl) inputs os (fun x => by rw [State.protection, pu]; rfl) counter

theorem decideSeq_agreed (x : Tx) (k : Agreed s) : Agreed (s.decideSeq x) :=
  ⟨(decideSeq_local s x).counter k.counter, fun n => decideSeq_agrees k.counter x (k.agrees n)⟩

/-- A decision of the lanes of a chain, the others standing as their tables say. -/
theorem decideOn_agreed (counter : s.CounterSound) (x : Tx) (others : ∀ n, s.laneOn x n = false → s.Agrees n) :
    Agreed (s.decideLanes (s.lanesOn x)) := by
  have own := decideOn_local s x
  refine ⟨own.counter counter, fun n => ?_⟩
  cases on : s.laneOn x n with
  | true => exact decideLanes_agrees s ((mem_lanesOn ..).mpr on)
  | false => exact own.agrees counter on (others n on)

theorem protect_agreed (x : Tx) (k : Agreed s) : Agreed (s.protect x) := by
  have unit := decideProtection_local s x
  have told := announced_announces s (s.decideProtection x) x
  have own : Local x s (State.announced s (s.decideProtection x) x) := unit.trans (told.local x)
  obtain ⟨-, time, syn, -, os, pu, lanes, -, inputs, -⟩ := told.field
  rw [State.protect, handProtection_eq, State.tellChain]
  split
  · exact decideSeq_agreed x (decideOn_agreed (own.counter k.counter) x fun n off =>
      own.agrees k.counter ((laneOn_congr (own.slots n) x).symm.trans off) (k.agrees n))
  · next still =>
    have level (y : Tx) : ((s.decideProtection x).protection y).level = (s.protection y).level := by
      by_cases eq : y = x
      · subst eq
        by_contra moved
        exact still (levelMoved_of_level fun same => moved same.symm)
      · rw [unit.protection y eq]
    exact k.congr (own.sameVerified k.counter) (fun n => by rw [State.lane, lanes]; rfl) inputs os
      (fun y => by rw [told.protection_eq, level]) (own.counter k.counter)

/-- A hand-over in an off state: no lane of the chain has a target. -/
theorem handOver_agreed (k : Agreed s) (off : (s.seq x).state.live = false) : Agreed (s.handOver x) := by
  have own := handOver_local s x
  obtain ⟨standing, -⟩ := handOver_handStep s x k.standing
  refine ⟨standing.counter, fun n => ?_⟩
  cases on : s.laneOn x n with
  | false => exact own.agrees k.counter on (k.agrees n)
  | true =>
    refine ⟨standing.lanes n, ?_⟩
    have seq := handOver_seq s x x
    rw [if_pos rfl] at seq
    have lane := (takeWanted_laneKept
      (s.setSeq x { s.seq x with handedOver := s.pe.active.tuningLo x, retunePending := false }) x
        (s.pe.active.tuningLo x) n).1
    have target : ((s.handOver x).lane n).target = (s.lane n).target := (congrArg Lane.target lane :)
    have dark : (s.seq x).state ≠ .rampUp ∧ (s.seq x).state ≠ .onAir := by
      constructor <;> intro eq <;> rw [eq] at off <;> exact nomatch off
    rw [target, (k.agrees n).2, targetOf_quiet on dark.1 dark.2,
      targetOf_quiet ((laneOn_congr (own.slots n) x).trans on) (by rw [seq]; exact dark.1) (by rw [seq]; exact dark.2)]

theorem MutedFrom.agreed {m : State} (h : MutedFrom r s m) (k : Agreed s) (on : s.isVerified (.rx r) = true) :
    Agreed (m.decideLanes (s.lanesFrom r)) := by
  obtain ⟨standing, -⟩ := h.decided k.standing on
  refine ⟨standing.counter, fun n => ?_⟩
  by_cases mem : n ∈ s.lanesFrom r
  · exact decideLanes_agrees m mem
  · have reads := decideLanes_reads m (s.lanesFrom r)
    have wordless := h.lane n
    rw [if_neg mem] at wordless
    refine ⟨standing.lanes n, ?_⟩
    rw [decideLanes_target, decideLanes_state, reads.targetOf, State.redecided, if_neg mem, h.state,
      show (m.lane n).target = (s.lane n).target from (congrArg Lane.target wordless :), (k.agrees n).2]
    exact (targetOf_congr (h.slot n) h.active (fun e _ => by rw [h.seq])
      (fun e _ => by rw [State.protection, h.pu]; rfl) _).symm

theorem takeRxLo_agreed (r : Rx) (k : Agreed s) : Agreed (s.takeRxLo r) := by
  unfold State.takeRxLo
  dsimp only
  split
  · next off =>
    simp only [Bool.and_eq_true, Bool.not_eq_true'] at off
    rw [leftVerified_eq, takeWanted_lanesFrom]
    exact foldl_related (R := fun s t => Agreed s → Agreed t) (fun _ => id) (fun a b => b ∘ a)
      (fun _ y => decideSeq_agreed y) allTx _ ((mutedFrom_muted k.counter off.2).agreed k off.1)
  · next stays =>
    have frame := takeWanted_frame s (.rx r) (s.pe.active.rx.get r)
    exact k.congr (takeWanted_sameVerified k.counter fun on => by simpa [on] using stays)
      (takeWanted_wordless s _ _) frame.inputs frame.os (fun x => by rw [State.protection, takeWanted_receive_pu]; rfl)
      ((takeWanted_rx_keeps ..).counter k.counter)

theorem agreed_steps : SeqSteps (fun s t => Agreed s → Agreed t) where
  refl _ := id
  trans a b := b ∘ a
  ref _ _ k := k.of_still (.mk rfl rfl fun _ => rfl) rfl rfl rfl rfl (k.counter.congr rfl rfl)
  notify _ _ k := k.of_still (.mk rfl rfl fun _ => rfl) rfl rfl rfl rfl (k.counter.congr rfl rfl)
  ports _ k := k.of_still (.mk rfl rfl fun _ => rfl) rfl rfl rfl rfl (k.counter.congr rfl rfl)
  spoil s k := k.of_still (.mk rfl rfl fun _ => rfl) rfl rfl rfl rfl ((spoilMeasurement_keeps s).counter k.counter)
  device _ _ k := k.of_still (.mk rfl rfl fun _ => rfl) rfl rfl rfl rfl (k.counter.congr rfl rfl)
  start s k := by
    have frame := startMeasurement_frame s
    exact k.of_still (Unlaned.of_waits k.counter frame.time (congrArg _ frame.pe) (startMeasurement_synth s)).toSameVerified
      (startMeasurement_lanes s) frame.inputs frame.os (congrArg _ (startMeasurement_pu s)) (startMeasurement_counter k.counter)
  protect _ x := protect_agreed x
  receive _ r := takeRxLo_agreed r
  hand _ _ off k := handOver_agreed k off
  decide _ x := decideSeq_agreed x

theorem applySynths_agreed (p : Plan) (k : Agreed s) : Agreed (s.applySynths p) := by
  have same := applySynths_same s p
  have synth := applySynths_synth s p
  refine k.of_still ⟨?_, ?_, fun r => ?_⟩ ?_ ?_ ?_ ?_ ((applySynths_keeps ..).counter k.counter)
  rotate_left 2
  · rw [State.isVerified, synth]
    rfl
  all_goals rw [same]

/-- All of a hand-over but the slots leaves every lane as its tables say. -/
theorem handRest_agreed (s : State) (p : Plan) (k : Agreed s) : Agreed (s.handRest p) := by
  have cut : Agreed s.cutAll := by
    have level (x : Tx) : (s.cutAll.protection x).level = (s.protection x).level := by
      rw [cutAll_protection]
      rfl
    rw [cutAll_same] at level ⊢
    generalize s.cutAll.pu = units at level ⊢
    exact k.congr ⟨rfl, rfl, fun _ => rfl⟩ (fun _ => rfl) rfl rfl level (k.counter.congr rfl rfl)
  have first := agreed_steps.handFirst s p cut
  have second := applySynths_agreed p first
  rw [handRest_eq]
  exact agreed_steps.ports _ (agreed_steps.toReferenceSteps.applyReference _ p second)

end Agreed

end Sys2Proof.Machine
end

section
/-! PROOFS. The slots of an apply, stage by stage. -/

namespace Sys2Proof.Machine

/-! ## The slots of an apply, stage by stage (R99, R100, R118, R119) -/

section Stages
variable {s t : State} {p : Plan} {n m : Slot} {e : SlotEntry}

/-! ### Input records and the visit -/

/-- The input record of a slot whose record an apply resets. -/
def InputRecord.renewed (present : Option SlotEntry) : InputRecord :=
  if present.isSome then .fresh else .reset

theorem applyInput_eq (s : State) (p : Plan) (n : Slot) :
    s.applyInput n (p.slots.get n) (s.pe.active.slots.get n) =
      if resetByApply p s.pe.active n = true then
        (s.setInput n (.renewed (s.pe.active.slots.get n))).abandonVisit n
      else s := by
  unfold State.applyInput resetByApply
  cases p.slots.get n <;> cases s.pe.active.slots.get n
  · rfl
  · rfl
  · rfl
  · next a b =>
    dsimp only
    by_cases same : a.sameInputs b = true
    · rw [if_pos same, if_neg (by rw [same]; exact nofun)]
    · rw [if_neg same, if_pos (by rw [Bool.eq_false_iff.mpr same]; rfl)]
      rfl

/-- The record of a slot as the apply takes it. -/
def State.inputTaken (s : State) (p : Plan) (n : Slot) : InputRecord :=
  if resetByApply p s.pe.active n = true then .renewed (s.pe.active.slots.get n) else s.input n

theorem abandonVisit_same (s : State) (n : Slot) : s.abandonVisit n = { s with
    probe := if s.probe.visit = some n then s.probe.stop else s.probe } := by
  unfold State.abandonVisit
  split <;> rfl

/-- Nothing but input records and the probe. -/
theorem slotInputs_same (s : State) (p : Plan) :
    s.slotInputs p = { s with inputs := (s.slotInputs p).inputs, probe := (s.slotInputs p).probe } := by
  refine foldl_related (f := fun s n => s.applyInput n (p.slots.get n) (s.pe.active.slots.get n))
    (R := fun s t : State => t = { s with inputs := t.inputs, probe := t.probe }) (fun _ => rfl)
    (fun a b => b.trans (by rw [a])) (fun s n => ?_) allSlots s
  rw [applyInput_eq, abandonVisit_same]
  split <;> rfl

theorem slotInputs_input (s : State) (p : Plan) (n : Slot) : (s.slotInputs p).input n = s.inputTaken p n := by
  refine foldl_own (f := fun s n => s.applyInput n (p.slots.get n) (s.pe.active.slots.get n)) (proj := State.input)
    (P := fun t => t.pe = s.pe) (old := s.input) (new := s.inputTaken p) allSlots_nodup
    (fun t m same => (applyInput_frame ..).pe.trans same) (fun t m same before => ?_) (fun t m k _ apart => ?_) rfl
    (fun _ _ => rfl) n (mem_allSlots n)
  · rw [applyInput_eq, abandonVisit_same, State.inputTaken, same]
    split
    · exact State.input_setInput_same ..
    · exact before
  · rw [applyInput_eq, abandonVisit_same]
    split
    · exact (State.input_setInput ..).trans (if_neg apart)
    · rfl

theorem foldl_applyInput_probe (p : Plan) (l : List Slot) (s : State) :
    (l.foldl (fun s n => s.applyInput n (p.slots.get n) (s.pe.active.slots.get n)) s).probe =
      if s.probe.visit.any (fun m => decide (m ∈ l) && resetByApply p s.pe.active m) = true then s.probe.stop
      else s.probe := by
  induction l generalizing s with
  | nil =>
    rw [if_neg]
    · rfl
    · cases s.probe.visit <;> exact nofun
  | cons n l ih =>
    have pe : (s.applyInput n (p.slots.get n) (s.pe.active.slots.get n)).pe = s.pe := (applyInput_frame ..).pe
    have probe : (s.applyInput n (p.slots.get n) (s.pe.active.slots.get n)).probe =
        if resetByApply p s.pe.active n = true ∧ s.probe.visit = some n then s.probe.stop else s.probe := by
      rw [applyInput_eq, abandonVisit_same]
      split
      · next renewed =>
        simp only [renewed, true_and]
        rfl
      · next kept => rw [if_neg fun h => kept h.1]
    rw [List.foldl_cons, ih, pe, probe]
    by_cases here : resetByApply p s.pe.active n = true ∧ s.probe.visit = some n
    · rw [if_pos here, here.2]
      simp only [Option.any_some, List.mem_cons_self, decide_true, here.1, Bool.true_and, if_true]
      exact if_neg nofun
    · rw [if_neg here]
      cases visit : s.probe.visit with
      | none => rfl
      | some m =>
        by_cases same : m = n
        · subst same
          have kept : resetByApply p s.pe.active m = false := Bool.eq_false_iff.mpr fun is => here ⟨is, visit⟩
          simp only [Option.any_some, kept, Bool.and_false]
        · simp only [Option.any_some, List.mem_cons, same, false_or]

/-- A visit of a slot whose record is reset is abandoned; no other is. -/
theorem slotInputs_probe (s : State) (p : Plan) : (s.slotInputs p).probe =
    if s.probe.visit.any (resetByApply p s.pe.active) = true then s.probe.stop else s.probe := by
  refine (foldl_applyInput_probe p allSlots s).trans ?_
  simp only [mem_allSlots, decide_true, Bool.true_and]

/-! ### Lanes -/

theorem applyLane_congr (pe : t.pe = s.pe) (syn : t.syn = s.syn) (lane : t.lane n = s.lane n)
    (phase : t.phaseOf n = s.phaseOf n) :
    ((t.applyLane p n).lane n, (t.applyLane p n).phaseOf n) = ((s.applyLane p n).lane n, (s.applyLane p n).phaseOf n) := by
  have kept (a e : SlotEntry) (l : Lane) : t.keptWords a e l = s.keptWords a e l := by
    simp only [State.keptWords, State.keptWord, wordFor_congr pe syn]
  unfold State.applyLane
  rw [pe, lane]
  cases p.slots.get n <;> cases s.pe.active.slots.get n
  · exact Prod.ext lane phase
  · exact Prod.ext ((State.lane_setLane_same ..).trans ((newWords_congr pe syn ..).trans (State.lane_setLane_same ..).symm))
      ((State.phaseOf_setPhase_same ..).trans (State.phaseOf_setPhase_same ..).symm)
  · exact Prod.ext ((State.lane_setLane_same ..).trans (State.lane_setLane_same ..).symm)
      ((State.phaseOf_setPhase_same ..).trans (State.phaseOf_setPhase_same ..).symm)
  · dsimp only
    split
    · rw [kept]
      exact Prod.ext ((State.lane_setLane_same ..).trans (State.lane_setLane_same ..).symm) phase
    · exact Prod.ext
        ((State.lane_setLane_same ..).trans ((newWords_congr pe syn ..).trans (State.lane_setLane_same ..).symm))
        ((State.phaseOf_setPhase_same ..).trans (State.phaseOf_setPhase_same ..).symm)

theorem applyLane_phase_other (s : State) (p : Plan) (apart : m ≠ n) : (s.applyLane p n).phaseOf m = s.phaseOf m := by
  unfold State.applyLane
  dsimp only
  split
  · rfl
  · exact (State.phaseOf_setPhase ..).trans (if_neg apart)
  · exact (State.phaseOf_setPhase ..).trans (if_neg apart)
  · split
    · rfl
    · exact (State.phaseOf_setPhase ..).trans (if_neg apart)

/-- Each lane as its own part of the apply makes it. -/
theorem slotLanes_lane (s : State) (p : Plan) (n : Slot) :
    ((s.slotLanes p).lane n, (s.slotLanes p).phaseOf n) = ((s.applyLane p n).lane n, (s.applyLane p n).phaseOf n) := by
  refine foldl_own (f := fun s n => s.applyLane p n) (proj := fun t n => (t.lane n, t.phaseOf n)) (P := LaneFrame s)
    (old := fun n => (s.lane n, s.phaseOf n)) (new := fun n => ((s.applyLane p n).lane n, (s.applyLane p n).phaseOf n))
    allSlots_nodup (fun t m same => same.trans (applyLane_frame t p m)) (fun t m same before => ?_)
    (fun t m k _ apart => ?_) (.refl s) (fun _ _ => rfl) n (mem_allSlots n)
  · exact applyLane_congr same.pe same.syn (congrArg Prod.fst before :) (congrArg Prod.snd before :)
  · exact Prod.ext (applyLane_other apart) (applyLane_phase_other t p apart)

theorem slotLanes_same (s : State) (p : Plan) :
    s.slotLanes p = { s with lanes := (s.slotLanes p).lanes, phases := (s.slotLanes p).phases } := by
  refine foldl_related (f := fun s n => s.applyLane p n)
    (R := fun s t : State => t = { s with lanes := t.lanes, phases := t.phases }) (fun _ => rfl)
    (fun a b => b.trans (by rw [a])) (fun s n => ?_) allSlots s
  unfold State.applyLane
  dsimp only
  split
  · rfl
  · rfl
  · rfl
  · split <;> rfl

theorem muteAll_lane (s : State) (n : Slot) : (allSlots.foldl State.muteUnverified s).lane n =
    if s.sourceUnverified n = true then (s.lane n).muted else s.lane n := by
  have mute (t : State) (m k : Slot) : (t.muteUnverified m).lane k =
      if k = m ∧ t.sourceUnverified m = true then (t.lane m).muted else t.lane k := by
    unfold State.muteUnverified
    split
    · next off =>
      simp only [off, and_true]
      exact State.lane_setLane ..
    · next on => rw [if_neg fun h => on h.2]
  refine foldl_own (f := State.muteUnverified) (proj := State.lane) (P := fun t => t.inputs = s.inputs ∧ t.syn = s.syn)
    (old := s.lane) (new := fun n => if s.sourceUnverified n = true then (s.lane n).muted else s.lane n)
    allSlots_nodup (fun t m same => ?_) (fun t m same before => ?_) (fun t m k _ apart => ?_) ⟨rfl, rfl⟩
    (fun _ _ => rfl) n (mem_allSlots n)
  · unfold State.muteUnverified
    split <;> exact same
  · have unverified : t.sourceUnverified m = s.sourceUnverified m := by
      have input : t.input m = s.input m := by rw [State.input, same.1]; rfl
      have verified (c : Chain) : t.isVerified c = s.isVerified c := by rw [State.isVerified, State.synth, same.2]; rfl
      simp only [State.sourceUnverified, before, input, verified]
    rw [mute, before, unverified]
    simp only [true_and]
  · rw [mute, if_neg fun h => apart h.1]

theorem muteAll_same (s : State) : allSlots.foldl State.muteUnverified s =
    { s with lanes := (allSlots.foldl State.muteUnverified s).lanes } := by
  refine foldl_related (R := fun s t : State => t = { s with lanes := t.lanes }) (fun _ => rfl)
    (fun a b => b.trans (by rw [a])) (fun s n => ?_) allSlots s
  unfold State.muteUnverified
  split <;> rfl

end Stages

end Sys2Proof.Machine
end

section
/-! PROOFS. The slots of an apply once lanes have been decided. -/

namespace Sys2Proof.Machine

/-! ## The slots of an apply, once lanes have been decided (R95, R96, R101, R110, R115) -/

section Decided
variable {s t : State} {p : Plan} {n m : Slot} {e : SlotEntry}

/-! ### The lanes as the apply takes them -/

theorem applyLane_absent (old : p.slots.get n = none) (new : s.pe.active.slots.get n = none) : s.applyLane p n = s := by
  rw [State.applyLane, old, new]

theorem applyLane_removed {a : SlotEntry} (old : p.slots.get n = some a) (new : s.pe.active.slots.get n = none) :
    (s.applyLane p n).lane n = { Lane.reset with state := (s.lane n).state } ∧ (s.applyLane p n).phaseOf n = ⟨0, 0⟩ := by
  rw [State.applyLane, old, new]
  exact ⟨State.lane_setLane_same .., State.phaseOf_setPhase_same ..⟩

/-- The slot was not present on the chain that it takes. -/
def Plan.Misses (p : Plan) (n : Slot) (e : SlotEntry) : Prop := ∀ a, p.slots.get n = some a → a.outputChain ≠ e.outputChain

theorem applyLane_new (old : p.Misses n e) (new : s.pe.active.slots.get n = some e) :
    (s.applyLane p n).lane n = s.newWords e { Lane.reset with slot := some e, state := (s.lane n).state } ∧
      (s.applyLane p n).phaseOf n = ⟨0, 0⟩ := by
  rw [State.applyLane, new]
  cases before : p.slots.get n with
  | none => exact ⟨State.lane_setLane_same .., State.phaseOf_setPhase_same ..⟩
  | some a =>
    dsimp only
    rw [if_neg (old a before)]
    exact ⟨State.lane_setLane_same .., State.phaseOf_setPhase_same ..⟩

theorem applyLane_stays {a : SlotEntry} (old : p.slots.get n = some a) (new : s.pe.active.slots.get n = some e)
    (chain : a.outputChain = e.outputChain) :
    (s.applyLane p n).lane n = { s.keptWords a e { s.lane n with slot := some e } with
      phaseReset := (s.lane n).phaseReset || (p.tx.get e.outputChain).lo != (s.pe.active.tx.get e.outputChain).lo } ∧
      (s.applyLane p n).phaseOf n = s.phaseOf n := by
  rw [State.applyLane, old, new]
  dsimp only
  rw [if_pos chain]
  exact ⟨State.lane_setLane_same .., rfl⟩

theorem applyLane_kept (s : State) (p : Plan) (n : Slot) : ((s.applyLane p n).lane n).state = (s.lane n).state ∧
    ((s.lane n).slot = p.slots.get n → ((s.applyLane p n).lane n).slot = s.pe.active.slots.get n) := by
  refine ⟨?_, applyLane_slot⟩
  cases new : s.pe.active.slots.get n with
  | none =>
    cases old : p.slots.get n with
    | none => rw [applyLane_absent old new]
    | some a => rw [(applyLane_removed old new).1]
  | some e =>
    by_cases misses : p.Misses n e
    · rw [(applyLane_new misses new).1]
      rfl
    · simp only [Plan.Misses, not_forall, not_not] at misses
      obtain ⟨a, old, chain⟩ := misses
      rw [(applyLane_stays old new chain).1]
      rfl

/-- The lane has a source that is not VERIFIED (R98). -/
def State.takenUnverified (s : State) (p : Plan) (n : Slot) : Bool :=
  ((s.applyLane p n).lane n).slot.any fun e => !s.isVerified (.rx (e.sourceChain (s.inputTaken p n).source))

/-- Lane, record and phases of a slot once it has been taken. -/
structure SlotTaken (p : Plan) (n : Slot) (s t : State) : Prop where
  lane : t.lane n = if s.takenUnverified p n = true then ((s.applyLane p n).lane n).muted else (s.applyLane p n).lane n
  phase : t.phaseOf n = (s.applyLane p n).phaseOf n
  input : t.input n = s.inputTaken p n

theorem slotsTaken_slot (s : State) (p : Plan) (n : Slot) : SlotTaken p n s (s.slotsTaken p) := by
  have units (v : State) : (allTx.foldl State.startMixer v).lanes = v.lanes ∧
      (allTx.foldl State.startMixer v).inputs = v.inputs ∧ (allTx.foldl State.startMixer v).phases = v.phases :=
    foldl_related (f := State.startMixer) (R := fun s t : State => t.lanes = s.lanes ∧ t.inputs = s.inputs ∧ t.phases = s.phases)
      (fun _ => ⟨rfl, rfl, rfl⟩) (fun a b => ⟨b.1.trans a.1, b.2.1.trans a.2.1, b.2.2.trans a.2.2⟩)
      (fun _ _ => ⟨rfl, rfl, rfl⟩) allTx v
  have inputs := slotInputs_same s p
  have input := slotInputs_input s p n
  have lane := slotLanes_lane (s.slotInputs p) p n
  rw [applyLane_congr (t := s.slotInputs p) (s := s) (p := p) (by rw [inputs]) (by rw [inputs]) (by rw [inputs]; rfl)
    (by rw [inputs]; rfl)] at lane
  obtain ⟨lane, phase⟩ := Prod.mk.inj lane
  have lanes := slotLanes_same (s.slotInputs p) p
  have muted := muteAll_lane ((s.slotInputs p).slotLanes p) n
  have mute := muteAll_same ((s.slotInputs p).slotLanes p)
  have input' : ((s.slotInputs p).slotLanes p).input n = s.inputTaken p n := by
    rw [lanes]
    exact input
  have unverified : ((s.slotInputs p).slotLanes p).sourceUnverified n = s.takenUnverified p n := by
    have verified (c : Chain) : ((s.slotInputs p).slotLanes p).isVerified c = s.isVerified c := by
      rw [lanes, inputs]
      rfl
    rw [State.sourceUnverified, State.takenUnverified, input', lane]
    simp only [verified]
  obtain ⟨sameLanes, sameInputs, samePhases⟩ := units (allSlots.foldl State.muteUnverified ((s.slotInputs p).slotLanes p))
  refine ⟨?_, ?_, ?_⟩
  · rw [State.slotsTaken, State.lane, sameLanes]
    refine muted.trans ?_
    rw [unverified, lane]
  · rw [State.slotsTaken, State.phaseOf, samePhases, mute]
    exact phase
  · rw [State.slotsTaken, State.input, sameInputs, mute]
    exact input'

theorem slotsTaken_probe (s : State) (p : Plan) : (s.slotsTaken p).probe = (s.slotInputs p).probe :=
  (takeUnits_frame _).probe.trans ((muteAll_frame _).probe.trans (slotLanes_frame _ p).probe)

/-! ### The windows of the reset records -/

theorem markWindow_voidNow (s : State) (n : Slot) : (s.markWindow n).input n = { s.input n with windowVoid := s.voidNow n } := by
  rw [markWindow_input, if_pos rfl, State.voidNow]
  by_cases boundary : s.time.lastWindow = s.time.steps
  · rw [if_pos boundary, decide_eq_true boundary, Bool.true_and]
  · rw [if_neg boundary, decide_eq_false boundary, Bool.false_and, Bool.not_false]

theorem foldl_markWindow (l : List Slot) (s : State) :
    l.foldl State.markWindow s = { s with inputs := (l.foldl State.markWindow s).inputs } ∧
      ∀ n, (l.foldl State.markWindow s).input n = if n ∈ l then { s.input n with windowVoid := s.voidNow n } else s.input n := by
  refine ⟨foldl_related (f := State.markWindow) (R := fun s t : State => t = { s with inputs := t.inputs }) (fun _ => rfl)
    (fun a b => b.trans (by rw [a])) (fun _ _ => rfl) l s, fun n => ?_⟩
  induction l generalizing s with
  | nil => rw [if_neg List.not_mem_nil]; rfl
  | cons m l ih =>
    rw [List.foldl_cons, ih, show (s.markWindow m).voidNow n = s.voidNow n from rfl]
    by_cases same : n = m
    · subst same
      rw [markWindow_voidNow, ite_self, if_pos List.mem_cons_self]
    · rw [markWindow_input, if_neg same]
      simp only [List.mem_cons, same, false_or]

theorem mem_renewed (p active : Plan) (n : Slot) :
    n ∈ allSlots.filter (resetByApply p active) ↔ resetByApply p active n = true := by
  simp only [List.mem_filter, mem_allSlots, true_and]

theorem markReset_input (s : State) (p : Plan) (n : Slot) : (s.markReset p).input n =
    if resetByApply p s.pe.active n = true then { s.input n with windowVoid := s.voidNow n } else s.input n :=
  ((foldl_markWindow _ s).2 n).trans (if_congr (mem_renewed ..) rfl rfl)

theorem markReset_lane (s : State) (p : Plan) (n : Slot) : (s.markReset p).lane n = s.lane n ∧
    (s.markReset p).phaseOf n = s.phaseOf n ∧ (s.markReset p).time = s.time := by
  have same : s.markReset p = { s with inputs := (s.markReset p).inputs } := (foldl_markWindow _ s).1
  rw [same]
  exact ⟨rfl, rfl, rfl⟩

theorem markReset_reads (s : State) (p : Plan) : Reads s (s.markReset p) := by
  refine ⟨markWindows_frame .., fun n => by rw [(markReset_lane s p n).1], fun n => ?_⟩
  rw [markReset_input]
  split <;> rfl

theorem Reads.agrees (h : Reads s t) (agrees : s.Agrees n) (state : (t.lane n).state = (s.lane n).state)
    (target : (t.lane n).target = (s.lane n).target) : t.Agrees n := by
  rw [State.Agrees, h.laneStateOf, h.targetOf, state, target]
  exact agrees

/-! ### The lane at the end -/

/-- What stands of a slot once all slots have been taken, decided and set to ramp. -/
structure SlotPlaced (p : Plan) (n : Slot) (s t : State) : Prop where
  lane : { t.lane n with state := .held, target := 0, start := 0 } =
    { s.lane n with state := .held, target := 0, start := 0 }
  start : t.lane n = { t.lane n with start := (t.lane n).current } ∨
    ((s.lane n).slot = none ∧ (t.lane n).start = (s.lane n).start)
  agrees : t.Agrees n
  phase : t.phaseOf n = s.phaseOf n
  renewed : resetByApply p s.pe.active n = true → t.input n = { s.input n with windowVoid := t.voidNow n }
  kept : resetByApply p s.pe.active n = false → t.input n =
    if (t.lane n).state.measured = (s.lane n).state.measured then s.input n
    else { s.input n with windowVoid := t.voidNow n }

theorem laneOn_some (slot : (s.lane n).slot = some e) : ∃ x ∈ allTx, s.laneOn x n = true :=
  ⟨e.outputChain, mem_allTx _, (laneOn_iff ..).mpr ⟨e, slot, rfl⟩⟩

theorem decided_placed (s : State) (p : Plan) (n : Slot) :
    SlotPlaced p n s (allTx.foldl State.startRamp ((s.decideLanes allSlots).markReset p)) := by
  have reads := decideLanes_reads s allSlots
  have agrees := decideLanes_agrees s (mem_allSlots n)
  have lane := decideLanes_lane s allSlots n
  have input := decideLanes_input s allSlots n
  have phases := decideLanes_phases s allSlots
  have bare : (s.lane n).slot = none → ((s.decideLanes allSlots).lane n).start = (s.lane n).start := fun none => by
    rw [(decideLanes_spec s allSlots).1, if_neg, redecided_start]
    rintro ⟨x, -, on⟩
    obtain ⟨e, slot, -⟩ := (laneOn_iff ..).mp on
    exact nomatch none.symm.trans slot
  rw [State.redecided, if_pos (mem_allSlots n)] at lane
  have state : ((s.decideLanes allSlots).lane n).state = s.laneStateOf n := by
    rw [decideLanes_state, State.redecided, if_pos (mem_allSlots n)]
    rfl
  generalize s.decideLanes allSlots = d at reads agrees lane input phases bare state ⊢
  have marks := markReset_reads d p
  have window := markReset_input d p n
  obtain ⟨same, samePhase, time⟩ := markReset_lane d p n
  generalize d.markReset p = m at marks window same samePhase time ⊢
  obtain ⟨ramped, -, phases', inputs', ramps⟩ := foldl_startRamp allTx m
  have ramped := ramped n
  rw [same] at ramped
  have sameInput : (allTx.foldl State.startRamp m).input n = m.input n := by rw [State.input, inputs']; rfl
  have samePhases : (allTx.foldl State.startRamp m).phaseOf n = m.phaseOf n := by rw [State.phaseOf, phases']; rfl
  generalize allTx.foldl State.startRamp m = t at ramped ramps sameInput samePhases ⊢
  have after : (t.lane n).state = (d.lane n).state := by
    rw [ramped]
    split <;> rfl
  have now : t.voidNow n = d.voidNow n := by rw [State.voidNow, State.voidNow, after, ramps.time, time]
  refine ⟨?_, ?_, (marks.trans ramps).agrees agrees after ?_, ?_, fun renewed => ?_, fun kept => ?_⟩
  · rw [ramped]
    split <;> exact congrArg (fun l : Lane => { l with state := .held, target := 0 }) lane
  · rw [ramped]
    split
    · exact .inl rfl
    · next off =>
      cases slot : (s.lane n).slot with
      | none => exact .inr ⟨rfl, bare slot⟩
      | some e => exact absurd (laneOn_some (((marks.slots n).trans (reads.slots n)).trans slot)) off
  · rw [ramped]
    split <;> rfl
  · rw [samePhases, samePhase, State.phaseOf, phases]
    rfl
  · rw [sameInput, window, reads.pe, if_pos renewed, now, input]
    split <;> rfl
  · rw [sameInput, window, reads.pe, kept, if_neg Bool.false_ne_true, input, now, after, state]
    by_cases changed : (s.laneStateOf n).measured = (s.lane n).state.measured
    · rw [if_neg fun h => h.2 changed, if_pos changed]
    · rw [if_pos ⟨mem_allSlots n, changed⟩, if_neg changed, State.voidNow, state, reads.time]
      by_cases boundary : s.time.lastWindow = s.time.steps
      · rw [if_pos boundary, decide_eq_true boundary, Bool.true_and]
      · rw [if_neg boundary, decide_eq_false boundary, Bool.false_and, Bool.not_false]

theorem slotsDecided_placed (s : State) (p : Plan) (n : Slot) :
    SlotPlaced p n (s.slotsTaken p) (allTx.foldl State.startRamp (s.slotsDecided p)) := decided_placed ..

theorem SlotPlaced.of_probe (h : SlotPlaced p n s t) (q : Probe) : SlotPlaced p n s { t with probe := q } :=
  ⟨h.lane, h.start, h.agrees, h.phase, h.renewed, h.kept⟩

/-- The slots of an apply, each placed. -/
theorem applySlots_placed (s : State) (p : Plan) (n : Slot) : SlotPlaced p n (s.slotsTaken p) (s.applySlots p) := by
  rw [applySlots_eq, startVisit_eq]
  exact (slotsDecided_placed s p n).of_probe _

end Decided

end Sys2Proof.Machine
end

section
/-! PROOFS. What the slots of an apply leave, slot by slot. -/

namespace Sys2Proof.Machine

/-! ## What the slots of an apply leave, slot by slot (R99, R100, R104, R115, R118, R119) -/

section Placed
variable {s t v : State} {p : Plan} {n m : Slot} {e : SlotEntry}

/-! ### The visit -/

theorem slotsDecided_probe (s : State) (p : Plan) :
    (allTx.foldl State.startRamp (s.slotsDecided p)).probe = (s.slotInputs p).probe :=
  (startRamps_frame _).probe.trans ((markWindows_frame ..).probe.trans ((decideLanes_frame ..).probe.trans
    (slotsTaken_probe s p)))

/-- A visit of a slot that keeps its record goes on. -/
theorem applySlots_visit (visit : s.probe.visit = some n) (kept : resetByApply p s.pe.active n = false) :
    (s.applySlots p).probe = s.probe := by
  have probe := slotsDecided_probe s p
  rw [slotInputs_probe, visit, Option.any_some, kept, if_neg Bool.false_ne_true] at probe
  rw [applySlots_eq, State.startVisit, if_pos, probe]
  rw [probe, visit]
  rfl

theorem mem_of_find_or_head {α : Type} {f : α → Bool} {l : List α} {a : α} (h : (l.find? f <|> l.head?) = some a) : a ∈ l := by
  cases found : l.find? f with
  | some b =>
    rw [found] at h
    exact Option.some.inj h ▸ List.mem_of_find?_eq_some found
  | none =>
    rw [found] at h
    exact List.mem_of_head? h

theorem nextVisit_eligible (next : s.nextVisit = some m) : (s.input m).eligible = true :=
  mem_eligibleSlots.mp (mem_of_find_or_head next)

theorem InputRecord.renewed_eligible (present : Option SlotEntry) (void : Bool) :
    InputRecord.eligible { InputRecord.renewed present with windowVoid := void } = false := by
  cases present <;> rfl

/-- A slot whose record is reset is not visited. -/
theorem applySlots_unvisited (renewed : resetByApply p s.pe.active n = true) : (s.applySlots p).probe.visit ≠ some n := by
  have placed := slotsDecided_placed s p n
  have probe := slotsDecided_probe s p
  have input : (allTx.foldl State.startRamp (s.slotsDecided p)).input n = { InputRecord.renewed (s.pe.active.slots.get n) with
      windowVoid := (allTx.foldl State.startRamp (s.slotsDecided p)).voidNow n } := by
    have taken := placed.renewed (by rw [(slotsTaken_slotFrame s p).pe]; exact renewed)
    rw [(slotsTaken_slot s p n).input, State.inputTaken, if_pos renewed] at taken
    exact taken
  have calm : (s.slotInputs p).probe.visit ≠ some n := by
    rw [slotInputs_probe]
    split
    · exact nofun
    · next none =>
      intro visit
      rw [visit, Option.any_some] at none
      exact none renewed
  rw [applySlots_eq]
  rw [← probe] at calm
  generalize allTx.foldl State.startRamp (s.slotsDecided p) = w at input calm ⊢
  unfold State.startVisit
  split
  · exact calm
  · split
    · exact calm
    · next m next =>
      intro visit
      cases Option.some.inj visit
      have eligible := nextVisit_eligible next
      rw [input, InputRecord.renewed_eligible] at eligible
      exact Bool.false_ne_true eligible

/-! ### One slot, from the state before the apply -/

/-- The fields that the sequencers take first play no part. -/
theorem SlotTaken.of_os (h : SlotTaken p n s t) (same : s = { v with os := s.os }) : SlotTaken p n v t := by
  generalize s.os = os at same
  subst same
  obtain ⟨lane, phase, input⟩ := h
  have eq := applyLane_congr (t := { v with os := os }) (s := v) (p := p) (n := n) rfl rfl rfl rfl
  obtain ⟨sameLane, samePhase⟩ := Prod.mk.inj eq
  have unverified : State.takenUnverified { v with os := os } p n = v.takenUnverified p n := by
    rw [State.takenUnverified, State.takenUnverified, sameLane]
    rfl
  exact ⟨by rw [lane, unverified, sameLane], by rw [phase, samePhase], input⟩

theorem placed_slot (v : State) (p : Plan) (n : Slot) : ∃ w, w.pe = v.pe ∧ SlotTaken p n v w ∧ SlotPlaced p n w (v.placed p) := by
  have fields : (allTx.foldl State.takeSeqFields v).pe = v.pe := (takeAllSeqFields_place v).pe
  exact ⟨_, (slotsTaken_slotFrame _ p).pe.trans fields, (slotsTaken_slot _ p n).of_os (takeAllSeqFields_same v),
    applySlots_placed _ p n⟩

theorem placed_agreed (counter : v.CounterSound) (p : Plan) : Agreed (v.placed p) := by
  refine ⟨(placed_keepsChains v p).counter counter, fun n => ?_⟩
  obtain ⟨w, -, -, placed⟩ := placed_slot v p n
  exact placed.agrees

/-- The input record of a slot once placed: reset, or kept with its window marked where the lane has entered or left
its windows. -/
structure PlacedInput (p : Plan) (n : Slot) (v t : State) : Prop where
  record : { t.input n with windowVoid := true } = { v.inputTaken p n with windowVoid := true }
  renewed : resetByApply p v.pe.active n = true → (t.input n).windowVoid = t.voidNow n
  kept : resetByApply p v.pe.active n = false →
    ((t.lane n).state.measured = (v.lane n).state.measured → (t.input n).windowVoid = (v.input n).windowVoid) ∧
    ((t.lane n).state.measured ≠ (v.lane n).state.measured → (t.input n).windowVoid = t.voidNow n)

theorem placed_input (v : State) (p : Plan) (n : Slot) : PlacedInput p n v (v.placed p) := by
  obtain ⟨w, pe, taken, placed⟩ := placed_slot v p n
  have state : (w.lane n).state = (v.lane n).state := by
    rw [taken.lane]
    split <;> exact (applyLane_kept v p n).1
  generalize v.placed p = t at placed ⊢
  cases renewed : resetByApply p v.pe.active n with
  | true =>
    have input := placed.renewed (by rw [pe]; exact renewed)
    rw [taken.input] at input
    exact ⟨by rw [input], fun _ => by rw [input], fun no => absurd (renewed.symm.trans no) nofun⟩
  | false =>
    have input := placed.kept (by rw [pe]; exact renewed)
    rw [taken.input, state] at input
    have same : v.inputTaken p n = v.input n := if_neg (by rw [renewed]; exact nofun)
    refine ⟨?_, fun yes => absurd (renewed.symm.trans yes) nofun, fun _ => ⟨fun measured => ?_, fun measured => ?_⟩⟩
    · rw [input]
      split <;> rfl
    · rw [input, if_pos measured, same]
    · rw [input, if_neg measured]

/-- The lane of a slot with an entry once placed. -/
structure PlacedLane (p : Plan) (n : Slot) (e : SlotEntry) (v t : State) : Prop where
  slot : (t.lane n).slot = some e
  start : (t.lane n).start = (t.lane n).current
  words : (t.lane n).primaryWord = ((v.applyLane p n).lane n).primaryWord ∧
    (t.lane n).fallbackWord = ((v.applyLane p n).lane n).fallbackWord ∧
    (t.lane n).transmitWord = ((v.applyLane p n).lane n).transmitWord
  current : (t.lane n).current = if t.drawsVerified n e = true then ((v.applyLane p n).lane n).current else 0
  phase : (t.lane n).phaseReset = ((v.applyLane p n).lane n).phaseReset ∧ t.phaseOf n = (v.applyLane p n).phaseOf n

theorem placed_lane (slot : (v.lane n).slot = p.slots.get n) (new : v.pe.active.slots.get n = some e) :
    PlacedLane p n e v (v.placed p) := by
  obtain ⟨w, pe, taken, placed⟩ := placed_slot v p n
  have source := (congrArg InputRecord.source (placed_input v p n).record :)
  have frame := placed_frame v p
  generalize v.placed p = t at placed source frame ⊢
  have entry : ((v.applyLane p n).lane n).slot = some e := ((applyLane_kept v p n).2 slot).trans new
  have unverified : v.takenUnverified p n = !t.drawsVerified n e := by
    rw [State.takenUnverified, entry, Option.any_some, State.drawsVerified, source, State.isVerified, State.isVerified,
      frame.synth_eq]
  have lane := placed.lane
  have before := taken.lane
  rw [unverified] at before
  generalize known : w.lane n = k at lane before
  have fields : { t.lane n with state := .held, target := 0, start := 0, current := 0 } =
      { (v.applyLane p n).lane n with state := .held, target := 0, start := 0, current := 0 } := by
    refine (congrArg (fun l : Lane => { l with current := 0 }) lane :).trans ?_
    rw [before]
    split <;> rfl
  have slot' : (t.lane n).slot = some e := (congrArg Lane.slot fields :).trans entry
  refine ⟨slot', ?_, ⟨(congrArg Lane.primaryWord fields :), (congrArg Lane.fallbackWord fields :),
    (congrArg Lane.transmitWord fields :)⟩, (congrArg Lane.current lane :).trans ?_,
    (congrArg Lane.phaseReset fields :), placed.phase.trans taken.phase⟩
  · rcases placed.start with ramped | ⟨bare, -⟩
    · rw [ramped]
    · have none : (t.lane n).slot = none := (congrArg Lane.slot lane :).trans (known ▸ bare)
      exact nomatch slot'.symm.trans none
  · dsimp only
    rw [before]
    cases t.drawsVerified n e <;> rfl

end Placed

end Sys2Proof.Machine
end

section
/-! PROOFS. A slot with an entry, through the hand-over. -/

namespace Sys2Proof.Machine

/-! ## A slot with an entry after an apply (O36) -/

section Entry
variable {s t v : State} {p plan : Plan} {n : Slot} {e a : SlotEntry} {c : Chain} {kept word : Option Word}

/-! ### Words (R97, R100) -/

/-- A word of chain `c` as a hand-over of `plan` leaves it: taken where the programmed words are the plan's. -/
def State.wordTaken (t : State) (plan : Plan) (c : Chain) (f : Nat) (kept : Option Word) : Option Word :=
  match (t.synth c).programmed with
  | none => none
  | some w => if (plan.lo c).map dividerWords = some w then some (ncoWord f w) else kept

/-- The words of a lane with entry `e` as a hand-over of `plan` leaves them. -/
def State.WordsTaken (t : State) (plan : Plan) (e : SlotEntry) (l : Lane) (primary fallback transmit : Option Word) : Prop :=
  l.primaryWord = t.wordTaken plan (.rx e.inputChain) e.inputFrequency primary ∧
  (e.fallback = none → l.fallbackWord = none) ∧
  (∀ fb, e.fallback = some fb → l.fallbackWord = t.wordTaken plan (.rx fb.chain) fb.frequency fallback) ∧
  l.transmitWord = t.wordTaken plan (.tx e.outputChain) e.outputFrequency transmit

theorem wordFor_taken (v : State) (c : Chain) (f : Nat) (kept : Option Word) :
    v.wordFor c f kept = v.wordTaken v.pe.active c f kept := by
  cases programmed : (v.synth c).programmed with
  | none => rw [wordFor_none programmed, State.wordTaken, programmed]
  | some w => rw [wordFor_some programmed, State.wordTaken, programmed]

/-- A word that was taken before the blocks took theirs, and stands or has gone with the programmed words since. -/
theorem WordKept.taken {f : Nat} (h : WordKept (v.synth c).programmed (t.synth c).programmed (v.wordFor c f kept) word) :
    word = t.wordTaken v.pe.active c f kept := by
  rcases h with ⟨programmed, rfl⟩ | ⟨none, rfl⟩
  · rw [wordFor_taken, State.wordTaken, State.wordTaken, programmed]
  · rw [State.wordTaken, none]

/-- What holds of the words of the lane before the hand-over goes on. -/
structure WordsPlaced (v : State) (e : SlotEntry) (l : Lane) (primary fallback transmit : Option Word) : Prop where
  primary : l.primaryWord = v.wordFor (.rx e.inputChain) e.inputFrequency primary
  single : e.fallback = none → l.fallbackWord = none
  fallback : ∀ fb, e.fallback = some fb → l.fallbackWord = v.wordFor (.rx fb.chain) fb.frequency fallback
  transmit : l.transmitWord = v.wordFor (.tx e.outputChain) e.outputFrequency transmit

theorem newWords_placed (v : State) (e : SlotEntry) (l : Lane) : WordsPlaced v e (v.newWords e l) none none none :=
  ⟨rfl, fun single => by rw [State.newWords, single]; rfl, fun fb is => by rw [State.newWords, is]; rfl, rfl⟩

theorem keptWords_placed (v : State) (a e : SlotEntry) (l : Lane) : WordsPlaced v e (v.keptWords a e l)
    (if a.inputChain = e.inputChain then l.primaryWord else none)
    (if a.fallback.map Fallback.chain = e.fallback.map Fallback.chain then l.fallbackWord else none)
    (if a.outputChain = e.outputChain then l.transmitWord else none) := by
  refine ⟨?_, fun single => by rw [State.keptWords, single]; rfl, fun fb is => ?_, ?_⟩
  · refine congrArg (v.wordFor _ _) (if_congr ?_ rfl rfl)
    rw [Option.some.injEq, Chain.rx.injEq]
  · rw [State.keptWords, is]
    refine congrArg (v.wordFor _ _) (if_congr ?_ rfl rfl)
    cases a.fallback with
    | none => exact ⟨nofun, nofun⟩
    | some fa => simp only [Option.map_some, Option.some.injEq, Chain.rx.injEq]
  · refine congrArg (v.wordFor _ _) (if_congr ?_ rfl rfl)
    rw [Option.some.injEq, Chain.tx.injEq]

theorem WordsPlaced.taken {m : State} {primary fallback transmit : Option Word}
    (h : WordsPlaced v e (m.lane n) primary fallback transmit) (syn : ∀ c, (m.synth c).programmed = (v.synth c).programmed)
    (k : WordsKept e n m t) : t.WordsTaken v.pe.active e (t.lane n) primary fallback transmit := by
  obtain ⟨kept, single, fallback, transmit⟩ := k
  rw [syn, h.primary] at kept
  rw [syn, h.transmit] at transmit
  refine ⟨kept.taken, fun none => (single none).trans (h.single none), fun fb is => ?_, transmit.taken⟩
  have kept := fallback fb is
  rw [syn, h.fallback fb is] at kept
  exact kept.taken

theorem WordsPlaced.of_words {l k : Lane} {primary fallback transmit : Option Word}
    (h : WordsPlaced v e l primary fallback transmit) (words : k.primaryWord = l.primaryWord ∧
      k.fallbackWord = l.fallbackWord ∧ k.transmitWord = l.transmitWord) : WordsPlaced v e k primary fallback transmit := by
  obtain ⟨p, f, x⟩ := words
  exact ⟨p.trans h.primary, fun none => f.trans (h.single none), fun fb is => f.trans (h.fallback fb is), x.trans h.transmit⟩

/-! ### The slot through the hand-over -/

section Through
variable {m : State}

/-- A slot with entry `e`, placed in `m` and carried through the rest of the hand-over to `t`. -/
structure Carried (p : Plan) (n : Slot) (e : SlotEntry) (v m t : State) : Prop where
  place : PlaceFrame v m
  placed : PlacedLane p n e v m
  input : PlacedInput p n v m
  time : t.time = m.time
  hands : LaneHands n e m t
  record : { t.input n with windowVoid := true } = { m.input n with windowVoid := true }

namespace Carried

theorem start (h : Carried p n e v m t) : (t.lane n).start = (t.lane n).current := by
  rcases h.hands.start with same | ⟨start, current⟩
  · exact same
  · rw [start, current, h.placed.start]

/-- A lane keeps its share as long as its source is VERIFIED, before and after. -/
theorem current (h : Carried p n e v m t) : (t.lane n).current =
    if t.drawsVerified n e = true then ((v.applyLane p n).lane n).current else 0 := by
  have placed := h.placed.current
  cases before : m.drawsVerified n e with
  | true =>
    rw [if_pos before] at placed
    cases after : t.drawsVerified n e with
    | true =>
      rcases h.hands.current with same | ⟨-, off⟩
      · exact same.trans placed
      · exact absurd (after.symm.trans off) nofun
    | false => exact h.hands.muted before after
  | false =>
    rw [if_neg (by rw [before]; exact nofun)] at placed
    have after : t.drawsVerified n e = false := Bool.eq_false_iff.mpr fun on => nomatch before.symm.trans (h.hands.draws on)
    rw [if_neg (by rw [after]; exact nofun)]
    rcases h.hands.current with same | ⟨zero, -⟩
    · exact same.trans placed
    · exact zero

theorem phase (h : Carried p n e v m t) :
    ((t.lane n).phaseReset = ((v.applyLane p n).lane n).phaseReset ∧ t.phaseOf n = (v.applyLane p n).phaseOf n) ∨
      (((v.applyLane p n).lane n).phaseReset = true ∧ (t.lane n).phaseReset = false ∧ t.phaseOf n = ⟨0, 0⟩) := by
  have kept := h.hands.phase
  rw [h.placed.phase.1, h.placed.phase.2] at kept
  exact kept

theorem words (h : Carried p n e v m t) {primary fallback transmit : Option Word}
    (taken : WordsPlaced v e ((v.applyLane p n).lane n) primary fallback transmit) :
    t.WordsTaken v.pe.active e (t.lane n) primary fallback transmit :=
  (taken.of_words h.placed.words).taken (fun c => by rw [h.place.synth_eq]) h.hands.toWordsKept

theorem recorded (h : Carried p n e v m t) :
    { t.input n with windowVoid := true } = { v.inputTaken p n with windowVoid := true } := h.record.trans h.input.record

theorem renewed (h : Carried p n e v m t) (renewed : resetByApply p v.pe.active n = true) :
    (t.input n).windowVoid = t.voidNow n := by
  rcases h.hands.window with ⟨void, measured⟩ | now
  · rw [void, h.input.renewed renewed, voidNow_congr h.time measured]
  · exact now

/-- The window of a kept record is marked where the lane has entered or left its windows. -/
theorem window_changed (h : Carried p n e v m t) (kept : resetByApply p v.pe.active n = false)
    (changed : (t.lane n).state.measured ≠ (v.lane n).state.measured) : (t.input n).windowVoid = t.voidNow n := by
  rcases h.hands.window with ⟨void, measured⟩ | now
  · rw [void, (h.input.kept kept).2 (measured ▸ changed), voidNow_congr h.time measured]
  · exact now

/-- And it goes on where the lane is measured before and after, as long as it then stood as its table says. -/
theorem window_kept (h : Carried p n e v m t) (kept : resetByApply p v.pe.active n = false)
    (stays : (v.lane n).state.measured = true → (m.lane n).state.measured = true ∨ m.Barred n e)
    (settled : t.Barred n e → (t.lane n).state.measured = false) (before : (v.lane n).state.measured = true)
    (after : (t.lane n).state.measured = true) : (t.input n).windowVoid = (v.input n).windowVoid := by
  rcases stays before with middle | barred
  · rw [h.hands.stays middle after]
    exact (h.input.kept kept).1 (middle.trans before.symm)
  · exact nomatch after.symm.trans (settled (h.hands.barred barred))

end Carried

end Through

/-! ### The two kinds of slot -/

section Kinds
variable {m : State}

/-- A slot made present, or moved to another output chain (R100). -/
theorem Carried.new (h : Carried p n e v m t) (old : p.Misses n e) (new : v.pe.active.slots.get n = some e) :
    (t.lane n).current = 0 ∧ t.WordsTaken v.pe.active e (t.lane n) none none none ∧ t.phaseOf n = ⟨0, 0⟩ ∧
      (t.lane n).phaseReset = false := by
  obtain ⟨lane, phases⟩ := applyLane_new (s := v) old new
  have current := h.current
  have phase := h.phase
  have words := h.words (lane ▸ newWords_placed v e _)
  rw [lane] at current phase
  rw [phases] at phase
  refine ⟨current.trans (ite_self _), words, ?_, ?_⟩
  · rcases phase with ⟨-, eq⟩ | ⟨-, -, eq⟩ <;> exact eq
  · rcases phase with ⟨eq, -⟩ | ⟨-, eq, -⟩ <;> exact eq

/-- A slot that stays on its output chain (R99, R100). -/
theorem Carried.stays (h : Carried p n e v m t) (old : p.slots.get n = some a) (new : v.pe.active.slots.get n = some e)
    (chain : a.outputChain = e.outputChain) :
    (t.lane n).current = (if t.drawsVerified n e = true then (v.lane n).current else 0) ∧
      t.WordsTaken v.pe.active e (t.lane n) (if a.inputChain = e.inputChain then (v.lane n).primaryWord else none)
        (if a.fallback.map Fallback.chain = e.fallback.map Fallback.chain then (v.lane n).fallbackWord else none)
        (v.lane n).transmitWord ∧
      let waits := (v.lane n).phaseReset = true ∨
        (p.tx.get e.outputChain).lo ≠ (v.pe.active.tx.get e.outputChain).lo
      (waits → ((t.lane n).phaseReset = true ∧ t.phaseOf n = v.phaseOf n) ∨
        ((t.lane n).phaseReset = false ∧ t.phaseOf n = ⟨0, 0⟩)) ∧
      (¬waits → (t.lane n).phaseReset = false ∧ t.phaseOf n = v.phaseOf n) := by
  obtain ⟨lane, phases⟩ := applyLane_stays (s := v) old new chain
  have current := h.current
  have phase := h.phase
  have placed := keptWords_placed v a e { v.lane n with slot := some e }
  rw [if_pos chain] at placed
  have words := h.words (placed.of_words (by rw [lane]; exact ⟨rfl, rfl, rfl⟩))
  rw [lane] at current phase
  rw [phases] at phase
  have waiting : (((v.lane n).phaseReset || (p.tx.get e.outputChain).lo != (v.pe.active.tx.get e.outputChain).lo) = true) ↔
      ((v.lane n).phaseReset = true ∨ (p.tx.get e.outputChain).lo ≠ (v.pe.active.tx.get e.outputChain).lo) := by
    rw [Bool.or_eq_true, bne_iff_ne]
  refine ⟨current, words, fun waits => ?_, fun calm => ?_⟩
  · rcases phase with ⟨reset, same⟩ | ⟨-, made⟩
    · exact .inl ⟨reset.trans (waiting.mpr waits), same⟩
    · exact .inr made
  · have still := Bool.eq_false_iff.mpr (mt waiting.mp calm)
    rcases phase with ⟨reset, same⟩ | ⟨waits, -⟩
    · exact ⟨reset.trans still, same⟩
    · exact absurd (waiting.mp waits) calm

end Kinds

end Entry

end Sys2Proof.Machine
end

section
/-! PROOFS. From the mark to the end of the hand-over. -/

namespace Sys2Proof.Machine

/-! ## What an apply hands to lanes, mixers and the Input Supervisor (O36) -/

section Lands
variable {s u v t : State} {p plan : Plan} {n : Slot} {e a : SlotEntry} {c : Instr}

/-! ### The slots that the new plan leaves empty -/

theorem voidNow_unmeasured (off : (t.lane n).state.measured = false) : t.voidNow n = true := by
  rw [State.voidNow, off, Bool.and_false]
  rfl

theorem InputRecord.ext_void {x y : InputRecord} (record : { x with windowVoid := true } = { y with windowVoid := true })
    (void : x.windowVoid = y.windowVoid) : x = y := by
  obtain ⟨⟩ := x
  obtain ⟨⟩ := y
  simp only [InputRecord.mk.injEq, and_true] at record void ⊢
  simp only [record, void, and_self]

/-- The lane of a slot that the new plan leaves empty, once placed. -/
structure PlacedEmpty (p : Plan) (n : Slot) (v m : State) : Prop where
  slot : (m.lane n).slot = none
  lane : { m.lane n with start := 0 } =
    { (v.applyLane p n).lane n with state := .unassigned, target := 0, start := 0 }
  start : (m.lane n).start = (m.lane n).current ∨ (m.lane n).start = ((v.applyLane p n).lane n).start
  phase : m.phaseOf n = (v.applyLane p n).phaseOf n

theorem placed_empty (slot : (v.lane n).slot = p.slots.get n) (new : v.pe.active.slots.get n = none) :
    PlacedEmpty p n v (v.placed p) := by
  obtain ⟨w, pe, taken, placed⟩ := placed_slot v p n
  generalize v.placed p = m at placed ⊢
  have entry : ((v.applyLane p n).lane n).slot = none := ((applyLane_kept v p n).2 slot).trans new
  have before := taken.lane
  rw [State.takenUnverified, entry, Option.any_none, if_neg Bool.false_ne_true] at before
  have lane := placed.lane
  rw [before] at lane
  have slot' : (m.lane n).slot = none := (congrArg Lane.slot lane :).trans entry
  obtain ⟨state, target⟩ := placed.agrees
  rw [laneStateOf_absent slot'] at state
  rw [targetOf_absent slot'] at target
  refine ⟨slot', ?_, ?_, placed.phase.trans taken.phase⟩
  · have again := congrArg (fun l : Lane => { l with state := .unassigned }) lane
    dsimp only at again
    rw [← again, ← state, ← target]
  · rcases placed.start with ramped | ⟨-, start⟩
    · exact .inl (by rw [ramped])
    · exact .inr (by rw [start, before])

theorem PlacedEmpty.unmeasured {m : State} (h : PlacedEmpty p n v m) : (m.lane n).state.measured = false := by
  rw [show (m.lane n).state = .unassigned from (congrArg Lane.state h.lane :)]
  rfl

/-! ### The visit -/

theorem placed_visit (visit : v.probe.visit = some n) (kept : resetByApply p v.pe.active n = false) :
    (v.placed p).probe = v.probe := by
  have same := takeAllSeqFields_same v
  have probe : (allTx.foldl State.takeSeqFields v).probe = v.probe := by rw [same]
  refine (applySlots_visit (n := n) ?_ ?_).trans probe
  · rw [probe, visit]
  · rw [(takeAllSeqFields_place v).pe, kept]

theorem placed_unvisited (renewed : resetByApply p v.pe.active n = true) : (v.placed p).probe.visit ≠ some n := by
  refine applySlots_unvisited ?_
  rw [(takeAllSeqFields_place v).pe, renewed]

/-! ### From the mark to the hand-over -/

theorem makesMark_lastWindow (mark : MakesMark c s u) : u.time.lastWindow = s.time.lastWindow := by
  rcases mark with ⟨-, -, -, rfl⟩ | ⟨-, -, -, -, rfl⟩ | ⟨-, -, -, w, rfl, rfl⟩
  · exact advanceTo_lastWindow ..
  · rfl
  · exact advanceTo_lastWindow ..

/-- The state from which the new plan is handed over, once the Plan Engine has it and the notice and the SITE write have
been made: of what lanes read, phases, time and the active plan alone have moved. -/
structure Departs (s u v : State) (plan : Plan) : Prop extends Replans s v where
  inputs : v.inputs = s.inputs
  probe : v.probe = s.probe
  phases : v.phases = u.phases
  steps : v.time.steps = u.time.steps
  last : v.time.lastWindow = s.time.lastWindow
  active : v.pe.active = plan

theorem exec_departs {r : PendingApply} (mark : MakesMark c s u) (pending : s.pe.pendingApply = some r)
    (change : r.change = .commit plan ∨ (r.change = .revert ∧ s.pe.entry 0 = some plan)) :
    ∃ v, Departs s u v plan ∧ exec c s = .next ((v.placed s.pe.active).handRest s.pe.active) := by
  obtain ⟨-, time⟩ := exec_of_makesMark mark
  obtain ⟨x, k, active, run⟩ := exec_apply mark pending change
  refine ⟨(u.replanned x).announcing k, ?_, run⟩
  have last := makesMark_lastWindow mark
  have replans : Replans s ((u.replanned x).announcing k) := announcing_replans (Replans.of_time time x) k
  have same : (u.replanned x).announcing k = { u.replanned x with
      ports := ((u.replanned x).announcing k).ports, store := ((u.replanned x).announcing k).store } := by
    rw [State.announcing, requestSite_eq]
    rfl
  refine ⟨replans, ?_, ?_, ?_, ?_, ?_, ?_⟩ <;> rw [same]
  · exact time.inputs
  · exact time.probe
  · rfl
  · rfl
  · exact last
  · exact active

namespace Departs

theorem lane_eq (h : Departs s u v plan) (n : Slot) : v.lane n = s.lane n := by rw [State.lane, h.lanes]; rfl

theorem input_eq (h : Departs s u v plan) (n : Slot) : v.input n = s.input n := by rw [State.input, h.inputs]; rfl

theorem phase_eq (h : Departs s u v plan) (n : Slot) : v.phaseOf n = u.phaseOf n := by rw [State.phaseOf, h.phases]; rfl

theorem verified_eq (h : Departs s u v plan) (c : Chain) : v.isVerified c = s.isVerified c := by
  rw [State.isVerified, h.synth_eq]
  rfl

end Departs

/-- A hand-over, from the state before it over the placed slots to its end. -/
structure Lands (s u v m t : State) (plan : Plan) : Prop extends Departs s u v plan where
  slots : ∀ n, (s.lane n).slot = s.pe.active.slots.get n
  placed : m = v.placed s.pe.active
  decided : Agreed m
  hands : HandsLanes m t
  agreed : Agreed t

theorem Departs.lands (h : Departs s u v plan) (slots : ∀ n, (s.lane n).slot = s.pe.active.slots.get n)
    (counter : s.CounterSound) :
    Lands s u v (v.placed s.pe.active) ((v.placed s.pe.active).handRest s.pe.active) plan := by
  have agreed := placed_agreed (h.counter counter) s.pe.active
  obtain ⟨-, hands⟩ := handRest_handStep _ s.pe.active agreed.standing
  exact ⟨h, slots, rfl, agreed, hands, handRest_agreed _ _ agreed⟩

namespace Lands
variable {m : State}

theorem slot_eq (h : Lands s u v m t plan) (n : Slot) : (v.lane n).slot = s.pe.active.slots.get n := by
  rw [h.lane_eq, h.slots]

theorem place (h : Lands s u v m t plan) : PlaceFrame v m := h.placed ▸ placed_frame ..

theorem input (h : Lands s u v m t plan) (n : Slot) : PlacedInput s.pe.active n v m := h.placed ▸ placed_input ..

theorem time_eq (h : Lands s u v m t plan) : t.time.steps = u.time.steps ∧ t.time.lastWindow = s.time.lastWindow := by
  rw [h.hands.time, h.place.time]
  exact ⟨h.steps, h.last⟩

theorem mixer (h : Lands s u v m t plan) (x : Tx) : t.mixer x = {
    rampUnit := (plan.tx.get x).rampUnit, step := 0
    timer := some (u.time.steps + (plan.tx.get x).rampUnit) } := by
  have frame := takeAllSeqFields_place v
  have placed : m.mixer x = {
      rampUnit := (plan.tx.get x).rampUnit, step := 0
      timer := some (u.time.steps + (plan.tx.get x).rampUnit) } := by
    rw [h.placed, State.placed, applySlots_mixer, frame.pe, frame.time, h.active, h.steps]
  rcases h.hands.mixer x with same | restarted
  · exact same.trans placed
  · rw [restarted, State.restarted, placed, h.place.time, h.steps]

theorem void_eq (h : Lands s u v m t plan) (n : Slot) :
    t.voidNow n = !(decide (s.time.lastWindow = u.time.steps) && (t.lane n).state.measured) := by
  rw [State.voidNow, h.time_eq.1, h.time_eq.2]

theorem empty (h : Lands s u v m t plan) (new : plan.slots.get n = none) :
    PlacedEmpty s.pe.active n v m ∧ t.lane n = m.lane n ∧ t.input n = m.input n ∧ t.phaseOf n = m.phaseOf n := by
  have empty : PlacedEmpty s.pe.active n v m := h.placed ▸ placed_empty (h.slot_eq n) (h.active ▸ new)
  exact ⟨empty, h.hands.bare n empty.slot⟩

/-- A slot that is empty before and after. -/
theorem bare (h : Lands s u v m t plan) (old : s.pe.active.slots.get n = none) (new : plan.slots.get n = none) :
    (t.lane n).current = (s.lane n).current ∧
      { t.input n with windowVoid := true } = { s.input n with windowVoid := true } ∧ t.phaseOf n = u.phaseOf n ∧
      ((s.lane n).state.measured = false → t.input n = s.input n) := by
  obtain ⟨empty, lane, input, phase⟩ := h.empty new
  have still : v.applyLane s.pe.active n = v := applyLane_absent old (h.active ▸ new)
  have kept : resetByApply s.pe.active v.pe.active n = false := by
    rw [resetByApply, h.active, old, new]
  have taken : v.inputTaken s.pe.active n = v.input n := if_neg (by rw [kept]; exact nofun)
  have record := (h.input n).record
  have lane' := empty.lane
  have phase' := empty.phase
  rw [taken, h.input_eq] at record
  rw [still] at lane' phase'
  rw [lane, input, phase, phase', h.phase_eq, ← h.lane_eq]
  refine ⟨(congrArg Lane.current lane' :), record, rfl, fun off => InputRecord.ext_void record ?_⟩
  rw [((h.input n).kept kept).1 (empty.unmeasured.trans off.symm), h.input_eq]

/-- A slot that the new plan removes. -/
theorem removed (h : Lands s u v m t plan) (old : s.pe.active.slots.get n = some a) (new : plan.slots.get n = none) :
    t.lane n = Lane.reset ∧ t.phaseOf n = ⟨0, 0⟩ ∧ t.input n = .reset ∧ t.probe.visit ≠ some n := by
  obtain ⟨empty, lane, input, phase⟩ := h.empty new
  obtain ⟨cleared, zero⟩ := applyLane_removed (s := v) old (h.active ▸ new)
  have renewed : resetByApply s.pe.active v.pe.active n = true := by
    rw [resetByApply, h.active, old, new]
  have taken : v.inputTaken s.pe.active n = .reset := by
    rw [State.inputTaken, if_pos renewed, h.active, new]
    rfl
  have lane' := empty.lane
  rw [cleared] at lane'
  have start : (m.lane n).start = 0 := by
    rcases empty.start with ramped | same
    · exact ramped.trans (congrArg Lane.current lane' :)
    · exact same.trans (by rw [cleared]; rfl)
  have record := (h.input n).record
  rw [taken] at record
  refine ⟨?_, ?_, ?_, ?_⟩
  · rw [lane]
    calc m.lane n = { m.lane n with start := 0 } := by rw [← start]
      _ = Lane.reset := lane'
  · rw [phase, empty.phase, zero]
  · rw [input]
    refine InputRecord.ext_void record ?_
    rw [(h.input n).renewed renewed, voidNow_unmeasured empty.unmeasured]
    rfl
  · rw [h.hands.visit, h.placed]
    exact placed_unvisited renewed

end Lands

end Lands

end Sys2Proof.Machine
end

section
/-! PROOFS. What an apply hands to lanes, mixers and the Input Supervisor (O36). -/

namespace Sys2Proof.Machine

/-! ## The slots of the new plan after an apply (O36) -/

section Arrives
variable {s u v m t : State} {p plan : Plan} {n : Slot} {e a : SlotEntry} {c : Instr}

theorem resetByApply_some (old : p.slots.get n = some a) (new : plan.slots.get n = some e) :
    resetByApply p plan n = true ↔
      ¬(a.inputChain = e.inputChain ∧ a.inputFrequency = e.inputFrequency ∧ a.fallback = e.fallback) := by
  rw [resetByApply, old, new]
  simp only [SlotEntry.sameInputs, Bool.not_eq_true', Bool.eq_false_iff, ne_eq, Bool.and_eq_true, beq_iff_eq, and_assoc]

theorem resetByApply_none (old : p.slots.get n = none) (new : plan.slots.get n = some e) : resetByApply p plan n = true := by
  rw [resetByApply, old, new]

/-- A lane is measured only in a state that its table gives it from a chain that carries it and an input state (R95,
R110). -/
theorem laneStateOf_measured (slot : (s.lane n).slot = some e) (measured : (s.laneStateOf n).measured = true) :
    (s.seq e.outputChain).state.carriesLanes = true ∧
      ∃ i, (s.input n).inputState = some i ∧ i.laneState.measured = true := by
  have live {b : Prop} (no : b → s.laneStateOf n = .held) : ¬b := fun is => by
    rw [no is] at measured
    exact Bool.false_ne_true measured
  have carries := Bool.of_not_eq_false (live fun off => laneStateOf_held slot (.inl off))
  have enabled := Bool.of_not_eq_false (live fun off => laneStateOf_held slot (.inr (.inl off)))
  have verified := Bool.of_not_eq_false (live fun off => laneStateOf_held slot (.inr (.inr off)))
  refine ⟨carries, ?_⟩
  rw [State.laneStateOf, slot] at measured
  dsimp only at measured
  rw [carries, enabled, verified] at measured
  cases input : (s.input n).inputState with
  | none =>
    rw [input] at measured
    exact absurd measured Bool.false_ne_true
  | some i =>
    rw [input] at measured
    exact ⟨i, rfl, measured⟩

namespace Lands

theorem carried (h : Lands s u v m t plan) (new : plan.slots.get n = some e) : Carried s.pe.active n e v m t := by
  have placed : PlacedLane s.pe.active n e v m := h.placed ▸ placed_lane (h.slot_eq n) (h.active ▸ new)
  exact ⟨h.place, placed, h.input n, h.hands.time, h.hands.lanes n e placed.slot, h.hands.inputs n⟩

/-- The slot of every entry stands as its tables say, set to ramp from where it is. -/
theorem entry (h : Lands s u v m t plan) (new : plan.slots.get n = some e) : (t.lane n).slot = some e ∧
    (t.lane n).state = t.laneStateOf n ∧ (t.lane n).target = t.targetOf n (t.lane n).state ∧
    (t.lane n).start = (t.lane n).current := by
  have carried := h.carried new
  exact ⟨(h.hands.slots n).trans carried.placed.slot, (h.agreed.agrees n).1, (h.agreed.agrees n).2, carried.start⟩

/-- The record of a slot whose input the apply changes (R119). -/
theorem fresh (h : Lands s u v m t plan) (new : plan.slots.get n = some e)
    (renewed : resetByApply s.pe.active plan n = true) :
    t.input n = { InputRecord.fresh with windowVoid := t.voidNow n } ∧ t.probe.visit ≠ some n := by
  have carried := h.carried new
  have renewed : resetByApply s.pe.active v.pe.active n = true := by rw [h.active, renewed]
  have record := carried.recorded
  rw [State.inputTaken, if_pos renewed, h.active, new] at record
  refine ⟨InputRecord.ext_void record (carried.renewed renewed), ?_⟩
  rw [h.hands.visit, h.placed]
  exact placed_unvisited renewed

/-- A slot that keeps its chain and its record, measured before, is measured once placed unless it is barred (R110). -/
theorem stays_measured (h : Lands s u v m t plan) (old : s.pe.active.slots.get n = some a)
    (new : plan.slots.get n = some e) (chain : a.outputChain = e.outputChain)
    (record : { m.input n with windowVoid := true } = { s.input n with windowVoid := true })
    (stands : (s.lane n).state = s.laneStateOf n) (measured : (s.lane n).state.measured = true) :
    (m.lane n).state.measured = true ∨ m.Barred n e := by
  by_cases barred : m.Barred n e
  · exact .inr barred
  · obtain ⟨carries, i, is, live⟩ := laneStateOf_measured ((h.slots n).trans old) (stands ▸ measured)
    simp only [State.Barred, not_or, Bool.not_eq_false] at barred
    obtain ⟨-, enabled, draws⟩ := barred
    have seq : (m.seq e.outputChain).state = (s.seq a.outputChain).state := by
      rw [h.placed, placed_seq, chain, ← h.seq_eq]
      rfl
    have slot := (h.carried new).placed.slot
    refine .inl ?_
    rw [(h.decided.agrees n).1, laneStateOf_live slot (by rw [seq]; exact carries) enabled draws ((congrArg InputRecord.inputState record :).trans is)]
    exact live

/-- The record, the window and the visit of a slot that keeps its inputs (R110, R116, R119). -/
theorem kept (h : Lands s u v m t plan) (old : s.pe.active.slots.get n = some a) (new : plan.slots.get n = some e)
    (same : a.inputChain = e.inputChain ∧ a.inputFrequency = e.inputFrequency ∧ a.fallback = e.fallback) :
    { t.input n with windowVoid := true } = { s.input n with windowVoid := true } ∧
      ((t.lane n).state.measured ≠ (s.lane n).state.measured → (t.input n).windowVoid = t.voidNow n) ∧
      ((t.lane n).state.measured = true → (s.lane n).state.measured = true → (s.lane n).state = s.laneStateOf n →
        a.outputChain = e.outputChain → (t.input n).windowVoid = (s.input n).windowVoid) ∧
      (s.probe.visit = some n → t.probe = { s.probe with
        clean := s.probe.clean && (!s.isVerified (.rx e.inputChain) || t.isVerified (.rx e.inputChain)) }) := by
  have carried := h.carried new
  have kept : resetByApply s.pe.active v.pe.active n = false := by
    rw [h.active]
    exact Bool.eq_false_iff.mpr fun renewed => (resetByApply_some old new).mp renewed same
  have taken : v.inputTaken s.pe.active n = s.input n := (if_neg (by rw [kept]; exact nofun)).trans (h.input_eq n)
  have middle := (h.input n).record
  rw [taken] at middle
  refine ⟨carried.record.trans middle, fun changed => carried.window_changed kept (by rw [h.lane_eq]; exact changed),
    fun after before stands chain => ?_, fun visit => ?_⟩
  · rw [← h.input_eq]
    refine carried.window_kept kept (fun _ => ?_) (h.agreed.standing.barred (h.entry new).1) (by rw [h.lane_eq]; exact before)
      after
    exact h.stays_measured old new chain middle stands before
  · have probe : m.probe = s.probe := by
      rw [h.placed, placed_visit (by rw [h.probe, visit]) kept, h.probe]
    have verified : m.isVerified (.rx e.inputChain) = s.isVerified (.rx e.inputChain) := by
      rw [State.isVerified, h.place.synth_eq]
      exact h.verified_eq _
    rw [h.hands.probe n e (by rw [probe, visit]) carried.placed.slot, probe, verified]

end Lands

/-- Settles O36: the slots are placed one by one, the lanes decided, and every further step of the hand-over can only
hold a lane, mute it where its source has left VERIFIED, reset a phase that waited, or make words none. -/
theorem applyHandsLanes : Obligations.ApplyHandsLanes := by
  intro c s u p plan mark pending change slots level counter
  obtain ⟨v, departs, run⟩ := exec_departs mark pending change
  have h := departs.lands slots counter
  generalize (v.placed s.pe.active).handRest s.pe.active = t at run h
  refine ⟨t, run, h.time_eq.1, h.mixer, fun n old new => h.bare old new, fun n a old new => ?_,
    fun n e new => ?_⟩
  · rw [reset_input]
    exact h.removed old new
  intro l word words void fresh
  obtain ⟨slot, state, target, start⟩ := h.entry new
  have carried := h.carried new
  have active : v.pe.active.slots.get n = some e := h.active ▸ new
  have isFresh (renewed : resetByApply s.pe.active plan n = true) : fresh := by
    obtain ⟨input, visit⟩ := h.fresh new renewed
    dsimp only [fresh]
    rw [input]
    exact ⟨rfl, rfl, rfl, rfl, rfl, rfl, rfl, rfl, h.void_eq n, visit⟩
  have isNew (misses : s.pe.active.Misses n e) :
      l.current = 0 ∧ words none none none ∧ t.phaseOf n = ⟨0, 0⟩ ∧ l.phaseReset = false := by
    have := carried.new misses active
    rw [h.active] at this
    exact this
  refine ⟨slot, state, target, start, fun none => ?_, fun a old => ⟨fun apart => ?_, fun chain => ?_, fun same => ?_, fun changed => ?_⟩⟩
  · obtain ⟨current, words, phase, reset⟩ := isNew fun a old => nomatch none.symm.trans old
    exact ⟨current, words, phase, reset, isFresh (resetByApply_none none new)⟩
  · exact isNew fun b old' => Option.some.inj (old.symm.trans old') ▸ apart
  · have := carried.stays old active chain
    rw [h.active, h.lane_eq, h.phase_eq] at this
    exact this
  · obtain ⟨record, moved, stays, visit⟩ := h.kept old new same
    exact ⟨record, fun measured => (moved measured).trans (h.void_eq n), stays, visit⟩
  · exact isFresh ((resetByApply_some old new).mpr changed)

end Arrives

end Sys2Proof.Machine
end
